-- ==== Sys2Proof/Word.lean ====
section
/-! DEFINITION. Words of the PB8: octets, the 14-bit sequence circle, and pair numbers. -/

namespace Sys2Proof

/-- An octet: always 8 bits (00_scope.md, Conventions, Numbers). -/
abbrev Octet := BitVec 8

/-- A sequence number, 0 to 16383, on a circle of 16384 values (R4). -/
abbrev Seq := BitVec 14

/-- A pair number, 0 to 7 (00_scope.md, Conventions, Names). -/
abbrev PairNo := Fin 8

/-- The eight pair numbers in ascending order. -/
def allPairs : List PairNo := [0, 1, 2, 3, 4, 5, 6, 7]

end Sys2Proof
end

