-- ==== Sys2Proof/Syntax.lean ====
section
/-! DEFINITION. The commands of the PB8, one constructor per row of spec/opcode_table.json, with their operands. -/

namespace Sys2Proof

/-- Line state of a REPORT (R17). -/
inductive LineState where
  | idle | training | showtime
  deriving DecidableEq, Repr

/-- The three straps as sampled at the release of RESET_N (R167). `fitted` is the value of FITTED[2:0], one less
than the fitted count. -/
structure Straps where
  fitted : Fin 8
  spi : Bool
  autostart : Bool
  deriving DecidableEq, Repr

/-- The commands. A request carries its tag and its body octets as laid out in R184 [4]. -/
inductive Instr where
  /-- RESET (R181): power-on or release of RESET_N, sampling the straps. -/
  | reset (straps : Straps)
  /-- MGMT_FRAME_COMPLETE (R170): the frame gathered is tested. -/
  | mgmtFrameComplete
  /-- CHARACTER_GAP_TIMEOUT (R171): 10 ms without a character in UART mode. -/
  | characterGapTimeout
  /-- SPI_TRANSFER_END (R171): MG_CS_N goes high. -/
  | spiTransferEnd
  /-- MESSAGE_SENT (R168, R169): the last octet of the head message has gone out. -/
  | messageSent
  /-- UNKNOWN_REQUEST (R174): a message whose kind is no request kind is taken. -/
  | unknownRequest (kind tag : Octet) (body : List Octet)
  /-- IDENTIFY (R176). -/
  | identify (tag : Octet) (body : List Octet)
  /-- CONFIGURE-BOND (R177, R178). -/
  | configureBond (tag : Octet) (body : List Octet)
  /-- RELEASE (R179). -/
  | release (tag : Octet) (body : List Octet)
  /-- RESET-BOND (R182). -/
  | resetBond (tag : Octet) (body : List Octet)
  /-- CONFIGURE-PAIR (R68). -/
  | configurePair (tag : Octet) (body : List Octet)
  /-- ENABLE-PAIR (R66). -/
  | enablePair (tag : Octet) (body : List Octet)
  /-- DISABLE-PAIR (R67). -/
  | disablePair (tag : Octet) (body : List Octet)
  /-- PROBE-PAIR (R69). -/
  | probePair (tag : Octet) (body : List Octet)
  /-- CONFIGURE-MEMORY (R81). -/
  | configureMemory (tag : Octet) (body : List Octet)
  /-- WRITE-RULE (R92). -/
  | writeRule (tag : Octet) (body : List Octet)
  /-- READ-RULE (R93). -/
  | readRule (tag : Octet) (body : List Octet)
  /-- TRY-CLASSIFY (R94). -/
  | tryClassify (tag : Octet) (body : List Octet)
  /-- CONFIGURE-CLASS (R98). -/
  | configureClass (tag : Octet) (body : List Octet)
  /-- FLUSH-REORDER (R157). -/
  | flushReorder (tag : Octet) (body : List Octet)
  /-- READ-GAPS (R160). -/
  | readGaps (tag : Octet) (body : List Octet)
  /-- SET-NOTICES (R186). -/
  | setNotices (tag : Octet) (body : List Octet)
  /-- READ-PAIR (R191). -/
  | readPair (tag : Octet) (body : List Octet)
  /-- READ-BOND (R192). -/
  | readBond (tag : Octet) (body : List Octet)
  /-- READ-COUNTERS (R190). -/
  | readCounters (tag : Octet) (body : List Octet)
  /-- NOTICE_BUILD (R188): the lowest pending instance is built into a NOTICE. -/
  | noticeBuild
  /-- REPORT from the transceiver of pair `p` (R17, R20). -/
  | report (p : PairNo) (line : LineState) (upRate downRate : BitVec 16) (upDelay downDelay : BitVec 8)
  /-- TAKEN from the transceiver of pair `p` (R17, R28). -/
  | taken (p : PairNo) (octets : BitVec 16)
  /-- FRAGMENT from the transceiver of pair `p` (R13). -/
  | fragmentReceived (p : PairNo) (octets : List Octet)
  /-- A port message of unknown kind, or a faulty REPORT or TAKEN (R17). -/
  | portUnknownMessage (p : PairNo) (octets : List Octet)
  /-- Expiry of the silence timer (R21). -/
  | silenceTimerExpiry (p : PairNo)
  /-- The LINE_GUARD pin of pair `p` takes a level (R36). -/
  | lineGuardChange (p : PairNo) (asserted : Bool)
  /-- Expiry of the 20 ms assert timer (R36). -/
  | guardAssertTimerExpiry (p : PairNo)
  /-- Expiry of the 5000 ms clear timer (R36). -/
  | guardClearTimerExpiry (p : PairNo)
  /-- Expiry of the holdoff timer (R45). -/
  | holdoffTimerExpiry (p : PairNo)
  /-- Expiry of the join timer (R52). -/
  | joinTimerExpiry (p : PairNo)
  /-- Expiry of the join repeat timer (R47). -/
  | joinRepeatTimerExpiry (p : PairNo)
  /-- Expiry of the leave timer (R59). -/
  | leaveTimerExpiry (p : PairNo)
  /-- Expiry of the penalty timer (R63). -/
  | penaltyTimerExpiry (p : PairNo)
  /-- Expiry of the progress timer (R54). -/
  | progressTimerExpiry (p : PairNo)
  /-- Expiry of the gap timer (R154). -/
  | gapTimerExpiry
  /-- The PHY delivers a run of octets ending with the FCS, with or without a receive error (R84). -/
  | lanFrameReceived (run : List Octet) (rxError : Bool)
  /-- The last FCS octet of the head frame has passed to the PHY (R163). -/
  | lanFrameSent
  /-- The PHY link status input takes a level (R164). -/
  | lanLinkChange (up : Bool)
  /-- An octet is received on the management link; `stopBit` is false for a UART character with a low level where
  its stop bit should be (R168, R170). -/
  | mgmtOctetReceived (octet : Octet) (stopBit : Bool)
  deriving DecidableEq, Repr

end Sys2Proof
end

