-- ==== Sys2Proof/Config.lean ====
section
/-! DEFINITION. What a PB8 fixes once: sizes of its stores, fixed times, and the free values of the model. -/

namespace Sys2Proof.Config

/-- Cells of the pool (R72). -/
def poolCells : Nat := 3072
/-- Octets of one cell (R72). -/
def cellOctets : Nat := 128
/-- Pressure holds below this many available inbound cells (R79). -/
def pressureBelow : Nat := 24
/-- Entries of a line queue (R24). -/
def queueEntries : Nat := 4
/-- Octet limit of a line queue's backlog (R24). -/
def queueOctets : Nat := 3072
/-- Credit of a transceiver in fragments (R27). -/
def credit : Nat := 2
/-- Slots of the reorder window (R125). -/
def windowSlots : Nat := 1024
/-- Records the gap record queue holds (R159). -/
def gapRecords : Nat := 16
/-- Frames the LAN transmit queue holds (R163). -/
def lanFrames : Nat := 8
/-- Messages the input buffer holds (R172). -/
def inboxMessages : Nat := 4
/-- Messages the output queue holds (R175). -/
def outboxMessages : Nat := 8
/-- Notices the output queue holds at most (R175, R188). -/
def outboxNotices : Nat := 7
/-- Lowest usable effective up rate, in kbit/s (R45). -/
def usableRate : Nat := 64
/-- Silence timer, in ms (R21). -/
def silenceMs : Nat := 500
/-- Guard assert timer, in ms (R36). -/
def guardAssertMs : Nat := 20
/-- Guard clear timer, in ms (R36). -/
def guardClearMs : Nat := 5000
/-- Join repeat timer, in ms (R47). -/
def joinRepeatMs : Nat := 500
/-- Distance from which a renewal is pending (R9). -/
def renewalDistance : Nat := 4096
/-- Largest distance of the reference condition (R8). -/
def referenceDistance : Nat := 8190
/-- The largest value of a 32-bit counter (00_scope.md, Conventions). -/
def counterMax : Nat := 4294967295

/-- FREE VALUE [8] [9] [10] [34]: which of two blocks takes its event first where the rules say the outcome depends on
that order and give no order. The argument counts the uses; nothing constrains the answers. -/
opaque raceFirst : Nat → Bool

end Sys2Proof.Config
end

