-- ==== Sys2Proof/Machine/State.lean ====
section
/-! DEFINITION. The state of the PB8 as plain data, every piece under the rule that names it, and the state after reset. -/

namespace Sys2Proof.Machine

/-- What stops the part. Nothing does: every command of the table is given an effect, errors are counted
(ch. 10, opening), so this type has no value. -/
inductive Fault
  deriving DecidableEq, Repr

/-- Why a command is not run. -/
inductive Refusal where
  /-- Raised by exec for a command that has no meaning yet. Safe: the run stops. -/
  | notModelled (mnemonic : String)
  deriving DecidableEq, Repr

/-! ### Line fragments (R1 to R3) -/

/-- Result of a JOIN-ACK (R3). -/
inductive JoinResult where
  | accept | wrongBond | notReady
  deriving DecidableEq, Repr

/-- Reason of a LEAVE (R3). -/
inductive LeaveReason where
  | host | lowRate | peerLeave | abort
  deriving DecidableEq, Repr

/-- A line fragment by its named fields (R2, R3). `start` and `fin` are START and END. The check word is a function
of the fields, computed over header and payload (R1), so it is not held beside them. -/
inductive Fragment where
  | data (start fin : Bool) (seq : Seq) (payload : List Octet)
  | join (mark : Seq) (bondId : BitVec 16) (pair : PairNo) (epoch : BitVec 8)
  | joinAck (bondId : BitVec 16) (pair : PairNo) (result : JoinResult)
  | leave (reason : LeaveReason)
  | progress (mark : Seq)
  deriving DecidableEq, Repr

/-! ### Pair Port (chapter 2) -/

/-- The order a transceiver is under (R19). -/
inductive Order where
  | unordered | quiet | train
  deriving DecidableEq, Repr

/-- Debounced guard state (R36). -/
inductive GuardState where
  | clear | active
  deriving DecidableEq, Repr

/-- A report as kept after clamping (R20): rates in kbit/s, delays in ms. -/
structure Report where
  line : LineState
  upRate : Nat
  downRate : Nat
  upDelay : Nat
  downDelay : Nat
  deriving DecidableEq, Repr

/-- The report held before the first REPORT and while the transceiver is absent (R20). -/
def Report.none : Report := { line := .idle, upRate := 0, downRate := 0, upDelay := 0, downDelay := 0 }

/-- One entry of a line queue: a whole fragment, STAGED or HANDED (R24). -/
structure Entry where
  frag : Fragment
  handed : Bool
  deriving DecidableEq, Repr

/-- A message the part sends to a transceiver (R17). -/
inductive PortMessage where
  | fragment (f : Fragment)
  | order (o : Order)
  deriving DecidableEq, Repr

/-- A Pair Port (R19 to R36). Timers are deadlines in the millisecond time. -/
structure Port where
  order : Order
  report : Report
  present : Bool
  silence : Option Nat
  queue : List Entry
  takenFromHead : Nat
  residue : List Nat
  guard : GuardState
  debounce : Option Nat
  guardPin : Bool
  /-- The MODEL's own [17]: messages sent on PnTXD since reset, oldest first. -/
  sent : List PortMessage
  deriving DecidableEq, Repr

/-- A Pair Port after reset, its LINE_GUARD pin deasserted [15]. -/
def Port.reset : Port :=
  { order := .unordered, report := Report.none, present := false, silence := .none, queue := [], takenFromHead := 0,
    residue := [], guard := .clear, debounce := .none, guardPin := false, sent := [] }

/-! ### Pair Controller (chapter 3) -/

/-- The nine lifecycle states, in the order R38 lists them. -/
inductive PairState where
  | vacant | parked | training | settling | joining | active | leaving | quarantine | faulted
  deriving DecidableEq, Repr

/-- The twelve reasons, in the order R40 lists them. -/
inductive Reason where
  | notFitted | silent | host | notReleased | lineDrop | lowRate | fault | flapping | joinTimeout | crossBond
  | peerLeave | peerRestart
  deriving DecidableEq, Repr

/-- The form of a leave (R38). -/
inductive LeaveForm where
  | noLeave | graceful | abort
  deriving DecidableEq, Repr

/-- What a pair's state timer runs as (R38). -/
inductive StateTimer where
  | holdoff | join | leave | penalty
  deriving DecidableEq, Repr

/-- The counters of a pair group, in the order READ-COUNTERS returns them (10.4). -/
inductive PairCounter where
  | fragmentsSent | octetsSent | fragmentsReceived | badCheck | malformed | takenExcess | lostOnDrop | withdrawn
  | retrains | quarantines | faults | leaveTimeouts
  deriving DecidableEq, Repr

/-- A pair record (R38), with the outbound reference and the pending renewal (R8, R9) and the pair group's counters. -/
structure Pair where
  state : PairState
  reason : Reason
  enabled : Bool
  derate : Nat
  outboundJoined : Bool
  peerLeft : Bool
  leaveTaken : Bool
  leaveForm : LeaveForm
  hostDisable : Bool
  stateTimer : Option (StateTimer × Nat)
  joinRepeat : Option Nat
  progressTimer : Option Nat
  /-- The waiting JOIN-ACK: the echoed pair index and the result (R48) [25]. -/
  waitAck : Option (PairNo × JoinResult)
  waitJoin : Bool
  waitLeave : Option LeaveReason
  flaps : List Nat
  outRef : Option Seq
  renewal : Bool
  counters : Vector Nat 12
  deriving DecidableEq, Repr

/-- A pair record after reset (R38). -/
def Pair.reset (isFitted autostart : Bool) : Pair :=
  { state := .vacant, reason := if isFitted then .silent else .notFitted, enabled := isFitted && autostart, derate := 100,
    outboundJoined := false, peerLeft := false, leaveTaken := false, leaveForm := .noLeave, hostDisable := false,
    stateTimer := none, joinRepeat := none, progressTimer := none, waitAck := none, waitJoin := false,
    waitLeave := none, flaps := [], outRef := none, renewal := false, counters := Vector.replicate 12 0 }

/-! ### Cell Memory (chapter 4) -/

/-- Inbound store level (R80), in the order R192 lists the values [14]. -/
inductive StoreLevel where
  | empty | low | half | pressure
  deriving DecidableEq, Repr

/-- The two sides of the cell pool (R73). -/
inductive Side where
  | outbound | inbound
  deriving DecidableEq, Repr

/-- The Cell Memory (R72, R73, R79, R80). -/
structure Cells where
  rOut : Nat
  rIn : Nat
  usedOut : Nat
  usedIn : Nat
  pressure : Bool
  level : StoreLevel
  /-- The MODEL's own [7]: pressure events told (true: begins) that the Reorder Engine has not taken yet. -/
  tells : List Bool
  deriving DecidableEq, Repr

/-- The Cell Memory after reset (R72, R82). -/
def Cells.reset : Cells :=
  { rOut := 768, rIn := 1536, usedOut := 0, usedIn := 0, pressure := false, level := .empty, tells := [] }

/-! ### LAN ingress (chapter 5) -/

/-- Selectors of a rule (R86), in the order R184 numbers them. -/
inductive Selector where
  | etherType | vlanPcp | vlanId | dstMac | ipv4Dscp | ipv4Protocol | any
  deriving DecidableEq, Repr

/-- Actions of a rule (R86). -/
inductive Action where
  | toClass (c : Fin 4)
  | discard
  deriving DecidableEq, Repr

/-- A rule record (R86). -/
structure Rule where
  inUse : Bool
  selector : Selector
  value : BitVec 48
  mask : BitVec 48
  minLength : Option Nat
  action : Action
  hits : Nat
  deriving DecidableEq, Repr

/-- A rule record after reset (R86). -/
def Rule.reset : Rule :=
  { inUse := false, selector := .any, value := 0, mask := 0, minLength := none, action := .toClass 0, hits := 0 }

/-- A frame admitted to the outbound half (R95). -/
structure OutFrame where
  octets : List Octet
  cells : Nat
  admitted : Nat
  order : Nat
  deriving DecidableEq, Repr

/-- One class queue with its settings (R95). -/
structure ClassQueue where
  frames : List OutFrame
  limit : Nat
  ageLimit : Nat
  deriving DecidableEq, Repr

/-- A class queue after reset (R95). -/
def ClassQueue.reset : ClassQueue := { frames := [], limit := 64, ageLimit := 0 }

/-! ### Fragment Dispatcher (chapter 6) -/

/-- The split plan of the frame being split (R106). `pMax` is the latched P. -/
structure SplitPlan where
  octets : List Octet
  cells : Nat
  pMax : Nat
  k : Nat
  large : Nat
  small : Nat
  largeCount : Nat
  current : Nat
  offset : Nat
  deriving DecidableEq, Repr

/-- The Fragment Dispatcher (R104). `midRun` is the model's own: a run has stopped between two fragments of its frame for
an event at a pair that waits, and goes on at that event (R114) [32]; `held` is then set too, and no hold is counted. -/
structure Dispatcher where
  next : Seq
  split : Option SplitPlan
  held : Bool
  standing : Bool
  midRun : Bool := false
  deriving DecidableEq, Repr

/-- The Fragment Dispatcher after either reset (R104, R122). -/
def Dispatcher.reset : Dispatcher := { next := 0, split := none, held := false, standing := true }

/-! ### Reorder Engine, Frame Assembler, LAN Port (chapters 7 and 8) -/

/-- A stored fragment (R125); its length is the payload's. -/
structure FragRecord where
  seq : Seq
  start : Bool
  fin : Bool
  cells : Nat
  payload : List Octet
  deriving DecidableEq, Repr

/-- Causes of a declaration of loss (R150), in the order R184 numbers them. -/
inductive LossCause where
  | overtaken | timeout | pressure | window | flush | peerRestart
  deriving DecidableEq, Repr

/-- A gap record (R159); `live` has bit n set for pair n. -/
structure GapRecord where
  first : Seq
  count : Nat
  cause : LossCause
  live : BitVec 8
  time : Nat
  deriving DecidableEq, Repr

/-- The Reorder Engine (R124, R148, R152, R153, R155, R157, R159). `window` lists the occupied slots in rising order;
`live` holds the progress mark of each live pair. -/
structure Receiver where
  synced : Bool
  nes : Seq
  peerEpoch : BitVec 8
  window : List FragRecord
  live : Vector (Option Seq) 8
  gapTimer : Option Nat
  tReorder : Nat
  paused : Bool
  flush : Option Seq
  gaps : List GapRecord
  pressureFlag : Bool
  deriving DecidableEq, Repr

/-- The Reorder Engine after reset (R124, R148, R152, R153, R155, R157, R159). -/
def Receiver.reset : Receiver :=
  { synced := false, nes := 0, peerEpoch := 0, window := [], live := Vector.replicate 8 none, gapTimer := none,
    tReorder := 70, paused := false, flush := none, gaps := [], pressureFlag := false }

/-- The Frame Assembler (R161). -/
inductive Assembler where
  | idle
  | collecting (octets : List Octet) (cells : Nat)
  | discarding (charged : Bool)
  deriving DecidableEq, Repr

/-- A frame of the LAN transmit queue with the inbound cells it holds (R163). -/
structure LanFrame where
  octets : List Octet
  cells : Nat
  deriving DecidableEq, Repr

/-- What the LAN Port did on the MII transmit side (R163, R164). -/
inductive MiiEvent where
  /-- A frame with its freshly computed FCS has been passed. -/
  | frame (octetsWithFcs : List Octet)
  /-- A frame was cut short with a transmit error. -/
  | cutShort (octets : List Octet)
  deriving DecidableEq, Repr

/-- The LAN Port's transmit side and link state (R163, R164). -/
structure Lan where
  linkUp : Bool
  linkPin : Bool
  txQueue : List LanFrame
  /-- The MODEL's own [17]: what was passed to the PHY since reset, oldest first. -/
  mii : List MiiEvent
  deriving DecidableEq, Repr

/-- The LAN Port after reset, its link status input down [15]. -/
def Lan.reset : Lan := { linkUp := false, linkPin := false, txQueue := [], mii := [] }

/-! ### Management Link (chapters 9 and 10) -/

/-- A message: kind, tag and body (R184). -/
structure Message where
  kind : Octet
  tag : Octet
  body : List Octet
  deriving DecidableEq, Repr

/-- The receive framer (R170). In COLLECT, `kept` holds the octets gathered after the length octet. -/
inductive Framer where
  | hunt
  | length
  | collect (n : Nat) (kept : List Octet)
  deriving DecidableEq, Repr

/-- The 25 notice instances (R185). -/
inductive NoticeInst where
  | bondState
  | pairState (p : PairNo)
  | commandDone (p : PairNo)
  | flushDone
  | queueFull (c : Fin 4)
  | storeLevel
  | gapRecorded
  | lanLink
  deriving DecidableEq, Repr

/-- The Management Link (R167, R170, R172, R175, R177, R179, R186, R187). -/
structure Mgmt where
  fitted : Nat
  spi : Bool
  autostart : Bool
  released : Bool
  framer : Framer
  inbox : List Message
  outbox : List Message
  /-- Octets of the head message of the output queue that have been clocked out (R169). -/
  sentOctets : Nat
  bondId : BitVec 16
  epoch : BitVec 8
  mask : BitVec 7
  notices : Vector Nat 25
  /-- The MODEL's own [17]: octets put on MG_TXD or MG_MISO since reset, oldest first. -/
  linkOut : List Octet
  deriving DecidableEq, Repr

/-- The Management Link after reset (R181). -/
def Mgmt.reset (straps : Straps) : Mgmt :=
  { fitted := straps.fitted.val + 1, spi := straps.spi, autostart := straps.autostart, released := straps.autostart,
    framer := .hunt, inbox := [], outbox := [], sentOctets := 0, bondId := 1, epoch := 0, mask := 0,
    notices := Vector.replicate 25 0, linkOut := [] }

/-- The bond-wide settings other than bond id and epoch (R177). -/
structure BondConfig where
  pMax : Nat
  defaultClass : Fin 4
  margin : Nat
  holdoff : Nat
  joinTimeout : Nat
  leaveTimeout : Nat
  penalty : Nat
  flapWindow : Nat
  flapThreshold : Nat
  progressInterval : Nat
  deriving DecidableEq, Repr

/-- The bond-wide settings after reset (R177). -/
def BondConfig.reset : BondConfig :=
  { pMax := 256, defaultClass := 1, margin := 5, holdoff := 3000, joinTimeout := 10, leaveTimeout := 2000,
    penalty := 60, flapWindow := 300, flapThreshold := 4, progressInterval := 10 }

/-- The counters of the bond group, in the order READ-COUNTERS returns them (10.4). -/
inductive BondCounter where
  | peerRestarts
  | outboundNoCells | inboundNoCells | assemblyNoCells | pressureEntries
  | lanFramesReceived | oversize | runt | badFcs | shortForRule | ruleDiscard | noPath
  | queueFull (c : Fin 4)
  | agePromotions
  | fragmentsDispatched | framesDispatched | dispatchHolds
  | dataArrived | notJoined | duplicate | stale | windowSlides | slideOverrun | restartDiscarded | resyncs
  | lostSequences | gapTimeouts | gapRecordsDropped | flushes | framesDelivered | orphan | truncated | broken
  | assemblyOversize | assemblyMalformed | lanFramesSent | lanDown
  | mgmtBadLength | mgmtBadCheck | mgmtAbandoned | rxOverrun
  deriving DecidableEq, Repr

/-! ### The whole part -/

/-- The state of the PB8. -/
structure State where
  /-- The MODEL's own: the commands waiting, first in, first out. -/
  pending : List Instr
  /-- The millisecond time (R193) [1]. -/
  now : Nat
  mgmt : Mgmt
  cfg : BondConfig
  ports : Vector Port 8
  pairs : Vector Pair 8
  cells : Cells
  rules : Vector Rule 64
  classes : Vector ClassQueue 4
  /-- The admission order the next admitted frame takes (R95). -/
  nextOrder : Nat
  disp : Dispatcher
  rx : Receiver
  asm : Assembler
  lan : Lan
  counters : Vector Nat 44
  /-- The MODEL's own: how many free values have been used [8] [9] [10] [27] [34]. -/
  freeCount : Nat
  deriving DecidableEq, Repr

/-- The state after reset with the straps as sampled (R181), every input pin deasserted. -/
def State.resetWith (straps : Straps) : State :=
  { pending := [], now := 0, mgmt := Mgmt.reset straps, cfg := BondConfig.reset,
    ports := Vector.replicate 8 Port.reset,
    pairs := Vector.ofFn fun p : Fin 8 => Pair.reset (p.val < straps.fitted.val + 1) straps.autostart,
    cells := Cells.reset, rules := Vector.replicate 64 Rule.reset,
    classes := Vector.replicate 4 ClassQueue.reset, nextOrder := 0, disp := Dispatcher.reset, rx := Receiver.reset,
    asm := .idle, lan := Lan.reset, counters := Vector.replicate 44 0, freeCount := 0 }

/-- The straps of `State.reset` [15]: eight pairs fitted, UART, no AUTOSTART. -/
def resetStraps : Straps := { fitted := 7, spi := false, autostart := false }

/-- The machine right after reset (R181). -/
def State.reset : State := State.resetWith resetStraps

end Sys2Proof.Machine
end

