-- ==== Sys2Proof/Machine/Ops.lean ====
section
/-! DEFINITION. Shared operations: sequence arithmetic, time, per-pair access, counters, notice occurrences, and the
free choice between two blocks. -/

namespace Sys2Proof.Machine

/-! ### Sequence numbers (R4) -/

/-- The distance (a − b) mod 16384 (R4). -/
def dist (a b : Seq) : Nat := (a - b).toNat

/-- `a` is ahead of `b`: distance 1 to 8191 (R4). -/
def ahead (a b : Seq) : Bool := 1 ≤ dist a b && dist a b ≤ 8191

/-- `a` is behind `b`: distance 8192 to 16383 (R4). -/
def behind (a b : Seq) : Bool := 8192 ≤ dist a b

/-- The later of two sequence numbers; at the half-point the first named (R4). -/
def laterOf (a b : Seq) : Seq := if ahead b a then b else a

/-- The quotient rounded up (00_scope.md, Conventions, Arithmetic). -/
def ceilDiv (a b : Nat) : Nat := (a + b - 1) / b

/-- Cells that `n` octets occupy (R74). -/
def cellsFor (n : Nat) : Nat := ceilDiv n Config.cellOctets

/-- A value brought to the nearer limit of a range (00_scope.md, Conventions, Settings). -/
def clamp (lo hi v : Nat) : Nat := if v < lo then lo else if hi < v then hi else v

/-! ### Time (R193, R194) -/

/-- One millisecond of time (R193) [1]. -/
def tick (s : State) : State := { s with now := s.now + 1 }

/-- A timer's expiry is taken: the time has reached its deadline (R193, R194) [2]. -/
def State.reach (deadline : Nat) (s : State) : State := { s with now := max s.now deadline }

/-- The time remaining to a deadline; 0 once it has been reached (R194). -/
def State.remaining (s : State) (deadline : Nat) : Nat := deadline - s.now

/-! ### Ports, pairs, live set -/

/-- The Pair Port of a pair. -/
def State.port (s : State) (p : PairNo) : Port := s.ports[p.val]

/-- The Pair Port of a pair replaced. -/
def State.setPort (p : PairNo) (x : Port) (s : State) : State := { s with ports := s.ports.set p.val x }

/-- The Pair Port of a pair changed. -/
def State.modPort (p : PairNo) (f : Port → Port) (s : State) : State := s.setPort p (f (s.port p))

/-- The pair record of a pair. -/
def State.pair (s : State) (p : PairNo) : Pair := s.pairs[p.val]

/-- The pair record of a pair replaced. -/
def State.setPair (p : PairNo) (x : Pair) (s : State) : State := { s with pairs := s.pairs.set p.val x }

/-- The pair record of a pair changed. -/
def State.modPair (p : PairNo) (f : Pair → Pair) (s : State) : State := s.setPair p (f (s.pair p))

/-- The pair is fitted: its number is below the fitted count (R23, R167). -/
def State.isFitted (s : State) (p : PairNo) : Bool := p.val < s.mgmt.fitted

/-- The progress mark of a pair, absent when it is not in the live set (R129). -/
def State.mark (s : State) (p : PairNo) : Option Seq := s.rx.live[p.val]

/-- The progress mark of a pair replaced. -/
def State.setMark (p : PairNo) (m : Option Seq) (s : State) : State :=
  { s with rx := { s.rx with live := s.rx.live.set p.val m } }

/-- The pair is in the live set (R129). -/
def State.isLive (s : State) (p : PairNo) : Bool := (s.mark p).isSome

/-- A set of pairs as one octet with bit n for pair n (R184). -/
def pairSet (member : PairNo → Bool) : BitVec 8 :=
  BitVec.ofNat 8 ((allPairs.map fun p => if member p then 2 ^ p.val else 0).sum)

/-- The live set as a set of pair indices. -/
def State.liveSet (s : State) : BitVec 8 := pairSet s.isLive

/-- The pair is in the ACTIVE set (R39). -/
def State.isActive (s : State) (p : PairNo) : Bool := (s.pair p).state == .active

/-- The ACTIVE set as a set of pair indices. -/
def State.activeSet (s : State) : BitVec 8 := pairSet s.isActive

/-- The count of ACTIVE pairs (R39). -/
def State.activeCount (s : State) : Nat := allPairs.countP s.isActive

/-! ### Counters (00_scope.md, Conventions, Names) -/

/-- A 32-bit counter grows by `n` and stops at its largest value. -/
def countUp (c n : Nat) : Nat := min (c + n) Config.counterMax

/-- The place of a pair counter in its group (10.4). -/
def PairCounter.place : PairCounter → Fin 12
  | .fragmentsSent => 0 | .octetsSent => 1 | .fragmentsReceived => 2 | .badCheck => 3 | .malformed => 4
  | .takenExcess => 5 | .lostOnDrop => 6 | .withdrawn => 7 | .retrains => 8 | .quarantines => 9 | .faults => 10
  | .leaveTimeouts => 11

/-- The place of a bond counter in its group (10.4). -/
def BondCounter.place : BondCounter → Fin 44
  | .peerRestarts => 0 | .outboundNoCells => 1 | .inboundNoCells => 2 | .assemblyNoCells => 3 | .pressureEntries => 4
  | .lanFramesReceived => 5 | .oversize => 6 | .runt => 7 | .badFcs => 8 | .shortForRule => 9 | .ruleDiscard => 10
  | .noPath => 11 | .queueFull c => ⟨12 + c.val, by omega⟩ | .agePromotions => 16
  | .fragmentsDispatched => 17 | .framesDispatched => 18 | .dispatchHolds => 19
  | .dataArrived => 20 | .notJoined => 21 | .duplicate => 22 | .stale => 23 | .windowSlides => 24
  | .slideOverrun => 25 | .restartDiscarded => 26 | .resyncs => 27
  | .lostSequences => 28 | .gapTimeouts => 29 | .gapRecordsDropped => 30 | .flushes => 31 | .framesDelivered => 32
  | .orphan => 33 | .truncated => 34 | .broken => 35 | .assemblyOversize => 36 | .assemblyMalformed => 37
  | .lanFramesSent => 38 | .lanDown => 39
  | .mgmtBadLength => 40 | .mgmtBadCheck => 41 | .mgmtAbandoned => 42 | .rxOverrun => 43

/-- The value of a bond counter. -/
def State.counter (s : State) (c : BondCounter) : Nat := s.counters[c.place.val]

/-- A bond counter grows by `n`. -/
def State.countBy (c : BondCounter) (n : Nat) (s : State) : State :=
  { s with counters := s.counters.set c.place.val (countUp (s.counter c) n) }

/-- The event is counted in the bond group. -/
def State.count (c : BondCounter) (s : State) : State := s.countBy c 1

/-- The value of a pair counter. -/
def Pair.counter (r : Pair) (c : PairCounter) : Nat := r.counters[c.place.val]

/-- A pair counter grows by `n`. -/
def Pair.countBy (c : PairCounter) (n : Nat) (r : Pair) : Pair :=
  { r with counters := r.counters.set c.place.val (countUp (r.counter c) n) }

/-- A pair counter of pair `p` grows by `n`. -/
def State.countPairBy (p : PairNo) (c : PairCounter) (n : Nat) (s : State) : State := s.modPair p (Pair.countBy c n)

/-- The event is counted in the pair group of pair `p`. -/
def State.countPair (p : PairNo) (c : PairCounter) (s : State) : State := s.countPairBy p c 1

/-! ### Notice occurrences (R185 to R187) -/

/-- The cause number of an instance (R185). -/
def NoticeInst.cause : NoticeInst → Nat
  | .bondState => 1 | .pairState _ => 2 | .commandDone _ => 3 | .flushDone => 3 | .queueFull _ => 4
  | .storeLevel => 5 | .gapRecorded => 6 | .lanLink => 7

/-- The instance number on the wire (R185). -/
def NoticeInst.number : NoticeInst → Nat
  | .bondState => 0 | .pairState p => p.val | .commandDone p => p.val | .flushDone => 8 | .queueFull c => c.val
  | .storeLevel => 0 | .gapRecorded => 0 | .lanLink => 0

/-- The place of an instance in the fixed order of the 25 (R185). -/
def NoticeInst.place : NoticeInst → Fin 25
  | .bondState => 0
  | .pairState p => ⟨1 + p.val, by omega⟩
  | .commandDone p => ⟨9 + p.val, by omega⟩
  | .flushDone => 17
  | .queueFull c => ⟨18 + c.val, by omega⟩
  | .storeLevel => 22 | .gapRecorded => 23 | .lanLink => 24

/-- The 25 instances in the fixed order (R185). -/
def allInstances : List NoticeInst :=
  [.bondState] ++ allPairs.map .pairState ++ allPairs.map .commandDone ++ [.flushDone]
    ++ [.queueFull 0, .queueFull 1, .queueFull 2, .queueFull 3] ++ [.storeLevel, .gapRecorded, .lanLink]

/-- The occurrence count of an instance; 0 when it is not pending (R187). -/
def State.occurrences (s : State) (i : NoticeInst) : Nat := s.mgmt.notices[i.place.val]

/-- The occurrence count of an instance replaced. -/
def State.setOccurrences (i : NoticeInst) (n : Nat) (s : State) : State :=
  { s with mgmt := { s.mgmt with notices := s.mgmt.notices.set i.place.val n } }

/-- The cause of an instance is masked: bit 0 of the mask stands for cause 1 (R186). -/
def State.isMasked (s : State) (i : NoticeInst) : Bool := s.mgmt.mask.getLsbD (i.cause - 1)

/-- An occurrence is raised: ignored when masked (R186), else counted up to 255 (R187). -/
def State.raise (i : NoticeInst) (s : State) : State :=
  if s.isMasked i then s else s.setOccurrences i (min (s.occurrences i + 1) 255)

/-! ### Free choice -/

/-- A free choice between two blocks that take their events in either order [8] [9] [10] [34]. -/
def State.race (s : State) : Bool × State := (Config.raceFirst s.freeCount, { s with freeCount := s.freeCount + 1 })

/-! ### Running through pairs -/

/-- An act made for every pair in ascending order. -/
def forPairs (f : PairNo → State → State) (s : State) : State := allPairs.foldl (fun s p => f p s) s

end Sys2Proof.Machine
end

