-- ==== Sys2Proof/Machine/Cells.lean ====
section
/-! DEFINITION. The Cell Memory: partition, allocation, return, pressure and store level (chapter 4). -/

namespace Sys2Proof.Machine

/-- S, the shared part (R72). -/
def Cells.shared (c : Cells) : Nat := Config.poolCells - c.rOut - c.rIn

/-- Outbound cells taken from the shared part (R73). -/
def Cells.overOut (c : Cells) : Nat := c.usedOut - c.rOut

/-- Inbound cells taken from the shared part (R73). -/
def Cells.overIn (c : Cells) : Nat := c.usedIn - c.rIn

/-- Shared cells still free (R73). -/
def Cells.sharedFree (c : Cells) : Nat := c.shared - c.overOut - c.overIn

/-- avail_out (R73). -/
def Cells.availOut (c : Cells) : Nat := (c.rOut - c.usedOut) + c.sharedFree

/-- avail_in (R73). -/
def Cells.availIn (c : Cells) : Nat := (c.rIn - c.usedIn) + c.sharedFree

/-- The cells a side can still allocate. -/
def Cells.avail (c : Cells) : Side → Nat
  | .outbound => c.availOut
  | .inbound => c.availIn

/-- The use count of a side. -/
def Cells.used (c : Cells) : Side → Nat
  | .outbound => c.usedOut
  | .inbound => c.usedIn

/-- The use count of a side replaced. -/
def Cells.setUsed (c : Cells) (side : Side) (n : Nat) : Cells :=
  match side with
  | .outbound => { c with usedOut := n }
  | .inbound => { c with usedIn := n }

/-- H, half of the cells the inbound side can ever hold (R80). -/
def Cells.half (c : Cells) : Nat := (c.rIn + c.shared) / 2

/-- The pressure condition as the counts stand (R79). -/
def Cells.pressed (c : Cells) : Bool := c.availIn < Config.pressureBelow

/-- The store level as the counts stand: the first line of the table of R80 that applies. -/
def Cells.levelNow (c : Cells) : StoreLevel :=
  if c.usedIn = 0 then .empty
  else if c.pressed then .pressure
  else if c.half ≤ c.usedIn then .half
  else .low

/-- The evaluation of pressure (R79): a change is kept and told to the Reorder Engine, and a beginning is counted. -/
def evalPressure (s : State) : State :=
  if s.cells.pressed = s.cells.pressure then s
  else
    let s' := if s.cells.pressed then s.count .pressureEntries else s
    { s' with cells := { s'.cells with pressure := s.cells.pressed, tells := s.cells.tells ++ [s.cells.pressed] } }

/-- The evaluation of the store level (R80): a change is kept and raises STORE-LEVEL. -/
def evalLevel (s : State) : State :=
  if s.cells.levelNow = s.cells.level then s
  else
    let s' := s.raise .storeLevel
    { s' with cells := { s'.cells with level := s.cells.levelNow } }

/-- The evaluation after an event that can change avail_in (R79, R80). -/
def evaluate (s : State) : State := evalLevel (evalPressure s)

/-- A request for `n` cells on a side, granted whole or failed whole (R74). -/
def requestCells (side : Side) (n : Nat) (s : State) : Option State :=
  if n ≤ s.cells.avail side then
    some (evaluate { s with cells := s.cells.setUsed side (s.cells.used side + n) })
  else none

/-- A return of `n` cells on a side (R74). -/
def returnCells (side : Side) (n : Nat) (s : State) : State :=
  evaluate { s with cells := s.cells.setUsed side (s.cells.used side - n) }

end Sys2Proof.Machine
end

