-- ==== Sys2Proof/Machine/Assembler.lean ====
section
/-! DEFINITION. The Frame Assembler and the LAN transmit queue (8.7, 8.8, R78). -/

namespace Sys2Proof.Machine

/-- The LAN transmit queue holds 8 frames (R163). -/
def State.lanFull (s : State) : Bool := Config.lanFrames ≤ s.lan.txQueue.length

/-- A complete frame handed to the LAN Port: it joins the tail, or is discarded for a link that is down, or for a full
queue, which only a window slide reaches (R163, R141). -/
def lanAccept (f : LanFrame) (s : State) : State :=
  if s.lan.linkUp then
    if s.lanFull then returnCells .inbound f.cells (s.count .slideOverrun)
    else { s with lan := { s.lan with txQueue := s.lan.txQueue ++ [f] } }
  else returnCells .inbound f.cells (s.count .lanDown)

/-- The Assembler's state replaced. -/
def State.setAsm (a : Assembler) (s : State) : State := { s with asm := a }

/-- A complete frame is tested and handed on; the Assembler returns to IDLE (R161, R162). -/
def asmComplete (octets : List Octet) (cells : Nat) (s : State) : State :=
  if octets.length < 60 then returnCells .inbound cells ((s.setAsm .idle).count .assemblyMalformed)
  else lanAccept { octets := octets, cells := cells } ((s.setAsm .idle).count .framesDelivered)

/-- The octets of a fragment are kept: as the first of a frame, or appended to the `soFar` octets gathered in `held`
cells. The length test, the extension request, the copy and the return of the fragment's cells are made in the order
of R162 and R78 [13]. That the fragment's own cells come back before those of a frame it completes that is then discarded,
and after those of a frame it fails to extend, is the model's choice [36]. -/
def asmKeep (soFar : List Octet) (held : Nat) (r : FragRecord) (s : State) : State :=
  let octets := soFar ++ r.payload
  let need := cellsFor octets.length
  if 1518 < octets.length then
    returnCells .inbound r.cells (returnCells .inbound held ((s.setAsm (.discarding true)).count .assemblyOversize))
  else
    match (if need ≤ held then some s else requestCells .inbound (need - held) s) with
    | none =>
      (returnCells .inbound r.cells (returnCells .inbound held (s.setAsm (.discarding true)))).count .assemblyNoCells
    | some s' =>
      let s'' := returnCells .inbound r.cells (s'.setAsm (.collecting octets need))
      if r.fin then asmComplete octets need s'' else s''

/-- The partial frame, if there is one, is discarded and returns its cells (R161). The state the Assembler goes to is
the caller's. -/
def asmDiscard (counter : BondCounter) (s : State) : State :=
  match s.asm with
  | .collecting _ cells => returnCells .inbound cells (s.count counter)
  | _ => s

/-- A stored fragment reaches the Assembler (R161). -/
def asmTake (r : FragRecord) (s : State) : State :=
  match r.start, s.asm with
  | true, _ => asmKeep [] 0 r (asmDiscard .truncated s)
  | false, .idle => returnCells .inbound r.cells (s.count .orphan)
  | false, .collecting octets cells => asmKeep octets cells r s
  | false, .discarding charged =>
    let s' := if charged then s else s.count .broken
    returnCells .inbound r.cells (s'.setAsm (if r.fin then .idle else .discarding true))

/-- "Loss declared" reaches the Assembler (R161). -/
def asmLoss (s : State) : State :=
  match s.asm with
  | .idle => s.setAsm (.discarding false)
  | .collecting _ _ => (asmDiscard .broken s).setAsm (.discarding true)
  | .discarding _ => s

/-- "Resynchronise" reaches the Assembler (R161, R128). -/
def asmResync (s : State) : State := (asmDiscard .broken s).setAsm .idle

end Sys2Proof.Machine
end

