-- ==== Sys2Proof/Machine/Receiver.lean ====
section
/-! DEFINITION. The Reorder Engine: window, live set, gap step, declarations, T_reorder, flush (chapters 7 and 8). -/

namespace Sys2Proof.Machine

/-! ### The reorder window (R125) -/

/-- The slot of a sequence number (R125). -/
def slotOf (q : Seq) : Nat := q.toNat % Config.windowSlots

/-- The record in a slot. -/
def lookup (slot : Nat) (w : List FragRecord) : Option FragRecord := w.find? fun r => slotOf r.seq == slot

/-- A record placed in its slot, in rising order of slot. -/
def insertRecord (r : FragRecord) : List FragRecord → List FragRecord
  | [] => [r]
  | q :: rest =>
    if slotOf r.seq < slotOf q.seq then r :: q :: rest
    else if slotOf r.seq = slotOf q.seq then r :: rest
    else q :: insertRecord r rest

/-- A slot emptied. -/
def eraseSlot (slot : Nat) (w : List FragRecord) : List FragRecord := w.filter fun r => slotOf r.seq != slot

/-- The canonical form of the window: the occupied slots strictly rising. -/
abbrev Window.wf (w : List FragRecord) : Prop := (w.map fun r => slotOf r.seq).Pairwise (· < ·)

/-- Of two records, the one nearer to NES. -/
def nearer (nes : Seq) (r q : FragRecord) : FragRecord := if dist q.seq nes < dist r.seq nes then q else r

/-- The record of the lowest stored sequence: the least distance from NES (R125). -/
def lowestStored (nes : Seq) : List FragRecord → Option FragRecord
  | [] => none
  | r :: rest => some (rest.foldl (nearer nes) r)

/-- Of two records, the one further from NES. -/
def further (nes : Seq) (r q : FragRecord) : FragRecord := if dist r.seq nes < dist q.seq nes then q else r

/-- The record of the highest stored sequence: the greatest distance from NES (R125). -/
def highestStored (nes : Seq) : List FragRecord → Option FragRecord
  | [] => none
  | r :: rest => some (rest.foldl (further nes) r)

/-- The Reorder Engine's own state changed. -/
def State.modRx (f : Receiver → Receiver) (s : State) : State := { s with rx := f s.rx }

/-- NES moved; a running gap timer stops whenever NES changes (R153). -/
def State.setNes (q : Seq) (s : State) : State := s.modRx fun x => { x with nes := q, gapTimer := none }

/-! ### T_reorder (R155, R156) -/

/-- The latest reports of the live pairs. -/
def State.liveReports (s : State) : List Report := (allPairs.filter s.isLive).map fun p => (s.port p).report

/-- T_reorder over the reports of live pairs (R155). -/
def tReorderOf (margin : Nat) (first : Report) (rest : List Report) : Nat :=
  let delays := rest.map (·.downDelay)
  let rates := rest.map fun r => max Config.usableRate r.downRate
  clamp 2 255 (margin + (delays.foldl max first.downDelay - delays.foldl min first.downDelay)
    + ceilDiv 4160 (rates.foldl min (max Config.usableRate first.downRate)))

/-- T_reorder recomputed; kept while the live set is empty (R156). -/
def recomputeT (s : State) : State :=
  match s.liveReports with
  | [] => s
  | first :: rest => s.modRx fun x => { x with tReorder := tReorderOf s.cfg.margin first rest }

/-! ### Declarations of loss (R150, R159) -/

/-- A declaration taken into the gap record queue: merged, appended or dropped (R159). -/
def recordGap (g : GapRecord) (s : State) : State :=
  match s.rx.gaps.getLast? with
  | some newest =>
    if newest.cause = g.cause ∧ g.first = newest.first + BitVec.ofNat 14 newest.count then
      s.modRx fun x =>
        { x with gaps := x.gaps.dropLast ++ [{ newest with count := min (newest.count + g.count) 16383 }] }
    else if s.rx.gaps.length < Config.gapRecords then s.modRx fun x => { x with gaps := x.gaps ++ [g] }
    else s.count .gapRecordsDropped
  | none => (s.modRx fun x => { x with gaps := [g] }).raise .gapRecorded

/-- A declaration of loss of `n` numbers from `f`, with the live set it carries, steps 1 to 3 of R150. -/
def declare (f : Seq) (n : Nat) (cause : LossCause) (live : BitVec 8) (s : State) : State :=
  (recordGap { first := f, count := n, cause := cause, live := live, time := s.now } (asmLoss s)).countBy
    .lostSequences n

/-- The numbers from NES up to `q` declared lost; NES becomes `q` (R150). -/
def declareTo (q : Seq) (cause : LossCause) (s : State) : State :=
  (declare s.rx.nes (dist q s.rx.nes) cause s.liveSet s).setNes q

/-! ### Delivery advance and the gap step (R147 to R153) -/

/-- The record is handed to the Frame Assembler, its slot becomes empty and NES moves past it (R147). -/
def handOn (r : FragRecord) (s : State) : State :=
  let s' := asmTake r s
  (s'.modRx fun x => { x with window := eraseSlot (slotOf r.seq) x.window }).setNes (s'.rx.nes + 1)

/-- The pause test: the record would complete a frame while the LAN transmit queue is full and the link is up (R147). -/
def wouldPause (r : FragRecord) (s : State) : Bool :=
  r.fin && (r.start || (match s.asm with | .collecting _ _ => true | _ => false)) && s.lanFull && s.lan.linkUp

/-- The overtaking test: every live pair's mark is ahead of NES (R151). -/
def overtaken (s : State) : Bool :=
  allPairs.all fun p => match s.mark p with
    | none => true
    | some m => ahead m s.rx.nes

/-- A gap exists (R149). -/
def gapExists (s : State) : Bool :=
  s.rx.synced && (lookup (slotOf s.rx.nes) s.rx.window).isNone && !s.rx.window.isEmpty

/-- The first test that resolves a gap at once, with its cause (R149, step 2). -/
def resolution (s : State) : Option LossCause :=
  if overtaken s then some .overtaken
  else match s.rx.flush with
    | some target => if behind target s.rx.nes then (if s.rx.pressureFlag then some .pressure else none) else some .flush
    | none => if s.rx.pressureFlag then some .pressure else none

/-- One move of steps 1 and 2 of a gap step: a record handed on, a pause, or a gap resolved; none when neither delivery
nor resolution goes on (R147, R148, R149). -/
def gapMove (s : State) : Option State :=
  if !s.rx.synced || s.rx.paused then none
  else match lookup (slotOf s.rx.nes) s.rx.window with
    | some r => some (if wouldPause r s then s.modRx fun x => { x with paused := true } else handOn r s)
    | none => match lowestStored s.rx.nes s.rx.window, resolution s with
      | some r, some cause => some (declareTo r.seq cause s)
      | _, _ => none

/-- Moves made until none is left. Each hands on a record, pauses, or leads to one of these, so twice the store count
and two are enough. -/
def gapMoves : Nat → State → State
  | 0, s => s
  | n + 1, s => match gapMove s with
    | none => s
    | some s' => gapMoves n s'

/-- Steps 2 and 3 of a gap step for the gap timer (R149, R153). -/
def gapTimerStep (s : State) : State :=
  if gapExists s then
    match s.rx.gapTimer with
    | none => s.modRx fun x => { x with gapTimer := some (s.now + x.tReorder) }
    | some _ => s
  else s.modRx fun x => { x with gapTimer := none }

/-- Step 4 of a gap step: the flush completes when its target is behind NES (R158). -/
def flushStep (s : State) : State :=
  match s.rx.flush with
  | some target =>
    if behind target s.rx.nes then (s.modRx fun x => { x with flush := none }).raise .flushDone else s
  | none => s

/-- No pair is live. -/
def State.liveEmpty (s : State) : Bool := allPairs.all fun p => !s.isLive p

/-- Step 5 of a gap step: the receiver becomes UNSYNCED when live set and store are both empty (R128). -/
def unsyncStep (s : State) : State :=
  if s.rx.synced && s.liveEmpty && s.rx.window.isEmpty then asmResync (s.modRx fun x => { x with synced := false })
  else s

/-- The gap step (R149). -/
def gapStep (s : State) : State :=
  unsyncStep (flushStep (gapTimerStep (gapMoves (2 * s.rx.window.length + 2) s)))

/-- The pressure events the Cell Memory has told are taken in turn, each followed by a gap step (R152) [7]. -/
def takeTells : Nat → State → State
  | 0, s => s
  | n + 1, s => match s.cells.tells with
    | [] => s
    | b :: rest =>
      takeTells n (gapStep { s with cells := { s.cells with tells := rest }, rx := { s.rx with pressureFlag := b } })

/-- All pressure events told are taken. Handing on a record, or resolving a gap, makes at most six returns and requests,
so the bound is never reached. -/
def drainTells (s : State) : State := takeTells (s.cells.tells.length + 16 * (s.rx.window.length + 1)) s

/-- What follows every event of the Reorder Engine: the gap step (R149), then the events told meanwhile (R124) [7]. -/
def rxFollow (s : State) : State := drainTells (gapStep s)

/-! ### Live set and marks (R127 to R135) -/

/-- After a change of membership: gap step, then T_reorder (R135) [22]. -/
def membershipFollow (s : State) : State := drainTells (recomputeT (gapStep s))

/-- A JOIN with mark `m` and epoch `e` is accepted on pair `p` (R127, R130). -/
def rxJoin (p : PairNo) (m : Seq) (e : BitVec 8) (s : State) : State :=
  if s.rx.synced then
    match s.mark p with
    | none => membershipFollow (s.setMark p (some m))
    | some pm => rxFollow (s.setMark p (some (laterOf pm m)))
  else
    membershipFollow
      (((s.modRx fun x => { x with nes := m, peerEpoch := e, synced := true }).setMark p (some m)).count .resyncs)

/-- A pair leaves the live set, by "leave" or by "drop" (R133, R134). -/
def rxRemove (p : PairNo) (s : State) : State :=
  if s.isLive p then membershipFollow (s.setMark p none) else s

/-- A mark advances a live pair's progress mark when it is ahead of it (R131, R132). -/
def advanceMark (p : PairNo) (m : Seq) (s : State) : State :=
  match s.mark p with
  | some pm => if ahead m pm then s.setMark p (some m) else s
  | none => s

/-- A PROGRESS mark arrives on pair `p` (R132). -/
def rxProgress (p : PairNo) (m : Seq) (s : State) : State :=
  match s.mark p with
  | some pm => if ahead m pm then rxFollow (s.setMark p (some m)) else s
  | none => s

/-! ### Arrival of DATA (R136 to R141) -/

/-- A DATA fragment asks for cells and is placed in its slot, or is discarded (R137). -/
def storeData (seq : Seq) (start fin : Bool) (payload : List Octet) (s : State) : State :=
  let r : FragRecord :=
    { seq := seq, start := start, fin := fin, cells := cellsFor payload.length, payload := payload }
  match requestCells .inbound r.cells s with
  | some s' => s'.modRx fun x => { x with window := insertRecord r x.window }
  | none => s.count .inboundNoCells

/-- The walk of a window slide from NES up to `t`: stored records are handed on, each stretch of missing numbers is
declared lost with cause WINDOW, and NES ends at `t` (R140, R141). Each turn hands on a record or makes a declaration
that leads to one or to `t`. -/
def slideWalk : Nat → Seq → State → State
  | 0, _, s => s
  | n + 1, t, s =>
    if s.rx.nes = t then s
    else match lowestStored s.rx.nes s.rx.window with
      | some r =>
        if dist r.seq s.rx.nes < dist t s.rx.nes then
          if r.seq = s.rx.nes then slideWalk n t (handOn r s)
          else slideWalk n t (declareTo r.seq .window s)
        else declareTo t .window s
      | none => declareTo t .window s

/-- The window slides so that its new front is `t`; a paused delivery runs again (R140, R148). -/
def slideTo (t : Seq) (s : State) : State :=
  (slideWalk (2 * s.rx.window.length + 2) t s).modRx fun x => { x with paused := false }

/-- A DATA fragment arrives on pair `p` (R136). -/
def rxData (p : PairNo) (start fin : Bool) (seq : Seq) (payload : List Octet) (s : State) : State :=
  let s := s.count .dataArrived
  if s.isLive p then
    let s := advanceMark p (seq + 1) s
    let d := dist seq s.rx.nes
    if d < 1024 then
      match lookup (slotOf seq) s.rx.window with
      | none => rxFollow (storeData seq start fin payload s)
      | some _ => rxFollow (s.count .duplicate)
    else if d ≤ 8191 then rxFollow ((storeData seq start fin payload (slideTo (seq - 1023) s)).count .windowSlides)
    else rxFollow (s.count .stale)
  else s.count .notJoined

/-! ### Peer restart and RESET-BOND (R143, R145) -/

/-- The cells of every stored record returned and the store emptied; each removal is counted when `counter` names a
counter (R143, R145). That the records return their cells lowest sequence first is the model's choice [10]. -/
def dropStore (counter : Option BondCounter) : Nat → State → State
  | 0, s => s
  | n + 1, s => match lowestStored s.rx.nes s.rx.window with
    | none => s
    | some r =>
      let s := s.modRx fun x => { x with window := eraseSlot (slotOf r.seq) x.window }
      let s := match counter with
        | some c => s.count c
        | none => s
      dropStore counter n (returnCells .inbound r.cells s)

/-- A flush in flight is ended, raising COMMAND-DONE for FLUSH (R143, R145). -/
def endFlush (s : State) : State :=
  match s.rx.flush with
  | some _ => (s.modRx fun x => { x with flush := none }).raise .flushDone
  | none => s

/-- Peer restart at the receiver (R143). -/
def rxPeerRestart (s : State) : State :=
  let noted := s.liveSet
  let s1 := s.modRx fun x => { x with live := Vector.replicate 8 none }
  let s2 := match highestStored s1.rx.nes s1.rx.window with
    | some h => declare s1.rx.nes (dist h.seq s1.rx.nes + 1) .peerRestart noted
        (dropStore (some .restartDiscarded) s1.rx.window.length s1)
    | none => s1
  let s3 := asmResync (s2.modRx fun x => { x with gapTimer := none, paused := false })
  drainTells (endFlush (s3.modRx fun x => { x with synced := false }))

/-- The Reorder Engine at RESET-BOND, but for the cells (R145, R165). -/
def rxResetBond (s : State) : State :=
  endFlush (s.modRx fun x => { x with
    synced := false, nes := 0, peerEpoch := 0, live := Vector.replicate 8 none, gapTimer := none, paused := false,
    gaps := [] })

/-! ### Other events of the Reorder Engine -/

/-- A frame has left the LAN transmit queue, or the LAN link has gone down: delivery runs again (R148). -/
def rxLanFreed (s : State) : State := rxFollow (s.modRx fun x => { x with paused := false })

/-- A REPORT is accepted on pair `p`: T_reorder is recomputed when the pair is live (R156), and a gap step follows
(R149). -/
def rxReport (p : PairNo) (s : State) : State := if s.isLive p then rxFollow (recomputeT s) else s

/-- The gap timer expires: the gap is declared lost with cause TIMEOUT (R154). -/
def rxGapTimeout (s : State) : State :=
  if gapExists s then
    match lowestStored s.rx.nes s.rx.window with
    | some r => rxFollow (declareTo r.seq .timeout (s.count .gapTimeouts))
    | none => s
  else s.modRx fun x => { x with gapTimer := none }

/-- FLUSH-REORDER starts a flush toward the highest stored sequence (R157). -/
def rxFlush (target : Seq) (s : State) : State :=
  rxFollow ((s.modRx fun x => { x with flush := some target }).count .flushes)

end Sys2Proof.Machine
end

