-- ==== Sys2Proof/Machine/Wire.lean ====
section
/-! DEFINITION. Octets on the wire: check words, line fragments and management messages (R1 to R3, R13, R14, R84, R184). -/

namespace Sys2Proof.Machine

/-! ### Fields of octets (R184, Octet order) -/

/-- A number in one octet. -/
def be1 (n : Nat) : List Octet := [BitVec.ofNat 8 n]

/-- A number in two octets, high octet first. -/
def be2 (n : Nat) : List Octet := [BitVec.ofNat 8 (n / 256), BitVec.ofNat 8 n]

/-- A number in four octets, high octet first. -/
def be4 (n : Nat) : List Octet := be2 (n / 65536) ++ be2 n

/-- A number in six octets, high octet first. -/
def be6 (n : Nat) : List Octet := be2 (n / 4294967296) ++ be4 n

/-- A yes-or-no field: 1 for yes, 0 for no. -/
def beBool (b : Bool) : List Octet := [if b then 1 else 0]

/-- The number that octets spell, high octet first. -/
def fromBe (l : List Octet) : Nat := l.foldl (fun a o => a * 256 + o.toNat) 0

/-- The number in octets `i` to `i + n − 1` of a body. -/
def field (body : List Octet) (i n : Nat) : Nat := fromBe ((body.drop i).take n)

/-! ### Check words -/

/-- One bit of the 16-bit check: generator x^16 + x^12 + x^5 + 1 (R1). -/
def crc16Bit (c : BitVec 16) : BitVec 16 := if c.msb then (c <<< 1) ^^^ 0x1021#16 else c <<< 1

/-- One octet of the 16-bit check, most significant bit first (R1). -/
def crc16Octet (c : BitVec 16) (o : Octet) : BitVec 16 :=
  Nat.repeat crc16Bit 8 (c ^^^ (o.zeroExtend 16 <<< 8))

/-- The 16-bit check word: preset all ones, no final inversion (R1). -/
def crc16 (l : List Octet) : BitVec 16 := l.foldl crc16Octet 0xFFFF#16

/-- One bit of the 32-bit FCS, least significant bit first (R84). -/
def crc32Bit (c : BitVec 32) : BitVec 32 := if c.getLsbD 0 then (c >>> 1) ^^^ 0xEDB88320#32 else c >>> 1

/-- One octet of the 32-bit FCS (R84). -/
def crc32Octet (c : BitVec 32) (o : Octet) : BitVec 32 := Nat.repeat crc32Bit 8 (c ^^^ o.zeroExtend 32)

/-- The 32-bit FCS: preset all ones, the remainder inverted (R84). -/
def crc32 (l : List Octet) : BitVec 32 := ~~~ (l.foldl crc32Octet 0xFFFFFFFF#32)

/-- The four FCS octets in the order on the line: the coefficient of x^31 is the first bit, and octets go least
significant bit first (R84). -/
def fcsOctets (l : List Octet) : List Octet :=
  let c := crc32 l
  [c.setWidth 8, (c >>> 8).setWidth 8, (c >>> 16).setWidth 8, (c >>> 24).setWidth 8]

/-! ### Line fragments -/

/-- Kind number on the line (R184, Line fragment). -/
def Fragment.kindCode : Fragment → Nat
  | .data .. => 1 | .join .. => 2 | .joinAck .. => 3 | .leave _ => 4 | .progress _ => 5

/-- Result octet of a JOIN-ACK (R184). -/
def JoinResult.code : JoinResult → Nat
  | .accept => 1 | .wrongBond => 2 | .notReady => 3

/-- Reason octet of a LEAVE (R184). -/
def LeaveReason.code : LeaveReason → Nat
  | .host => 1 | .lowRate => 2 | .peerLeave => 3 | .abort => 4

/-- The payload octets (R2, R3). -/
def Fragment.payload : Fragment → List Octet
  | .data _ _ _ payload => payload
  | .join _ bondId pair epoch => be2 bondId.toNat ++ be1 pair.val ++ [epoch]
  | .joinAck bondId pair result => be2 bondId.toNat ++ be1 pair.val ++ be1 result.code
  | .leave reason => be1 reason.code
  | .progress _ => []

/-- START and END as they stand in octet 0 (R184). -/
def Fragment.flagBits : Fragment → Nat
  | .data start fin _ _ => (if start then 8 else 0) + (if fin then 4 else 0)
  | _ => 0

/-- The sequence field (R2). -/
def Fragment.seqField : Fragment → Seq
  | .data _ _ seq _ => seq
  | .join mark .. => mark
  | .progress mark => mark
  | _ => 0

/-- The size of a fragment on the line: payload and 8 octets of overhead (R1). -/
def Fragment.size (f : Fragment) : Nat := f.payload.length + 8

/-- The fragment carries DATA. -/
def Fragment.isData : Fragment → Bool
  | .data .. => true
  | _ => false

/-- The mark a placed fragment sets the outbound reference to: a DATA's number plus 1, a JOIN's or PROGRESS's mark (R8). -/
def Fragment.reference : Fragment → Option Seq
  | .data _ _ seq _ => some (seq + 1)
  | .join mark .. => some mark
  | .progress mark => some mark
  | _ => none

/-- Header and payload (R1, R184). -/
def Fragment.headAndPayload (f : Fragment) : List Octet :=
  be1 (f.kindCode * 16 + f.flagBits) ++ be2 f.seqField.toNat ++ be2 f.payload.length ++ [0] ++ f.payload

/-- The whole fragment with its check word, high octet first (R1). -/
def Fragment.octets (f : Fragment) : List Octet :=
  f.headAndPayload ++ be2 (crc16 f.headAndPayload).toNat

/-- What the checks of R13 make of a received FRAGMENT message. -/
inductive Checked where
  | malformed
  | badCheck
  | good (f : Fragment)
  deriving DecidableEq, Repr

/-- The named pair number, if the octet is 0 to 7 (R14, Pair index). -/
def pairOf (n : Nat) : Option PairNo := if h : n < 8 then some ⟨n, h⟩ else none

/-- The named result of a JOIN-ACK (R14, Result). -/
def joinResultOf : Nat → Option JoinResult
  | 1 => some .accept | 2 => some .wrongBond | 3 => some .notReady | _ => none

/-- The named reason of a LEAVE (R14, Reason). -/
def leaveReasonOf : Nat → Option LeaveReason
  | 1 => some .host | 2 => some .lowRate | 3 => some .peerLeave | 4 => some .abort | _ => none

/-- The fragment that the fields of a header and a body spell on port `p`; none where a test of R14 on the kind, the
length for the kind, the flags, the sequence or a body field fails. -/
def fragmentOf (p : PairNo) (kind flags : Nat) (seq : Seq) (body : List Octet) : Option Fragment :=
  match kind with
  | 1 => if 1 ≤ body.length then some (.data (8 ≤ flags) (flags % 8 == 4) seq body) else none
  | 2 => if flags = 0 && body.length = 4 then
      (pairOf (field body 2 1)).map fun i =>
        .join seq (BitVec.ofNat 16 (field body 0 2)) i (BitVec.ofNat 8 (field body 3 1))
    else none
  | 3 => if flags = 0 && body.length = 4 && seq = 0 then
      match pairOf (field body 2 1), joinResultOf (field body 3 1) with
      | some i, some r => if i = p then some (.joinAck (BitVec.ofNat 16 (field body 0 2)) i r) else none
      | _, _ => none
    else none
  | 4 => if flags = 0 && body.length = 1 && seq = 0 then (leaveReasonOf (field body 0 1)).map .leave else none
  | 5 => if flags = 0 && body.length = 0 then some (.progress seq) else none
  | _ => none

/-- The unused bits of a header are zero (R14, Unused bits): octet 0 bits 1 and 0, octet 1 bits 7 and 6, octet 3 bits
7 to 2, octet 5 (R184). -/
def unusedClear (octets : List Octet) : Bool :=
  field octets 0 1 % 4 == 0 && field octets 1 1 / 64 == 0 && field octets 3 1 / 4 == 0 && field octets 5 1 == 0

/-- The checks of R13, in their order, on the octets of a FRAGMENT message received on port `p`. -/
def checkFragment (p : PairNo) (octets : List Octet) : Checked :=
  let n := octets.length
  if n < 8 then .malformed
  else if (crc16 (octets.take (n - 2))).toNat ≠ field octets (n - 2) 2 then .badCheck
  else if unusedClear octets && field octets 3 2 ≤ 512 && n == 6 + field octets 3 2 + 2 then
    match fragmentOf p (field octets 0 1 / 16) (field octets 0 1 % 16) (BitVec.ofNat 14 (field octets 1 2))
        ((octets.drop 6).take (field octets 3 2)) with
    | some f => .good f
    | none => .malformed
  else .malformed

/-! ### Management messages (R184, Management message frame) -/

/-- Kind of a REPLY (R184). -/
def kindReply : Octet := 0x80
/-- Kind of a NOTICE (R184). -/
def kindNotice : Octet := 0x81

/-- The octets a check word of a management frame covers: length, kind, tag and body (9.2). -/
def Message.covered (m : Message) : List Octet := be1 (m.body.length + 2) ++ [m.kind, m.tag] ++ m.body

/-- A message as it stands on the link (R184). -/
def Message.octets (m : Message) : List Octet := [0xA5] ++ m.covered ++ be2 (crc16 m.covered).toNat

/-- The message is a notice (R175). -/
def Message.isNotice (m : Message) : Bool := m.kind == kindNotice

/-- The message can be taken now: the output queue has a free place, and the message is at the head of the input
buffer, or nothing stands before it (R173) [4]. -/
def takeable (m : Message) (s : State) : Bool :=
  s.mgmt.outbox.length < Config.outboxMessages && (s.mgmt.inbox.isEmpty || s.mgmt.inbox.head? == some m)

/-- The mode of DISABLE-PAIR and PROBE-PAIR: true for ABORT (R184). -/
def modeOf : Nat → Option Bool
  | 1 => some false
  | 2 => some true
  | _ => none

end Sys2Proof.Machine
end

