-- ==== Sys2Proof/Machine/Ingress.lean ====
section
/-! DEFINITION. The Classifier and the Class Queues: headers, rules, frame selection and the NO-PATH purge (chapter 5). -/

namespace Sys2Proof.Machine

/-! ### Headers (R87, R88, R94) -/

/-- The fields a rule can look at. -/
structure Header where
  etherType : Nat
  /-- Priority and VLAN identifier of the tag, if there is one. -/
  tag : Option (Nat × Nat)
  dstMac : Nat
  /-- DSCP and protocol, if the frame carries an IPv4 header. -/
  ipv4 : Option (Nat × Nat)
  length : Nat
  deriving DecidableEq, Repr

/-- The header of a frame, read from its octets after FCS removal (R87, R88). -/
def headerOf (f : List Octet) : Header :=
  let tagged := field f 12 2 == 0x8100
  let at3 := if tagged then 18 else 14
  let etherType := if tagged then field f 16 2 else field f 12 2
  { etherType := etherType,
    tag := if tagged then some (field f 14 2 / 8192, field f 14 2 % 4096) else none,
    dstMac := field f 0 6,
    ipv4 := if etherType == 0x0800 && field f at3 1 / 16 == 4 then some (field f (at3 + 1) 1 / 4, field f (at3 + 9) 1)
      else none,
    length := f.length }

/-! ### Rules (R86, R89, R90) -/

/-- The width in bits of a selector's value and mask (R86). -/
def Selector.width : Selector → Nat
  | .etherType => 16 | .vlanPcp => 3 | .vlanId => 12 | .dstMac => 48 | .ipv4Dscp => 6 | .ipv4Protocol => 8 | .any => 0

/-- The field a selector compares, if the header has it (R86 to R88). -/
def Header.select (h : Header) : Selector → Option Nat
  | .etherType => some h.etherType
  | .vlanPcp => h.tag.map (·.1)
  | .vlanId => h.tag.map (·.2)
  | .dstMac => some h.dstMac
  | .ipv4Dscp => h.ipv4.map (·.1)
  | .ipv4Protocol => h.ipv4.map (·.2)
  | .any => some 0

/-- An in-use rule matches a header (R89). A rule with ANY matches every frame: its value and mask are 0. -/
def Rule.matchesHeader (r : Rule) (h : Header) : Bool :=
  r.inUse && (r.selector == .any || match h.select r.selector with
    | some v => BitVec.ofNat 48 v &&& r.mask == r.value &&& r.mask
    | none => false)

/-- The rule of an index. -/
def State.rule (s : State) (i : Fin 64) : Rule := s.rules[i.val]

/-- The rule of an index replaced. -/
def State.setRule (i : Fin 64) (r : Rule) (s : State) : State := { s with rules := s.rules.set i.val r }

/-- The 64 rule indices in ascending order. -/
def allRules : List (Fin 64) := List.finRange 64

/-- The winner: the first matching rule in ascending index (R90). -/
def winner (s : State) (h : Header) : Option (Fin 64) := allRules.find? fun i => (s.rule i).matchesHeader h

/-- The winner's min length test fails (R90, step 1). -/
def Rule.tooShort (r : Rule) (h : Header) : Bool :=
  match r.minLength with
  | some m => h.length < m
  | none => false

/-- A frame classified, counting the hit and the two discards (R90, R91). -/
def classify (h : Header) (s : State) : State × Option (Fin 4) :=
  match winner s h with
  | none => (s, some s.cfg.defaultClass)
  | some i =>
    let r := s.rule i
    let s := s.setRule i { r with hits := countUp r.hits 1 }
    if r.tooShort h then (s.count .shortForRule, none)
    else match r.action with
      | .discard => (s.count .ruleDiscard, none)
      | .toClass c => (s, some c)

/-! ### Class queues (R95 to R99) -/

/-- The queue of a class. -/
def State.cls (s : State) (c : Fin 4) : ClassQueue := s.classes[c.val]

/-- The queue of a class replaced. -/
def State.setCls (c : Fin 4) (q : ClassQueue) (s : State) : State := { s with classes := s.classes.set c.val q }

/-- A queue is full (R95). -/
def ClassQueue.full (q : ClassQueue) : Bool := q.limit ≤ q.frames.length

/-- The queue of a class replaced; QUEUE-FULL is raised when it goes from not full to full (R96, R98). -/
def fillCls (c : Fin 4) (q : ClassQueue) (s : State) : State :=
  let s' := s.setCls c q
  if q.full && !(s.cls c).full then s'.raise (.queueFull c) else s'

/-- The head of a class that has waited its age limit (R99, step 1). Class 3 has no age limit. -/
def agedHead (s : State) (c : Fin 4) : Option (Fin 4 × OutFrame) :=
  match (s.cls c).frames with
  | f :: _ => if c ≠ 3 && (s.cls c).ageLimit ≠ 0 && (s.cls c).ageLimit ≤ s.now - f.admitted then some (c, f) else none
  | [] => none

/-- Of two aged heads, the one with the earlier admission order. -/
def earlier (a b : Fin 4 × OutFrame) : Fin 4 × OutFrame := if b.2.order < a.2.order then b else a

/-- The aged head with the earliest admission order (R99, step 1). -/
def agedChoice (s : State) : Option (Fin 4) :=
  match [0, 1, 2].filterMap (agedHead s) with
  | [] => none
  | a :: rest => some (rest.foldl earlier a).1

/-- The highest non-empty class (R99, step 2). -/
def priorityChoice (s : State) : Option (Fin 4) := [3, 2, 1, 0].find? fun c => !(s.cls c).frames.isEmpty

/-- A frame chosen and taken off its queue, counting a promotion (R99). -/
def selectFrame (s : State) : Option (OutFrame × State) :=
  match priorityChoice s with
  | none => none
  | some byPriority =>
    let c := (agedChoice s).getD byPriority
    match (s.cls c).frames with
    | [] => none
    | f :: rest =>
      let s' := s.setCls c { s.cls c with frames := rest }
      some (f, if c = byPriority then s' else s'.count .agePromotions)

/-! ### Emptying the outbound half (R101, R102) -/

/-- The cells of a list of frames returned, one return for each, oldest first. -/
def returnFrames (fs : List OutFrame) (s : State) : State :=
  fs.foldl (fun s f => returnCells .outbound f.cells s) s

/-- The frames of the four queues, class 0 first. -/
def State.queued (s : State) : List OutFrame :=
  (s.cls 0).frames ++ (s.cls 1).frames ++ (s.cls 2).frames ++ (s.cls 3).frames

/-- A class queue without its frames. -/
def ClassQueue.emptied (q : ClassQueue) : ClassQueue := { q with frames := [] }

/-- The frames of the outbound half are removed and their cells returned; the dispatcher drops its frame and its
request stands (R101, R121, R102, R122). The next sequence is left as it is. That the frames return their cells class by
class, oldest first, and the frame being split last is the model's choice [10]. -/
def emptyOutbound (s : State) : State :=
  let s1 := returnFrames s.queued { s with classes := s.classes.map ClassQueue.emptied }
  match s.disp.split with
  | some plan =>
    returnCells .outbound plan.cells { s1 with disp := { s1.disp with split := none, held := false, standing := true, midRun := false } }
  | none => { s1 with disp := { s1.disp with held := false, standing := true, midRun := false } }

/-- How many frames the outbound half holds. -/
def State.outboundFrames (s : State) : Nat := s.queued.length + (if s.disp.split.isSome then 1 else 0)

/-- The NO-PATH purge (R101). `during` is what another block does between the returns of the purge and the pressure
event they can bring [34]. -/
def purge (during : State → State) (s : State) : State :=
  drainTells (during (emptyOutbound (s.countBy .noPath s.outboundFrames)))

end Sys2Proof.Machine
end

