-- ==== Sys2Proof/Machine/Port.lean ====
section
/-! DEFINITION. The Pair Port: orders, line queue, handover, TAKEN accounting, emptying, withdrawal (chapter 2). -/

namespace Sys2Proof.Machine

/-! ### What a state fixes at its port (R26, R39) -/

/-- The order a lifecycle state gives the transceiver (R19, R39). -/
def PairState.order : PairState → Order
  | .vacant => .unordered
  | .parked | .quarantine | .faulted => .quiet
  | .training | .settling | .joining | .active | .leaving => .train

/-- The send gate is open (R26, R39). -/
def PairState.gateOpen : PairState → Bool
  | .settling | .joining | .active | .leaving => true
  | _ => false

/-- The port takes messages other than a REPORT: it is fitted and its transceiver present (R22, R23). -/
def State.listening (s : State) (p : PairNo) : Bool := s.isFitted p && (s.port p).present

/-! ### The line queue (R24, R25) -/

/-- The sum of the sizes of all entries. -/
def queueSize (q : List Entry) : Nat := (q.map fun e => e.frag.size).sum

/-- The backlog B (R24). -/
def Port.backlog (x : Port) : Nat := queueSize x.queue - x.takenFromHead

/-- The count of HANDED entries. -/
def Port.handedCount (x : Port) : Nat := x.queue.countP (·.handed)

/-- The placement of a fragment of size `c` is accepted (R25). -/
def Port.hasRoom (x : Port) (c : Nat) : Bool :=
  x.queue.length < Config.queueEntries && x.backlog + c ≤ Config.queueOctets

/-- The free credit (R27). -/
def Port.freeCredit (x : Port) : Nat := Config.credit - x.handedCount - x.residue.length

/-- The first STAGED fragment. -/
def firstStaged (q : List Entry) : Option Fragment := (q.find? fun e => !e.handed).map (·.frag)

/-- The first STAGED entry becomes HANDED. -/
def handFirst : List Entry → List Entry
  | [] => []
  | e :: rest => if e.handed then e :: handFirst rest else { e with handed := true } :: rest

/-- One handover with the gate open: the head STAGED entry is sent and marked HANDED when a credit is free (R27). -/
def Port.handOne (x : Port) : Port :=
  match firstStaged x.queue with
  | some f =>
    if 1 ≤ x.freeCredit then { x with queue := handFirst x.queue, sent := x.sent ++ [.fragment f] } else x
  | none => x

/-- The handover test of R27: at most two credits can be free. -/
def handover (p : PairNo) (s : State) : State :=
  if (s.pair p).state.gateOpen then s.modPort p fun x => x.handOne.handOne else s

/-- An accepted placement: the fragment joins the tail as STAGED (R25), the progress timer stops (R54), the outbound
reference follows the mark placed (R8), and the handover test is made (R27). -/
def stage (p : PairNo) (f : Fragment) (s : State) : State :=
  handover p
    ((s.modPort p fun x => { x with queue := x.queue ++ [{ frag := f, handed := false }] }).modPair p fun r =>
      { r with progressTimer := none, outRef := f.reference.orElse fun _ => r.outRef })

/-! ### Orders (R19) and residue (R31) -/

/-- An order sent to the transceiver; an ORDER QUIET clears the residue (R19, R31). -/
def sendOrder (p : PairNo) (s : State) : State :=
  s.modPort p fun x =>
    match x.order with
    | .unordered => x
    | .quiet => { x with sent := x.sent ++ [.order .quiet], residue := [] }
    | .train => { x with sent := x.sent ++ [.order .train] }

/-- The order set; a change to QUIET or TRAIN is sent at once (R19). -/
def setOrder (p : PairNo) (o : Order) (s : State) : State :=
  if (s.port p).order = o then s else sendOrder p (s.modPort p fun x => { x with order := o })

/-- The untaken octets of the HANDED entries, head first (R31). -/
def untaken (taken : Nat) (q : List Entry) : List Nat :=
  match (q.filter (·.handed)).map fun e => e.frag.size with
  | [] => []
  | c :: rest => (c - taken) :: rest

/-- The count of DATA entries. -/
def dataCount (q : List Entry) : Nat := q.countP fun e => e.frag.isData

/-- The line queue emptied; HANDED entries are kept as residue when the order is TRAIN and the line in SHOWTIME
(R31) [24]. -/
def emptyQueue (p : PairNo) (s : State) : State :=
  let x := s.port p
  let kept := if x.order = .train ∧ x.report.line = .showtime then untaken x.takenFromHead x.queue else []
  (s.setPort p { x with queue := [], takenFromHead := 0, residue := x.residue ++ kept }).countPairBy p .lostOnDrop
    (dataCount x.queue)

/-- The STAGED entries withdrawn (R32). -/
def withdraw (p : PairNo) (s : State) : State :=
  let x := s.port p
  (s.setPort p { x with queue := x.queue.filter (·.handed) }).countPairBy p .withdrawn
    (dataCount (x.queue.filter fun e => !e.handed))

/-! ### TAKEN (R28, R29) -/

/-- What a TAKEN report has covered so far: the octets left of it, fragments wholly covered, and the kinds retired. -/
structure Cover where
  left : Nat
  sent : Nat
  retired : List Fragment
  deriving DecidableEq, Repr

/-- The residue covered, oldest first (R28, step 1). -/
def coverResidue (left sent : Nat) : List Nat → Nat × Nat × List Nat
  | [] => (left, sent, [])
  | c :: rest => if c ≤ left then coverResidue (left - c) (sent + 1) rest else (0, sent, (c - left) :: rest)

/-- The HANDED entries covered from the head, of which `taken` octets were covered before (R28, steps 2 and 3).
Answers the queue left, the new "taken from head" and what was covered. -/
def coverQueue (taken : Nat) (k : Cover) : List Entry → List Entry × Nat × Cover
  | [] => ([], 0, k)
  | e :: rest =>
    if e.handed then
      if e.frag.size - taken ≤ k.left then
        coverQueue 0 { left := k.left - (e.frag.size - taken), sent := k.sent + 1, retired := k.retired ++ [e.frag] } rest
      else (e :: rest, taken + k.left, { k with left := 0 })
    else (e :: rest, 0, k)

/-- A TAKEN report of `n` octets applied to residue and queue, with its counts; answers the fragments retired
(R28, R29). -/
def applyTaken (p : PairNo) (n : Nat) (s : State) : State × List Fragment :=
  let x := s.port p
  let (left, sent, residue) := coverResidue n 0 x.residue
  let (queue, taken, k) := coverQueue x.takenFromHead { left := left, sent := sent, retired := [] } x.queue
  let s1 := s.setPort p { x with residue := residue, queue := queue, takenFromHead := taken }
  let s2 := (s1.countPairBy p .octetsSent (n - k.left)).countPairBy p .fragmentsSent k.sent
  (if k.left = 0 then s2 else s2.countPair p .takenExcess, k.retired)

/-! ### Reports (R20, R21) -/

/-- A REPORT's fields clamped (R20). -/
def clampReport (line : LineState) (upRate downRate upDelay downDelay : Nat) : Report :=
  { line := line, upRate := min upRate 16000, downRate := min downRate 16000,
    upDelay := min upDelay 63, downDelay := min downDelay 63 }

/-- An accepted REPORT is kept and restarts the silence timer (R20, R21); one without SHOWTIME clears the residue
(R31). The handover test that the clearing brings is made here, before the Pair Controller has closed the gate: the
model's choice [30]. -/
def keepReport (p : PairNo) (r : Report) (s : State) : State :=
  handover p
    (s.modPort p fun x =>
      { x with report := r, silence := some (s.now + Config.silenceMs),
               residue := if r.line = .showtime then x.residue else [] })

/-- A REPORT's line state disagrees with the current order (R19). -/
def disagrees (o : Order) (line : LineState) : Bool :=
  match o, line with
  | .quiet, .training => true
  | .quiet, .showtime => true
  | .train, .idle => true
  | _, _ => false

end Sys2Proof.Machine
end

