-- ==== Sys2Proof/Machine/Pairs.lean ====
section
/-! DEFINITION. The Pair Controller: rates and reasons, state entry, and the placing of control fragments (chapter 3). -/

namespace Sys2Proof.Machine

/-! ### Rates and reasons -/

/-- The effective up rate of a pair (R45). -/
def State.effUp (s : State) (p : PairNo) : Nat := (s.port p).report.upRate * (s.pair p).derate / 100

/-- The effective up rate is usable (R45). -/
def State.usable (s : State) (p : PairNo) : Bool := Config.usableRate ≤ s.effUp p

/-- The reason on entry to PARKED, by the enable flag (R40). -/
def parkedReason (enabled : Bool) : Reason := if enabled then .notReleased else .host

/-- The start test: the enable flag is set and the part is released (R41). -/
def State.startTest (s : State) (p : PairNo) : Bool := (s.pair p).enabled && s.mgmt.released

/-- The part's reason changed without a change of state. -/
def setReason (p : PairNo) (why : Reason) (s : State) : State := s.modPair p fun r => { r with reason := why }

/-- The state timer started with a length in ms. -/
def startTimer (p : PairNo) (t : StateTimer) (ms : Nat) (s : State) : State :=
  s.modPair p fun r => { r with stateTimer := some (t, s.now + ms) }

/-! ### State entry (R39) -/

/-- The entry orders the line queue emptied (R39, R59). -/
def entryEmpties (old new : PairState) : Bool :=
  match new with
  | .vacant | .parked | .training | .quarantine | .faulted => true
  | .joining => old == .active || old == .leaving || old == .joining
  | .settling => old == .leaving
  | .active | .leaving => false

/-- The pair record on entry to a state: timers stopped, waiting fragments discarded, join and leave flags cleared, and
no renewal pending (R39, R9). -/
def Pair.entered (r : Pair) (new : PairState) (why : Reason) : Pair :=
  { r with
    state := new, reason := why, outboundJoined := false, peerLeft := false, leaveTaken := false, leaveForm := .noLeave,
    stateTimer := none, joinRepeat := none, progressTimer := none, waitAck := none, waitJoin := false,
    waitLeave := none, renewal := false }

/-- What a change of the ACTIVE count from `before` brings: BOND-STATE when it crosses 0, and the purge when it falls
to 0 (R39, R101). -/
def activeChanged (during : State → State) (before : Nat) (s : State) : State :=
  if before = 0 then (if s.activeCount = 0 then s else s.raise .bondState)
  else if s.activeCount = 0 then purge during (s.raise .bondState) else s

/-- The pair leaves the live set on entry to a state that is not kept in it (R39, R60). -/
def leavesLive : PairState → Bool
  | .active | .leaving => false
  | _ => true

/-- The entry to a state with a reason, but for the pair's leaving the live set (R39). `during` is handed to a purge.
That the waiting fragments are discarded before the emptying gives them room is the model's choice [35]. -/
def entering (during : State → State) (p : PairNo) (new : PairState) (why : Reason) (s : State) : State :=
  let old := (s.pair p).state
  let before := s.activeCount
  let s1 := s.modPair p fun r => r.entered new why
  let s2 := setOrder p new.order s1
  let s3 := if entryEmpties old new then emptyQueue p s2 else s2
  activeChanged during before ((handover p s3).raise (.pairState p))

/-- The pair is the only ACTIVE one, and its leaving ACTIVE purges a frame (R39, R101). -/
def State.purgesWith (s : State) (p : PairNo) : Bool := s.isActive p && s.activeCount == 1 && s.outboundFrames != 0

/-- `act` takes the pair out of ACTIVE, in one step with its leaving the live set. Where `act` purges, the Reorder
Engine's requests and the returns of the purge reach the Cell Memory in either order (R75), and the Reorder Engine takes
its removal and a pressure event of the purge in either order [34]. -/
def withRemoval (p : PairNo) (act : (State → State) → State → State) (s : State) : State :=
  if s.isLive p && s.purgesWith p then
    let (purgeFirst, s1) := s.race
    let (pressureFirst, s2) := s1.race
    if purgeFirst then act (fun t => rxRemove p (if pressureFirst then drainTells t else t)) s2
    else act id (rxRemove p s2)
  else act id (rxRemove p s)

/-- Entry to a state with a reason: everything R39 says happens on it [12]. -/
def enter (p : PairNo) (new : PairState) (why : Reason) (s : State) : State :=
  if leavesLive new then withRemoval p (fun during => entering during p new why) s else entering id p new why s

/-- Entry to PARKED, the reason set by the enable flag (R40). -/
def park (p : PairNo) (s : State) : State := enter p .parked (parkedReason (s.pair p).enabled) s

/-- A pending host disable is done: COMMAND-DONE is raised when it is cleared (R67). -/
def hostDone (p : PairNo) (s : State) : State :=
  if (s.pair p).hostDisable then (s.modPair p fun r => { r with hostDisable := false }).raise (.commandDone p) else s

/-- A PARKED pair whose start test is made: to TRAINING, or to FAULTED without a count when its guard is active; else
it stays with the reason its flag gives (R41). -/
def startParked (p : PairNo) (s : State) : State :=
  if s.startTest p then
    if (s.port p).guard = .active then enter p .faulted .fault s else enter p .training .host s
  else setReason p (parkedReason (s.pair p).enabled) s

/-- The target of a pair that leaves QUARANTINE or FAULTED: TRAINING with its reason kept, or PARKED (R41). -/
def restart (p : PairNo) (s : State) : State :=
  if s.startTest p then enter p .training (s.pair p).reason s else park p s

/-! ### Placing control fragments (R6, R47, R48) -/

/-- A control fragment's placement, if the queue accepts it (R25). -/
def place (p : PairNo) (f : Fragment) (s : State) : Option State :=
  if (s.port p).hasRoom f.size then some (stage p f s) else none

/-- The JOIN as built now (R6, R12, R47). -/
def buildJoin (p : PairNo) (s : State) : Fragment := .join s.disp.next s.mgmt.bondId p s.mgmt.epoch

/-- A JOIN of the pair is still STAGED in its queue, or waiting (R47). -/
def State.joinOutstanding (s : State) (p : PairNo) : Bool :=
  (s.pair p).waitJoin || (s.port p).queue.any fun e => !e.handed && (match e.frag with | .join .. => true | _ => false)

/-- A JOIN placed, or made to wait (R47, R48). -/
def placeJoin (p : PairNo) (s : State) : State :=
  match place p (buildJoin p s) s with
  | some s' => s'.modPair p fun r => { r with waitJoin := false }
  | none => s.modPair p fun r => { r with waitJoin := true }

/-- A JOIN-ACK placed, or made to wait in place of a waiting one (R48, R50). -/
def placeAck (p echo : PairNo) (result : JoinResult) (s : State) : State :=
  match place p (.joinAck s.mgmt.bondId echo result) s with
  | some s' => s'.modPair p fun r => { r with waitAck := none }
  | none => s.modPair p fun r => { r with waitAck := some (echo, result) }

/-- A LEAVE placed, or made to wait (R56, R57). -/
def placeLeave (p : PairNo) (why : LeaveReason) (s : State) : State :=
  match place p (.leave why) s with
  | some s' => s'.modPair p fun r => { r with waitLeave := none }
  | none => s.modPair p fun r => { r with waitLeave := some why }

/-- A PROGRESS placed if there is room; placing one clears a pending renewal (R6, R9, R54). -/
def placeProgress (p : PairNo) (s : State) : State :=
  match place p (.progress s.disp.next) s with
  | some s' => s'.modPair p fun r => { r with renewal := false }
  | none => s

/-- The outbound reference of an ACTIVE pair lags next by 4096 or more (R9). That no renewal is due on a pair without one is
the model's choice [37]. -/
def State.renewalDue (s : State) (p : PairNo) : Bool :=
  s.isActive p && match (s.pair p).outRef with
    | some ref => Config.renewalDistance ≤ dist s.disp.next ref
    | none => false

/-- A renewal of the pair is pending, or becomes pending at a test made now (R9). -/
def State.renewalPends (s : State) (p : PairNo) : Bool := (s.pair p).renewal || s.renewalDue p

/-- The renewal test of an ACTIVE pair, and the placement while a renewal is pending; a test clears none (R9). -/
def renewalTest (p : PairNo) (s : State) : State :=
  if s.isActive p && s.renewalPends p then placeProgress p (s.modPair p fun r => { r with renewal := true }) else s

/-- The waiting JOIN-ACK is tried. -/
def tryAck (p : PairNo) (s : State) : State :=
  match (s.pair p).waitAck with
  | some (echo, result) => placeAck p echo result s
  | none => s

/-- The waiting JOIN is tried. -/
def tryJoin (p : PairNo) (s : State) : State := if (s.pair p).waitJoin then placeJoin p s else s

/-- The waiting LEAVE is tried. -/
def tryLeave (p : PairNo) (s : State) : State :=
  match (s.pair p).waitLeave with
  | some why => placeLeave p why s
  | none => s

/-- The pending renewal is tried. -/
def tryRenewal (p : PairNo) (s : State) : State := if (s.pair p).renewal then placeProgress p s else s

/-- The Pair Controller takes a room report: the waiting fragments in the order of R48. -/
def pairRoom (p : PairNo) (s : State) : State := tryRenewal p (tryLeave p (tryJoin p (tryAck p s)))

/-- The Pair Controller has something that wants the room (R48, R118). -/
def State.wantsRoom (s : State) (p : PairNo) : Bool :=
  (s.pair p).waitAck.isSome || (s.pair p).waitJoin || (s.pair p).waitLeave.isSome || (s.pair p).renewal

/-- The progress timer starts on an ACTIVE pair whose queue is empty (R54). -/
def startProgress (p : PairNo) (s : State) : State :=
  if s.isActive p && (s.port p).queue.isEmpty then
    s.modPair p fun r => { r with progressTimer := some (s.now + s.cfg.progressInterval) }
  else s

end Sys2Proof.Machine
end

