-- ==== Sys2Proof/Machine/Between.lean ====
section
/-! DEFINITION. The events at a pair that can be taken between two fragments of one frame (R114). -/

namespace Sys2Proof.Machine

/-- The state timer of a pair runs, and it is this one. -/
def State.runs (s : State) (p : PairNo) (k : StateTimer) : Bool :=
  match (s.pair p).stateTimer with
  | some (j, _) => j == k
  | none => false

/-- A request can be taken now and also after one more reply has been made (R173). The place for one more reply is asked for
because the run may be one that a request has begun, whose reply is yet to be placed; that it is asked for in every run is the
model's choice [32]. -/
def answerable (m : Message) (s : State) : Bool := takeable m s && s.mgmt.outbox.length + 1 < Config.outboxMessages

/-- A DISABLE-PAIR that moves the pair, or withdraws fragments from its queue (R67). -/
def disableMoves (s : State) (p : PairNo) (abort : Bool) : Bool :=
  match (s.pair p).state with
  | .training | .settling | .joining | .quarantine | .active => true
  | .leaving => abort && ((s.pair p).reason != .host || (s.pair p).leaveForm == .graceful)
  | .vacant | .parked | .faulted => false

/-- The command is an event at a pair that reaches the dispatcher: a TAKEN that gives room, a REPORT, a fragment that passes
the checks, an expiry, a JOIN placed, a DISABLE-PAIR that moves the pair or a CONFIGURE-PAIR (R114, R118) [32]. Each of these
commands decides the fragment that waits. -/
def pairEvent (s : State) : Instr → Bool
  | .report p _ _ _ _ _ => s.isFitted p
  | .taken p n =>
    s.listening p && decide ((s.port p).residue.sum < n.toNat)
      && (match (s.port p).queue with | e :: _ => e.handed | [] => false)
  | .fragmentReceived p octets => s.listening p && (match checkFragment p octets with | .good _ => true | _ => false)
  | .silenceTimerExpiry p => (s.port p).silence.isSome
  | .guardAssertTimerExpiry p => (s.port p).guard == .clear && (s.port p).debounce.isSome
  | .guardClearTimerExpiry p => (s.port p).guard == .active && (s.port p).debounce.isSome
  | .holdoffTimerExpiry p => s.runs p .holdoff
  | .joinTimerExpiry p => s.runs p .join
  | .leaveTimerExpiry p => s.runs p .leave
  | .penaltyTimerExpiry p => s.runs p .penalty
  | .progressTimerExpiry p => (s.pair p).progressTimer.isSome
  | .joinRepeatTimerExpiry p =>
    (s.pair p).joinRepeat.isSome && !s.joinOutstanding p && (s.port p).hasRoom (buildJoin p s).size && !s.isActive p
  | .configurePair tag body =>
    answerable { kind := 0x10, tag := tag, body := body } s && body.length == 2
      && (match pairOf (field body 0 1) with | some p => s.isFitted p | none => false)
  | .disablePair tag body =>
    answerable { kind := 0x12, tag := tag, body := body } s && body.length == 2
      && (match pairOf (field body 0 1), modeOf (field body 1 1) with
        | some p, some abort => s.isFitted p && disableMoves s p abort
        | _, _ => false)
  | .reset _ | .mgmtFrameComplete | .characterGapTimeout | .spiTransferEnd | .messageSent | .unknownRequest _ _ _
  | .identify _ _ | .configureBond _ _ | .release _ _ | .resetBond _ _ | .enablePair _ _ | .probePair _ _
  | .configureMemory _ _ | .writeRule _ _ | .readRule _ _ | .tryClassify _ _ | .configureClass _ _ | .flushReorder _ _
  | .readGaps _ _ | .setNotices _ _ | .readPair _ _ | .readBond _ _ | .readCounters _ _ | .noticeBuild
  | .portUnknownMessage _ _ | .lineGuardChange _ _ | .gapTimerExpiry | .lanFrameReceived _ _ | .lanFrameSent
  | .lanLinkChange _ | .mgmtOctetReceived _ _ => false

/-- The command that waits first is an event at a pair (R114). -/
def State.eventWaits (s : State) : Bool :=
  match s.pending with
  | c :: _ => pairEvent s c
  | [] => false

end Sys2Proof.Machine
end

