-- ==== Sys2Proof/Machine/Dispatcher.lean ====
section
/-! DEFINITION. The Fragment Dispatcher: split plan, eligibility, arrival estimate, choice, placement, hold (chapter 6). -/

namespace Sys2Proof.Machine

/-! ### The balanced split (R106, R107) -/

/-- The split plan of a frame, with P latched (R106). -/
def planOf (pMax : Nat) (f : OutFrame) : SplitPlan :=
  let n := f.octets.length
  let k := ceilDiv n pMax
  { octets := f.octets, cells := f.cells, pMax := pMax, k := k, large := ceilDiv n k, small := n / k,
    largeCount := n % k, current := 1, offset := 0 }

/-- The payload length p_j of the current fragment (R107). -/
def SplitPlan.payloadLength (plan : SplitPlan) : Nat :=
  if plan.current ≤ plan.largeCount then plan.large else plan.small

/-- The size c of the current fragment (R110). -/
def SplitPlan.size (plan : SplitPlan) : Nat := plan.payloadLength + 8

/-- The current fragment, built with the number it takes (R110). -/
def SplitPlan.fragment (plan : SplitPlan) (seq : Seq) : Fragment :=
  .data (plan.current == 1) (plan.current == plan.k) seq ((plan.octets.drop plan.offset).take plan.payloadLength)

/-- The plan after its current fragment has been placed (R115, step 3). -/
def SplitPlan.advance (plan : SplitPlan) : SplitPlan :=
  { plan with offset := plan.offset + plan.payloadLength, current := plan.current + 1 }

/-! ### Choosing a pair (R111 to R113) -/

/-- A pair is eligible for a fragment of size `c` and prospective number next (R111, R8). That a pair without an outbound
reference is not is the model's choice [37]. -/
def State.eligible (s : State) (c : Nat) (p : PairNo) : Bool :=
  s.isActive p && s.usable p && (s.port p).hasRoom c && match (s.pair p).outRef with
    | some ref => dist s.disp.next ref ≤ Config.referenceDistance
    | none => false

/-- The arrival estimate E of a pair for a fragment of size `c`, in microseconds (R112). -/
def State.estimate (s : State) (c : Nat) (p : PairNo) : Nat :=
  ceilDiv (((s.port p).backlog + c) * 8000) (s.effUp p) + 1000 * (s.port p).report.upDelay

/-- Of two pairs in ascending index, the one with the lesser estimate, and the first when they tie (R113). -/
def State.sooner (s : State) (c : Nat) (a b : PairNo) : PairNo :=
  if s.estimate c b < s.estimate c a then b else a

/-- The pair a fragment of size `c` goes to (R113). -/
def choose (s : State) (c : Nat) : Option PairNo :=
  match allPairs.filter (s.eligible c) with
  | [] => none
  | a :: rest => some (rest.foldl (s.sooner c) a)

/-! ### Placement (R115, R116) -/

/-- The Fragment Dispatcher's own state changed. -/
def State.modDisp (f : Dispatcher → Dispatcher) (s : State) : State := { s with disp := f s.disp }

/-- The current fragment of a plan placed on a pair (R115, steps 1 to 4); a renewal pending there is cleared (R9). -/
def placeFragment (p : PairNo) (plan : SplitPlan) (s : State) : State :=
  ((stage p (plan.fragment s.disp.next)
    (s.modDisp fun d => { d with next := d.next + 1, split := some plan.advance, held := false, midRun := false })).modPair p fun r =>
      { r with renewal := false }).count .fragmentsDispatched

/-- The last fragment of a frame has been placed (R116). -/
def finishFrame (plan : SplitPlan) (s : State) : State :=
  returnCells .outbound plan.cells ((s.modDisp fun d => { d with split := none }).count .framesDispatched)

/-- A frame becomes the frame being split (R105, R106). -/
def beginSplit (f : OutFrame) (s : State) : State :=
  s.modDisp fun d => { d with split := some (planOf s.cfg.pMax f), held := false, standing := false, midRun := false }

/-- One move of the dispatcher: a frame taken or asked for, a fragment placed, or a fragment held; none when it rests
EMPTY or HOLDING (R104, R105, R113, R117). The flag tells whether next advanced. -/
def dispatchMove (s : State) : Option (State × Bool) :=
  match s.disp.split with
  | none =>
    match selectFrame s with
    | some (f, s') => some (beginSplit f s', false)
    | none => if s.disp.standing then none else some (s.modDisp fun d => { d with standing := true }, false)
  | some plan =>
    match choose s plan.size with
    | some p =>
      let s' := placeFragment p plan s
      some (if plan.current = plan.k then finishFrame plan s' else s', true)
    | none =>
      if s.disp.held && !s.disp.midRun then none
      else some ((s.modDisp fun d => { d with held := true, midRun := false }).count .dispatchHolds, false)

/-- The renewal tests that an advance of next brings for every ACTIVE pair (R9, R115). -/
def renewalTests (s : State) : State := forPairs renewalTest s

/-- A renewal test would place a PROGRESS on some pair now. -/
def State.renewalWanted (s : State) : Bool :=
  allPairs.any fun p => s.isActive p && s.renewalPends p && (s.port p).hasRoom 8

/-- The next fragment of the frame is to be decided, one before it has been placed, and an event at a pair waits: it may be
taken between the two (R114). -/
def State.mayStop (s : State) : Bool :=
  (match s.disp.split with
    | some plan => 2 ≤ plan.current && (!s.disp.held || s.disp.midRun)
    | none => false) && s.eventWaits

/-- The run stops between two fragments; the event that waits finds the frame as a held one (R114, R118) [32]. -/
def stopRun (s : State) : State := s.modDisp fun d => { d with held := true, midRun := true }

/-- Moves made until the dispatcher rests. `owed` tells that next has advanced and the Pair Controller has not yet made
its renewal tests; where a test would place a PROGRESS, it is made before or after the next decision [8]. Where an event at
a pair waits, the run may stop between two fragments of a frame for it [32]. Each move takes a frame, places one of at most
32 entries the eight queues have room for, or rests. -/
def dispatchRun : Nat → Bool → State → State
  | 0, owed, s => if owed then renewalTests s else s
  | n + 1, true, s =>
    let (dispatcherFirst, s1) := if s.renewalWanted then s.race else (false, s)
    if dispatcherFirst then
      match dispatchMove s1 with
      | some (s2, _) => dispatchRun n true s2
      | none => dispatchRun n false (renewalTests s1)
    else dispatchRun n false (renewalTests s1)
  | n + 1, false, s =>
    let (stops, s1) := if s.mayStop then s.race else (false, s)
    if stops then stopRun s1
    else match dispatchMove s1 with
      | some (s2, advanced) => dispatchRun n advanced s2
      | none => s1

/-- The most moves one run can hold: 32 entries can be placed at most, each after a frame taken, with its renewal
tests, and the run ends by a hold or an empty selection. -/
def dispatchFuel : Nat := 128

/-- The dispatcher runs to one of its two conditions; the pressure events told meanwhile are taken (R104) [7]. -/
def dispatch (s : State) : State := drainTells (dispatchRun dispatchFuel false s)

/-- A re-decision of a held fragment (R118), or of the next fragment of a run that has stopped (R114); an EMPTY dispatcher
has nothing to decide. -/
def redecide (s : State) : State := if s.disp.held then dispatch s else s

end Sys2Proof.Machine
end

