-- ==== Sys2Proof/Machine/Lifecycle.lean ====
section
/-! DEFINITION. The Pair Controller: leaving, drops, quarantine, faults, joining, presence, restarts (chapter 3). -/

namespace Sys2Proof.Machine

/-! ### Leaving (R56, R57, R59) -/

/-- Entry to LEAVING with a form; the leave timer starts (R56, R57). -/
def enterLeaving (during : State → State) (p : PairNo) (why : Reason) (form : LeaveForm) (s : State) : State :=
  startTimer p .leave s.cfg.leaveTimeout
    ((entering during p .leaving why s).modPair p fun r => { r with leaveForm := form })

/-- The enable flag is cleared and host disable pending set (R56, R57). -/
def hostCause (p : PairNo) (s : State) : State :=
  s.modPair p fun r => { r with enabled := false, hostDisable := true }

/-- The LEAVE reason of a graceful leave, by its reason (R56). -/
def leaveReasonFor : Reason → LeaveReason
  | .lowRate => .lowRate
  | .peerLeave => .peerLeave
  | _ => .host

/-- A graceful leave of an ACTIVE pair for a reason (R56). -/
def gracefulLeave (p : PairNo) (why : Reason) (s : State) : State :=
  let s1 := enterLeaving id p why .graceful s
  placeLeave p (leaveReasonFor why) (if why = .host then hostCause p s1 else s1)

/-- Our LEAVE has been taken or is HANDED, so no new one is made at an upgrade (R57). -/
def State.leaveGone (s : State) (p : PairNo) : Bool :=
  (s.pair p).leaveTaken || (s.port p).queue.any fun e => e.handed && (match e.frag with | .leave _ => true | _ => false)

/-- DISABLE-PAIR ABORT from ACTIVE (R57). -/
def abortLeave (p : PairNo) (s : State) : State :=
  placeLeave p .abort (withdraw p (hostCause p (enterLeaving id p .host .abort s)))

/-- DISABLE-PAIR ABORT upgrades a graceful leave (R57) [28]. -/
def upgradeLeave (p : PairNo) (s : State) : State :=
  let s1 := (hostCause p s).modPair p fun r => { r with reason := .host, leaveForm := .abort, waitLeave := none }
  let s2 := withdraw p s1
  pairRoom p (if s.leaveGone p then s2 else placeLeave p .abort s2)

/-- The leave completes (R59). -/
def completeLeave (p : PairNo) (s : State) : State :=
  if (s.pair p).reason = .host then hostDone p (park p s)
  else startTimer p .holdoff s.cfg.holdoff (enter p .settling (s.pair p).reason s)

/-- The completion test (R59). -/
def completionTest (p : PairNo) (s : State) : State :=
  if (s.pair p).state = .leaving ∧ (s.pair p).leaveTaken ∧ (s.pair p).peerLeft then completeLeave p s else s

/-- The Pair Controller is told a LEAVE was retired (R30, R59). -/
def leaveRetired (p : PairNo) (s : State) : State :=
  if (s.pair p).state = .leaving then completionTest p (s.modPair p fun r => { r with leaveTaken := true }) else s

/-! ### Quarantine, drops, faults (R46, R61 to R64) -/

/-- Entry to QUARANTINE (R63). -/
def quarantine (p : PairNo) (why : Reason) (s : State) : State :=
  startTimer p .penalty (s.cfg.penalty * 1000)
    (((enter p .quarantine why s).modPair p fun r => { r with flaps := [] }).countPair p .quarantines)

/-- A time appended to the flap history, which holds at most 8 (R62). -/
def addFlap (t : Nat) (h : List Nat) : List Nat := (if h.length < 8 then h else h.drop 1) ++ [t]

/-- The flap test reaches the threshold (R62). -/
def State.flapping (s : State) (p : PairNo) : Bool :=
  s.cfg.flapThreshold ≤ (s.pair p).flaps.countP fun t => s.now - t ≤ s.cfg.flapWindow * 1000

/-- A retrain is counted and enters the flap history (R46, R61, R62). -/
def countRetrain (p : PairNo) (s : State) : State :=
  (s.countPair p .retrains).modPair p fun r => { r with flaps := addFlap s.now r.flaps }

/-- After a retrain: QUARANTINE when the flap test reaches the threshold, else TRAINING (R46, R61). -/
def afterRetrain (p : PairNo) (s : State) : State :=
  if s.flapping p then quarantine p .flapping s else enter p .training .lineDrop s

/-- A retrain from SETTLING (R46). -/
def retrain (p : PairNo) (s : State) : State := afterRetrain p (countRetrain p s)

/-- A line drop (R61). That the room the emptying gives is not used by the Pair Controller before the pair is moved is
the model's choice [35]. -/
def lineDrop (p : PairNo) (s : State) : State :=
  let s1 := countRetrain p (rxRemove p (emptyQueue p s))
  if (s1.pair p).hostDisable then hostDone p (park p s1) else afterRetrain p s1

/-- "Guard active" reaches the Pair Controller (R64). -/
def guardActive (p : PairNo) (s : State) : State :=
  if (s.pair p).state = .vacant then s
  else hostDone p ((enter p .faulted .fault s).countPair p .faults)

/-- "Guard clear" reaches the Pair Controller (R64). -/
def guardClear (p : PairNo) (s : State) : State :=
  if (s.pair p).state = .faulted then restart p s else s

/-! ### Joining (R45, R47, R53) -/

/-- Entry to JOINING (R47). -/
def enterJoining (p : PairNo) (why : Reason) (s : State) : State :=
  (placeJoin p (startTimer p .join (s.cfg.joinTimeout * 1000) (enter p .joining why s))).modPair p fun r =>
    { r with joinRepeat := some (s.now + Config.joinRepeatMs) }

/-- The rate test of a SETTLING pair whose holdoff is served (R45). -/
def settlingRateTest (p : PairNo) (s : State) : State :=
  if s.usable p then enterJoining p (s.pair p).reason s else setReason p .lowRate s

/-- The rate test of an ACTIVE pair (R55). -/
def activeRateTest (p : PairNo) (s : State) : State := if s.usable p then s else gracefulLeave p .lowRate s

/-- The rate test a REPORT with SHOWTIME or a CONFIGURE-PAIR makes (R45, R68) [23]. -/
def rateTest (p : PairNo) (s : State) : State :=
  match (s.pair p).state with
  | .settling => if (s.pair p).stateTimer.isNone then settlingRateTest p s else s
  | .active => activeRateTest p s
  | _ => s

/-- Entry to ACTIVE (R53). Where a held fragment and a renewal both want the pair, either is taken first [8]. -/
def enterActive (p : PairNo) (s : State) : State :=
  let s1 := activeRateTest p (enter p .active (s.pair p).reason s)
  if s1.isActive p then
    let (dispatcherFirst, s2) := if s1.disp.held && s1.renewalDue p then s1.race else (false, s1)
    startProgress p (renewalTest p (if dispatcherFirst then redecide s2 else s2))
  else s1

/-- The ACTIVE test (R53). -/
def activeTest (p : PairNo) (s : State) : State :=
  if (s.pair p).state = .joining ∧ (s.pair p).outboundJoined ∧ s.isLive p then enterActive p s else s

/-! ### Presence (R42, R43) -/

/-- The transceiver has become present (R42). -/
def becamePresent (p : PairNo) (s : State) : State :=
  let s1 := park p s
  if (s1.port p).guard = .active then enter p .faulted .fault s1
  else if s1.startTest p then enter p .training .host s1 else s1

/-- The transceiver has become absent (R43). -/
def becameAbsent (p : PairNo) (s : State) : State := hostDone p (enter p .vacant .silent s)

/-! ### Reports at the Pair Controller (R44 to R46, R55, R61) -/

/-- An accepted REPORT at the Pair Controller. -/
def pairReport (p : PairNo) (line : LineState) (s : State) : State :=
  match (s.pair p).state with
  | .training =>
    if line = .showtime then startTimer p .holdoff s.cfg.holdoff (enter p .settling (s.pair p).reason s) else s
  | .settling => if line = .showtime then rateTest p s else retrain p s
  | .joining | .leaving => if line = .showtime then s else lineDrop p s
  | .active => if line = .showtime then activeRateTest p s else lineDrop p s
  | .vacant | .parked | .quarantine | .faulted => s

/-! ### Control fragments at the Pair Controller (R49 to R51, R58, R60, R65) -/

/-- A JOIN-ACK taken (R49, R11). -/
def takeJoinAck (p : PairNo) (bondId : BitVec 16) (result : JoinResult) (s : State) : State :=
  if (s.pair p).state = .joining then
    match (if bondId = s.mgmt.bondId then result else .wrongBond) with
    | .accept =>
      if (s.pair p).outboundJoined then s
      else activeTest p
        (s.modPair p fun r => { r with outboundJoined := true, joinRepeat := none, waitJoin := false })
    | .notReady => startTimer p .join (s.cfg.joinTimeout * 1000) s
    | .wrongBond => quarantine p .crossBond s
  else s

/-- A matching JOIN accepted on a JOINING pair: answered, told to the Reorder Engine, and the ACTIVE test (R51). -/
def acceptJoin (p echo : PairNo) (m : Seq) (e : BitVec 8) (s : State) : State :=
  activeTest p (rxJoin p m e (placeAck p echo .accept s))

/-- One of our pairs moved by a peer restart (R65, step 2). -/
def restartPair (p : PairNo) (s : State) : State :=
  match (s.pair p).state with
  | .joining | .active => enterJoining p .peerRestart s
  | .leaving => if (s.pair p).hostDisable then hostDone p (park p s) else enterJoining p .peerRestart s
  | _ => s

/-- A peer restart (R65). -/
def peerRestart (p echo : PairNo) (m : Seq) (e : BitVec 8) (s : State) : State :=
  let s1 := forPairs restartPair ((rxPeerRestart s).count .peerRestarts)
  if (s1.pair p).state = .joining then acceptJoin p echo m e s1 else s1

/-- The far unit re-joins one pair that is ACTIVE or LEAVING (R60). Where the pair was the only live one and the store
is empty, its drop makes the receiver UNSYNCED (R128) and the JOIN resynchronises it (R127), though R130 speaks of a
SYNCED receiver: the model's choice [33]. -/
def rejoin (p echo : PairNo) (m : Seq) (e : BitVec 8) (s : State) : State :=
  if (s.pair p).state = .leaving ∧ (s.pair p).reason = .host then hostDone p (park p s)
  else acceptJoin p echo m e (enterJoining p .peerRestart s)

/-- A JOIN taken (R50, R51, R60, R65). -/
def takeJoin (p echo : PairNo) (m : Seq) (bondId : BitVec 16) (e : BitVec 8) (s : State) : State :=
  let restarted := s.rx.synced && e != s.rx.peerEpoch
  match (s.pair p).state with
  | .settling => placeAck p echo (if bondId = s.mgmt.bondId then .notReady else .wrongBond) s
  | .joining =>
    if bondId = s.mgmt.bondId then (if restarted then peerRestart p echo m e s else acceptJoin p echo m e s)
    else placeAck p echo .wrongBond s
  | .active | .leaving =>
    if bondId = s.mgmt.bondId then (if restarted then peerRestart p echo m e s else rejoin p echo m e s)
    else placeAck p echo .wrongBond s
  | .vacant | .parked | .training | .quarantine | .faulted => s

/-- An ACTIVE pair enters LEAVING for the peer's LEAVE (R58, R56). -/
def peerLeaves (p : PairNo) (during : State → State) (s : State) : State :=
  placeLeave p .peerLeave
    ((enterLeaving during p .peerLeave .graceful s).modPair p fun r => { r with peerLeft := true })

/-- A LEAVE taken (R58). -/
def takeLeave (p : PairNo) (s : State) : State :=
  match (s.pair p).state with
  | .joining => rxRemove p s
  | .active => withRemoval p (peerLeaves p) s
  | .leaving => completionTest p (rxRemove p (s.modPair p fun r => { r with peerLeft := true }))
  | _ => s

end Sys2Proof.Machine
end

