-- ==== Sys2Proof/Machine/Link.lean ====
section
/-! DEFINITION. The Management Link: framing, input buffer, output queue, octets out, notices (chapters 9 and 10). -/

namespace Sys2Proof.Machine

/-- The Management Link's own state changed. -/
def State.modMgmt (f : Mgmt → Mgmt) (s : State) : State := { s with mgmt := f s.mgmt }

/-! ### The receive framer (R170, R171) -/

/-- The sync octet of every management frame (R184). -/
def syncOctet : Octet := 0xA5

/-- The framer's state replaced. -/
def State.setFramer (x : Framer) (s : State) : State := s.modMgmt fun m => { m with framer := x }

/-- A length octet in range (R170). -/
def lengthInRange (o : Octet) : Bool := 2 ≤ o.toNat && o.toNat ≤ 248

/-- The framer in HUNT examines an octet (R170). -/
def hunt (o : Octet) (s : State) : State := s.setFramer (if o = syncOctet then .length else .hunt)

/-- The framer takes an octet (R170). In COLLECT the octet is kept; a frame that is complete by it is tested by
MGMT_FRAME_COMPLETE. -/
def feed (o : Octet) (s : State) : State :=
  match s.mgmt.framer with
  | .hunt => hunt o s
  | .length => if lengthInRange o then s.setFramer (.collect o.toNat []) else hunt o (s.count .mgmtBadLength)
  | .collect n kept => s.setFramer (.collect n (kept ++ [o]))

/-- The check word of a complete frame of length `n` agrees (R170, 9.2): it covers the length octet and the `n` octets
that follow it. -/
def frameAgrees (n : Nat) (kept : List Octet) : Bool :=
  (crc16 (be1 n ++ kept.take n)).toNat == field kept n 2

/-- The message a complete frame carries (R184). -/
def frameMessage (n : Nat) (kept : List Octet) : Message :=
  { kind := kept.getD 0 0, tag := kept.getD 1 0, body := (kept.take n).drop 2 }

/-- A message is handed to the input buffer (R172). -/
def acceptMessage (m : Message) (s : State) : State :=
  if s.mgmt.inbox.length < Config.inboxMessages then s.modMgmt fun x => { x with inbox := x.inbox ++ [m] }
  else s.count .rxOverrun

/-- Octets rescanned in order from HUNT, with their nested rescans (R170): a frame whose check differs is counted and
the octets that followed its sync are scanned in their turn. Every turn passes at least one octet. -/
def rescan : Nat → List Octet → State → State
  | 0, _, s => s.setFramer .hunt
  | _ + 1, [], s => s.setFramer .hunt
  | k + 1, o :: rest, s =>
    if o ≠ syncOctet then rescan k rest s
    else match rest with
      | [] => s.setFramer .length
      | l :: after =>
        if !lengthInRange l then rescan k rest (s.count .mgmtBadLength)
        else if after.length < l.toNat + 2 then s.setFramer (.collect l.toNat after)
        else if frameAgrees l.toNat (after.take (l.toNat + 2)) then
          rescan k (after.drop (l.toNat + 2)) (acceptMessage (frameMessage l.toNat (after.take (l.toNat + 2))) s)
        else rescan k rest (s.count .mgmtBadCheck)

/-- A complete frame is tested (R170): handed over, or discarded and rescanned. Without a complete frame nothing
happens. -/
def testFrame (s : State) : State :=
  match s.mgmt.framer with
  | .collect n kept =>
    if kept.length = n + 2 then
      if frameAgrees n kept then acceptMessage (frameMessage n kept) (s.setFramer .hunt)
      else rescan (n + 3) (be1 n ++ kept) (s.count .mgmtBadCheck)
    else s
  | _ => s

/-- A frame in LENGTH or COLLECT is abandoned; one that is complete is tested first (R171) [5]. -/
def abandonFrame (s : State) : State :=
  let s' := testFrame s
  match s'.mgmt.framer with
  | .hunt => s'
  | _ => (s'.setFramer .hunt).count .mgmtAbandoned

/-! ### Octets out (R168, R169) -/

/-- MSG_WAIT is asserted (R168, R169). -/
def State.msgWait (s : State) : Bool := s.mgmt.spi && !s.mgmt.outbox.isEmpty

/-- The head message leaves the output queue; none of the octets of the next has been sent (R168, R169). -/
def Mgmt.dropHead (m : Mgmt) : Mgmt := { m with outbox := m.outbox.drop 1, sentOctets := 0 }

/-- An octet is clocked out on MG_MISO: the next unsent octet of the head message, which leaves the output queue with its
last octet, or 0x00 (R169). -/
def Mgmt.clockOut (m : Mgmt) : Mgmt :=
  match m.outbox with
  | [] => { m with linkOut := m.linkOut ++ [0] }
  | head :: _ =>
    let sent := { m with linkOut := m.linkOut ++ [head.octets.getD m.sentOctets 0], sentOctets := m.sentOctets + 1 }
    if head.octets.length ≤ m.sentOctets + 1 then sent.dropHead else sent

/-- The last octet of the head message has been sent (R168, R169). In UART mode its octets go out; in SPI mode they have
been clocked out one by one, and a head with an octet still to clock out stays [6]. -/
def Mgmt.sendHead (m : Mgmt) : Mgmt :=
  match m.outbox with
  | [] => m
  | head :: _ =>
    if m.spi then (if head.octets.length ≤ m.sentOctets then m.dropHead else m)
    else { m.dropHead with linkOut := m.linkOut ++ head.octets.drop m.sentOctets }

/-- A message joins the tail of the output queue (R175). -/
def pushOut (m : Message) (s : State) : State := s.modMgmt fun x => { x with outbox := x.outbox ++ [m] }

/-! ### Numbers of named values (R184) [14] -/

/-- Number of a pair state, in the order of R38. -/
def PairState.code : PairState → Nat
  | .vacant => 1 | .parked => 2 | .training => 3 | .settling => 4 | .joining => 5 | .active => 6 | .leaving => 7
  | .quarantine => 8 | .faulted => 9

/-- Number of a reason, in the order of R40. -/
def Reason.code : Reason → Nat
  | .notFitted => 1 | .silent => 2 | .host => 3 | .notReleased => 4 | .lineDrop => 5 | .lowRate => 6 | .fault => 7
  | .flapping => 8 | .joinTimeout => 9 | .crossBond => 10 | .peerLeave => 11 | .peerRestart => 12

/-- Number of a guard state: CLEAR, ACTIVE (R191). -/
def GuardState.code : GuardState → Nat
  | .clear => 1 | .active => 2

/-- Number of a line state: IDLE, TRAINING, SHOWTIME (R17). -/
def lineCode : LineState → Nat
  | .idle => 1 | .training => 2 | .showtime => 3

/-- Number of the sync state: UNSYNCED, SYNCED (R192). -/
def syncCode (synced : Bool) : Nat := if synced then 2 else 1

/-- Number of a store level: EMPTY, LOW, HALF, PRESSURE (R192). -/
def StoreLevel.code : StoreLevel → Nat
  | .empty => 1 | .low => 2 | .half => 3 | .pressure => 4

/-- Number of the flush state: IDLE, IN-FLIGHT (R192). -/
def flushCode (flush : Option Seq) : Nat := if flush.isSome then 2 else 1

/-- Number of the LAN link state: UP, DOWN (R192). -/
def linkCode (up : Bool) : Nat := if up then 1 else 2

/-- Number of a running timer: NONE 0, then HOLDOFF, JOIN, LEAVE, PENALTY (R191). -/
def timerCode : Option (StateTimer × Nat) → Nat
  | none => 0
  | some (.holdoff, _) => 1
  | some (.join, _) => 2
  | some (.leave, _) => 3
  | some (.penalty, _) => 4

/-! ### Notices (R188, R189) -/

/-- The snapshot of an instance, read as the notice is built (R189). -/
def snapshot (s : State) : NoticeInst → List Octet
  | .bondState => be1 s.activeCount ++ [s.activeSet, s.liveSet] ++ be1 (syncCode s.rx.synced)
  | .pairState p =>
    be1 (s.pair p).state.code ++ be1 (s.pair p).reason.code ++ beBool (s.pair p).enabled ++ be1 s.activeCount
  | .commandDone p => be1 (s.pair p).state.code ++ be1 (s.pair p).reason.code ++ beBool (s.pair p).enabled
  | .flushDone =>
    be1 (flushCode s.rx.flush) ++ be2 s.rx.nes.toNat ++ be2 s.rx.window.length ++ be1 s.rx.gaps.length
  | .queueFull c => be2 (s.classes[c.val]).frames.length ++ be2 (s.classes[c.val]).limit
  | .storeLevel => be1 s.cells.level.code ++ be2 s.cells.usedIn ++ be2 s.cells.availIn
  | .gapRecorded => be1 s.rx.gaps.length
  | .lanLink => be1 (linkCode s.lan.linkUp)

/-- The lowest pending instance in the order of R185. -/
def lowestPending (s : State) : Option NoticeInst := allInstances.find? fun i => s.occurrences i != 0

/-- The output queue has room for a notice (R188). -/
def State.noticeRoom (s : State) : Bool :=
  s.mgmt.outbox.length < Config.outboxMessages && s.mgmt.outbox.countP Message.isNotice < Config.outboxNotices

/-- The NOTICE of an instance as built now (R188, R189). -/
def noticeOf (i : NoticeInst) (s : State) : Message :=
  { kind := kindNotice, tag := 0,
    body := be1 i.cause ++ be1 i.number ++ be1 (s.occurrences i) ++ snapshot s i }

/-- The lowest pending instance is built into a NOTICE when the three conditions hold (R188). -/
def buildNotice (s : State) : State :=
  match lowestPending s with
  | some i => if s.noticeRoom then (pushOut (noticeOf i s) s).setOccurrences i 0 else s
  | none => s

/-! ### Intake and replies (R173, R174) -/

/-- The status of a reply (R174). -/
inductive Status where
  | ok | okClamped | accepted | refusedBusy | refusedState | refusedRange | refusedUnknown | refusedLength
  deriving DecidableEq, Repr

/-- Number of a status (R184, Reply body). -/
def Status.code : Status → Nat
  | .ok => 0 | .okClamped => 1 | .accepted => 2 | .refusedBusy => 3 | .refusedState => 4 | .refusedRange => 5
  | .refusedUnknown => 6 | .refusedLength => 7

/-- What came of judging and carrying out a request: the state, the status and the result. -/
structure Answer where
  state : State
  status : Status
  result : List Octet
  deriving DecidableEq, Repr

/-- A refused request changes nothing and carries no result (R174). -/
def refuse (why : Status) (s : State) : Answer := { state := s, status := why, result := [] }

/-- A request carried out with OK. -/
def done (result : List Octet) (s : State) : Answer := { state := s, status := .ok, result := result }

/-- A request carried out with OK, or OK-CLAMPED when a number was brought into range. -/
def doneClamped (clamped : Bool) (result : List Octet) (s : State) : Answer :=
  { state := s, status := if clamped then .okClamped else .ok, result := result }

/-- A request that has started a long operation. -/
def accept (s : State) : Answer := { state := s, status := .accepted, result := [] }

/-- The reply to a message (R174, R184). -/
def replyTo (m : Message) (a : Answer) : Message :=
  { kind := kindReply, tag := m.tag, body := [m.kind] ++ be1 a.status.code ++ a.result }

/-- The message leaves the input buffer (R173, part 1). -/
def removeHead (s : State) : State := s.modMgmt fun x => { x with inbox := x.inbox.drop 1 }

/-- A message taken, judged, carried out and answered (R173); one that cannot be taken waits [4]. -/
def intake (m : Message) (judge : State → Answer) (s : State) : State :=
  if takeable m s then
    let a := judge (removeHead s)
    pushOut (replyTo m a) a.state
  else s

/-- The length test comes before every other but the kind's (R174, steps 1 and 2). -/
def withLength (n : Nat) (body : List Octet) (judge : State → Answer) (s : State) : Answer :=
  if body.length = n then judge s else refuse .refusedLength s

end Sys2Proof.Machine
end

