-- ==== Sys2Proof/WellFormed.lean ====
section
/-! DEFINITION. Which commands the interfaces of the PB8 can present: limits on operands that the types leave open. -/

namespace Sys2Proof

/-- The nineteen request kinds of R184, in ascending order. -/
def requestKinds : List Octet :=
  [0x01, 0x02, 0x03, 0x04, 0x10, 0x11, 0x12, 0x13, 0x18, 0x20, 0x21, 0x22, 0x23, 0x28, 0x29, 0x30, 0x31, 0x32, 0x33]

/-- A message body holds at most 246 octets (R184, Management message frame). -/
def bodyFits (body : List Octet) : Bool := body.length ≤ 246

/-- A command the interfaces can present: a body fits its frame; a message taken as unknown has no request kind (R174);
a TAKEN counts at least one octet (R17). -/
def WellFormed : Instr → Bool
  | .reset _ => true
  | .mgmtFrameComplete => true
  | .characterGapTimeout => true
  | .spiTransferEnd => true
  | .messageSent => true
  | .unknownRequest kind _ body => bodyFits body && !requestKinds.contains kind
  | .identify _ body => bodyFits body
  | .configureBond _ body => bodyFits body
  | .release _ body => bodyFits body
  | .resetBond _ body => bodyFits body
  | .configurePair _ body => bodyFits body
  | .enablePair _ body => bodyFits body
  | .disablePair _ body => bodyFits body
  | .probePair _ body => bodyFits body
  | .configureMemory _ body => bodyFits body
  | .writeRule _ body => bodyFits body
  | .readRule _ body => bodyFits body
  | .tryClassify _ body => bodyFits body
  | .configureClass _ body => bodyFits body
  | .flushReorder _ body => bodyFits body
  | .readGaps _ body => bodyFits body
  | .setNotices _ body => bodyFits body
  | .readPair _ body => bodyFits body
  | .readBond _ body => bodyFits body
  | .readCounters _ body => bodyFits body
  | .noticeBuild => true
  | .report _ _ _ _ _ _ => true
  | .taken _ octets => octets != 0
  | .fragmentReceived _ _ => true
  | .portUnknownMessage _ _ => true
  | .silenceTimerExpiry _ => true
  | .lineGuardChange _ _ => true
  | .guardAssertTimerExpiry _ => true
  | .guardClearTimerExpiry _ => true
  | .holdoffTimerExpiry _ => true
  | .joinTimerExpiry _ => true
  | .joinRepeatTimerExpiry _ => true
  | .leaveTimerExpiry _ => true
  | .penaltyTimerExpiry _ => true
  | .progressTimerExpiry _ => true
  | .gapTimerExpiry => true
  | .lanFrameReceived _ _ => true
  | .lanFrameSent => true
  | .lanLinkChange _ => true
  | .mgmtOctetReceived _ _ => true

end Sys2Proof
end

