-- ==== Sys2Proof/Machine/BondRequests.lean ====
section
/-! DEFINITION. Meanings: requests that belong to the part as a whole (9.4 to 9.6, chapter 10, R81, R157, R160). -/

namespace Sys2Proof.Machine

/-! ### UNKNOWN_REQUEST, IDENTIFY -/

/-- UNKNOWN_REQUEST (R174, step 1). A kind that is a request kind is not this command's. -/
def execUnknownRequest (kind tag : Octet) (body : List Octet) (s : State) : Host.Outcome State Fault Refusal :=
  .next (if requestKinds.contains kind then s
    else intake { kind := kind, tag := tag, body := body } (refuse .refusedUnknown) s)

/-- The result of IDENTIFY (R176, R184). -/
def identity (s : State) : List Octet :=
  be1 0x49 ++ be2 0x0B08 ++ be1 0x41 ++ be1 s.mgmt.fitted ++ beBool s.mgmt.spi ++ beBool s.mgmt.autostart
    ++ beBool s.mgmt.released

/-- IDENTIFY (R176). -/
def execIdentify (tag : Octet) (body : List Octet) (s : State) : Host.Outcome State Fault Refusal :=
  .next (intake { kind := 0x01, tag := tag, body := body } (withLength 0 body fun s => done (identity s) s) s)

/-! ### CONFIGURE-BOND (R177, R178) -/

/-- A field of CONFIGURE-BOND: place and width in the body, and range (R177, R184). -/
structure SettingRow where
  offset : Nat
  width : Nat
  low : Nat
  high : Nat
  deriving DecidableEq, Repr

/-- The twelve fields in the order of the selection bits (R177, R184). -/
def settingRows : List SettingRow :=
  [⟨2, 2, 64, 512⟩, ⟨4, 1, 0, 3⟩, ⟨5, 1, 1, 50⟩, ⟨6, 2, 500, 30000⟩, ⟨8, 1, 1, 60⟩, ⟨9, 2, 500, 10000⟩,
   ⟨11, 2, 10, 600⟩, ⟨13, 2, 10, 3600⟩, ⟨15, 1, 2, 8⟩, ⟨16, 1, 1, 50⟩, ⟨17, 2, 1, 65535⟩, ⟨19, 1, 0, 255⟩]

/-- The twelve settings as they stand, in that order. -/
def State.settings (s : State) : List Nat :=
  [s.cfg.pMax, s.cfg.defaultClass.val, s.cfg.margin, s.cfg.holdoff, s.cfg.joinTimeout, s.cfg.leaveTimeout,
   s.cfg.penalty, s.cfg.flapWindow, s.cfg.flapThreshold, s.cfg.progressInterval, s.mgmt.bondId.toNat,
   s.mgmt.epoch.toNat]

/-- The settings as octets 2 to 19 of the layout (R184). -/
def settingOctets : List Nat → List Octet
  | [a, b, c, d, e, f, g, h, i, j, k, l] =>
    be2 a ++ be1 b ++ be1 c ++ be2 d ++ be1 e ++ be2 f ++ be2 g ++ be2 h ++ be1 i ++ be1 j ++ be2 k ++ be1 l
  | _ => []

/-- The settings taken into the state (R177, step 5). -/
def applySettings (l : List Nat) (s : State) : State :=
  match l with
  | [a, b, c, d, e, f, g, h, i, j, k, m] =>
    { s with
      cfg := { pMax := a, defaultClass := Fin.ofNat 4 b, margin := c, holdoff := d, joinTimeout := e, leaveTimeout := f,
               penalty := g, flapWindow := h, flapThreshold := i, progressInterval := j },
      mgmt := { s.mgmt with bondId := BitVec.ofNat 16 k, epoch := BitVec.ofNat 8 m } }
  | _ => s

/-- The value a row of the body carries. -/
def SettingRow.value (r : SettingRow) (body : List Octet) : Nat := field body r.offset r.width

/-- The settings asked for: a selected one brought into range, the others kept (R177, step 3). -/
def askedSettings (body : List Octet) (s : State) : List Nat :=
  (List.range 12).zipWith (fun i (r, old) =>
    if (field body 0 2).testBit i then clamp r.low r.high (r.value body) else old) (settingRows.zip s.settings)

/-- A selected value lies outside its range (R177, step 3). -/
def settingClamped (body : List Octet) : Bool :=
  ((List.range 12).zip settingRows).any fun (i, r) =>
    (field body 0 2).testBit i && clamp r.low r.high (r.value body) != r.value body

/-- The settings asked for change the bond's identity (R177, step 4). -/
def changesIdentity (asked : List Nat) (s : State) : Bool := asked.drop 10 != s.settings.drop 10

/-- CONFIGURE-BOND judged and carried out (R177, R178). -/
def judgeConfigureBond (body : List Octet) (s : State) : Answer :=
  if 4096 ≤ field body 0 2 then refuse .refusedRange s
  else if (field body 0 2).testBit 1 && decide (3 < field body 4 1) then refuse .refusedRange s
  else if s.mgmt.released && changesIdentity (askedSettings body s) s then refuse .refusedState s
  else
    let s' := recomputeT (applySettings (askedSettings body s) s)
    doneClamped (settingClamped body) (settingOctets s'.settings) s'

/-- CONFIGURE-BOND (R177, R178). -/
def execConfigureBond (tag : Octet) (body : List Octet) (s : State) : Host.Outcome State Fault Refusal :=
  .next (intake { kind := 0x02, tag := tag, body := body } (withLength 20 body (judgeConfigureBond body)) s)

/-! ### RELEASE (R179) -/

/-- The start test of one PARKED pair at a RELEASE (R41). -/
def releasePair (p : PairNo) (s : State) : State := if (s.pair p).state = .parked then startParked p s else s

/-- RELEASE judged and carried out (R179). -/
def judgeRelease (s : State) : Answer :=
  if s.mgmt.released then refuse .refusedState s
  else done [] (forPairs releasePair (s.modMgmt fun m => { m with released := true }))

/-- RELEASE (R179). -/
def execRelease (tag : Octet) (body : List Octet) (s : State) : Host.Outcome State Fault Refusal :=
  .next (intake { kind := 0x03, tag := tag, body := body } (withLength 0 body judgeRelease) s)

/-! ### RESET-BOND (R182 and the rules its table names) -/

/-- A line queue cleared without loss counts (R35). That the room it gives is not used by the Pair Controller before the
pair is moved is the model's choice [35]. -/
def clearQueue (p : PairNo) (s : State) : State := s.modPort p fun x => { x with queue := [], takenFromHead := 0 }

/-- The LAN transmit queue emptied; a frame being transmitted is cut short (R165, R164) [18]. That the frames return their
cells oldest first is the model's choice [10]. -/
def clearLanQueue (s : State) : State :=
  let cut := match s.lan.txQueue with
    | f :: _ => if s.lan.linkUp then [MiiEvent.cutShort f.octets] else []
    | [] => []
  s.lan.txQueue.foldl (fun s f => returnCells .inbound f.cells s)
    { s with lan := { s.lan with txQueue := [], mii := s.lan.mii ++ cut } }

/-- The partial frame discarded, not counted (R165). -/
def clearAsm (s : State) : State :=
  match s.asm with
  | .collecting _ cells => returnCells .inbound cells (s.setAsm .idle)
  | _ => s.setAsm .idle

/-- The inbound side gives up its cells (R82, R145, R165). -/
def emptyInbound (s : State) : State := clearLanQueue (clearAsm (dropStore none s.rx.window.length s))

/-- Both sides give up their cells, in either order (R82) [10]. -/
def emptyBoth (s : State) : State :=
  let (inboundFirst, s1) := if s.cells.usedOut ≠ 0 && s.cells.usedIn ≠ 0 then s.race else (false, s)
  if inboundFirst then emptyOutbound (emptyInbound s1) else emptyInbound (emptyOutbound s1)

/-- A fitted pair that is not VACANT at RESET-BOND (R70). -/
def resetPair (p : PairNo) (s : State) : State :=
  if s.isFitted p && (s.pair p).state != .vacant then
    let s1 := hostDone p (park p s)
    if (s1.port p).guard = .active then enter p .faulted .fault s1 else s1
  else s

/-- What every pair's record loses at RESET-BOND (R70). -/
def clearPair (p : PairNo) (s : State) : State :=
  s.modPair p fun r =>
    { r with flaps := [], stateTimer := none, joinRepeat := none, progressTimer := none, waitAck := none,
             waitJoin := false, waitLeave := none, outRef := none, renewal := false }

/-- RESET-BOND carried out at every block (R182). -/
def resetBondAll (s : State) : State :=
  let s1 := emptyBoth (forPairs clearQueue s)
  let s2 := (rxResetBond s1).modDisp fun d => { d with next := 0 }
  let s3 := s2.modMgmt fun m => { m with released := false, epoch := m.epoch + 1 }
  drainTells (forPairs clearPair (forPairs resetPair s3))

/-- RESET-BOND (R182). -/
def execResetBond (tag : Octet) (body : List Octet) (s : State) : Host.Outcome State Fault Refusal :=
  .next (intake { kind := 0x04, tag := tag, body := body } (withLength 0 body fun s => done [] (resetBondAll s)) s)

/-! ### CONFIGURE-MEMORY (R81) -/

/-- CONFIGURE-MEMORY judged and carried out (R81). -/
def judgeConfigureMemory (body : List Octet) (s : State) : Answer :=
  let rOut := field body 0 2
  let rIn := field body 2 2
  if rOut < 12 || rIn < 12 || decide (Config.poolCells < rOut + rIn) then refuse .refusedRange s
  else if s.mgmt.released || s.cells.usedOut != 0 || s.cells.usedIn != 0 then refuse .refusedState s
  else done [] (drainTells (evaluate { s with cells := { s.cells with rOut := rOut, rIn := rIn } }))

/-- CONFIGURE-MEMORY (R81). -/
def execConfigureMemory (tag : Octet) (body : List Octet) (s : State) : Host.Outcome State Fault Refusal :=
  .next (intake { kind := 0x18, tag := tag, body := body } (withLength 4 body (judgeConfigureMemory body)) s)

/-! ### FLUSH-REORDER (R157), READ-GAPS (R160) -/

/-- FLUSH-REORDER judged and carried out (R157). -/
def judgeFlushReorder (s : State) : Answer :=
  match s.rx.flush, highestStored s.rx.nes s.rx.window with
  | some _, _ => refuse .refusedBusy s
  | none, none => done [] s
  | none, some r => accept (rxFlush r.seq s)

/-- FLUSH-REORDER (R157). -/
def execFlushReorder (tag : Octet) (body : List Octet) (s : State) : Host.Outcome State Fault Refusal :=
  .next (intake { kind := 0x28, tag := tag, body := body } (withLength 0 body judgeFlushReorder) s)

/-- Number of a cause of loss (R184, READ-GAPS result). -/
def LossCause.code : LossCause → Nat
  | .overtaken => 1 | .timeout => 2 | .pressure => 3 | .window => 4 | .flush => 5 | .peerRestart => 6

/-- A gap record as ten octets (R184). -/
def GapRecord.octets (g : GapRecord) : List Octet :=
  be2 g.first.toNat ++ be2 g.count ++ be1 g.cause.code ++ [g.live] ++ be4 g.time

/-- READ-GAPS carried out (R160). -/
def judgeReadGaps (s : State) : Answer :=
  let taken := s.rx.gaps.take 8
  let left := s.rx.gaps.drop 8
  done (be1 left.length ++ be1 taken.length ++ taken.flatMap GapRecord.octets)
    (s.modRx fun x => { x with gaps := left })

/-- READ-GAPS (R160). -/
def execReadGaps (tag : Octet) (body : List Octet) (s : State) : Host.Outcome State Fault Refusal :=
  .next (intake { kind := 0x29, tag := tag, body := body } (withLength 0 body judgeReadGaps) s)

/-! ### SET-NOTICES (R186), READ-BOND (R192), READ-COUNTERS (R190) -/

/-- SET-NOTICES judged and carried out (R186). -/
def judgeSetNotices (body : List Octet) (s : State) : Answer :=
  let mask := field body 0 1
  if 128 ≤ mask then refuse .refusedRange s
  else done (be1 mask) (s.modMgmt fun m => { m with mask := BitVec.ofNat 7 mask })

/-- SET-NOTICES (R186). -/
def execSetNotices (tag : Octet) (body : List Octet) (s : State) : Host.Outcome State Fault Refusal :=
  .next (intake { kind := 0x30, tag := tag, body := body } (withLength 1 body (judgeSetNotices body)) s)

/-- The bond status record (R192) [14]. -/
def bondRecord (s : State) : List Octet :=
  beBool s.mgmt.released ++ [s.mgmt.epoch, s.rx.peerEpoch] ++ be1 (syncCode s.rx.synced) ++ be2 s.disp.next.toNat
    ++ be2 s.rx.nes.toNat ++ [s.activeSet, s.liveSet] ++ be2 s.cells.usedOut ++ be2 s.cells.usedIn
    ++ be2 s.cells.availIn ++ be1 s.cells.level.code ++ be2 s.rx.window.length
    ++ be1 (if s.rx.gapTimer.isSome then 2 else 1)
    ++ be1 (match s.rx.gapTimer with | some d => s.remaining d | none => 0)
    ++ be1 s.rx.tReorder ++ be1 (flushCode s.rx.flush) ++ be1 (if s.rx.paused then 2 else 1)
    ++ be1 s.rx.gaps.length ++ be1 (linkCode s.lan.linkUp)

/-- READ-BOND (R192). -/
def execReadBond (tag : Octet) (body : List Octet) (s : State) : Host.Outcome State Fault Refusal :=
  .next (intake { kind := 0x32, tag := tag, body := body } (withLength 0 body fun s => done (bondRecord s) s) s)

/-- The counters of a group as 4-octet values (R190). -/
def counterOctets (l : List Nat) : List Octet := l.flatMap be4

/-- READ-COUNTERS judged and carried out (R190). -/
def judgeReadCounters (body : List Octet) (s : State) : Answer :=
  let group := field body 0 1
  let clear := field body 1 1
  if 1 < clear then refuse .refusedRange s
  else if group = 0x10 then
    done (be1 group ++ counterOctets s.counters.toList)
      (if clear = 1 then { s with counters := Vector.replicate 44 0 } else s)
  else match pairOf group with
    | some p =>
      done (be1 group ++ counterOctets (s.pair p).counters.toList)
        (if clear = 1 then s.modPair p fun r => { r with counters := Vector.replicate 12 0 } else s)
    | none => refuse .refusedRange s

/-- READ-COUNTERS (R190). -/
def execReadCounters (tag : Octet) (body : List Octet) (s : State) : Host.Outcome State Fault Refusal :=
  .next (intake { kind := 0x33, tag := tag, body := body } (withLength 2 body (judgeReadCounters body)) s)

end Sys2Proof.Machine
end

