-- ==== Sys2Proof/Machine/LanEvents.lean ====
section
/-! DEFINITION. Meanings: frames received from and sent to the LAN, and the LAN link (5.1, 5.4, 8.8). -/

namespace Sys2Proof.Machine

/-! ### LAN_FRAME_RECEIVED (R84, R96, R100) -/

/-- The FCS of a run agrees with the octets before it (R84). -/
def fcsAgrees (run : List Octet) : Bool := fcsOctets (run.take (run.length - 4)) == run.drop (run.length - 4)

/-- An admitted frame is handed to the standing request, or joins the tail of its queue (R96, R100). Where its cells
have brought a pressure event, the Reorder Engine takes that before or after the dispatcher acts (R75) [8]. -/
def admitted (c : Fin 4) (f : OutFrame) (s : State) : State :=
  if s.disp.standing then
    let (dispatcherFirst, s1) := if s.cells.tells.isEmpty then (true, s) else s.race
    dispatch (beginSplit f (if dispatcherFirst then s1 else drainTells s1))
  else drainTells (fillCls c { s.cls c with frames := (s.cls c).frames ++ [f] } s)

/-- A classified frame is offered for admission to its queue (R96). -/
def admitFrame (c : Fin 4) (octets : List Octet) (s : State) : State :=
  let n := cellsFor octets.length
  if s.activeCount = 0 then s.count .noPath
  else if (s.cls c).full then s.count (.queueFull c)
  else match requestCells .outbound n s with
    | some s' =>
      admitted c { octets := octets, cells := n, admitted := s.now, order := s.nextOrder }
        { s' with nextOrder := s.nextOrder + 1 }
    | none => s.count .outboundNoCells

/-- A frame without its FCS is classified and offered for admission (R90, R96). -/
def ingress (octets : List Octet) (s : State) : State :=
  match classify (headerOf octets) s with
  | (s', some c) => admitFrame c octets s'
  | (s', none) => s'

/-- LAN_FRAME_RECEIVED (R84). -/
def execLanFrameReceived (run : List Octet) (rxError : Bool) (s : State) : Host.Outcome State Fault Refusal :=
  let s1 := s.count .lanFramesReceived
  .next (if 1522 < run.length then s1.count .oversize
    else if run.length < 64 then s1.count .runt
    else if rxError || !fcsAgrees run then s1.count .badFcs
    else ingress (run.take (run.length - 4)) s1)

/-! ### LAN_FRAME_SENT (R163), LAN_LINK_CHANGE (R164) -/

/-- The Reorder Engine is told that the transmit side has given room, and of a pressure event that the cells returned
have brought, in either order (R163, R164) [34]. -/
def lanFreed (s : State) : State :=
  let (roomFirst, s1) := if s.cells.tells.isEmpty then (true, s) else s.race
  rxLanFreed (if roomFirst then s1 else drainTells s1)

/-- LAN_FRAME_SENT (R163). -/
def execLanFrameSent (s : State) : Host.Outcome State Fault Refusal :=
  .next (match s.lan.linkUp, s.lan.txQueue with
    | true, f :: rest =>
      let lan := { s.lan with txQueue := rest, mii := s.lan.mii ++ [.frame (f.octets ++ fcsOctets f.octets)] }
      lanFreed ((returnCells .inbound f.cells { s with lan := lan }).count .lanFramesSent)
    | _, _ => s)

/-- A frame of the transmit queue is lost to the link (R164). -/
def loseFrame (s : State) (f : LanFrame) : State := returnCells .inbound f.cells (s.count .lanDown)

/-- The transmit side as the link goes down (R164) [18]. That the frames return their cells oldest first is the model's
choice [10]. -/
def linkDown (s : State) : State :=
  let cut := match s.lan.txQueue with
    | f :: _ => [MiiEvent.cutShort f.octets]
    | [] => []
  lanFreed (s.lan.txQueue.foldl loseFrame { s with lan := { s.lan with txQueue := [], mii := s.lan.mii ++ cut } })

/-- LAN_LINK_CHANGE (R164). -/
def execLanLinkChange (up : Bool) (s : State) : Host.Outcome State Fault Refusal :=
  .next (if s.lan.linkUp = up then { s with lan := { s.lan with linkPin := up } }
    else
      let s' := ({ s with lan := { s.lan with linkPin := up, linkUp := up } }).raise .lanLink
      if up then s' else linkDown s')

end Sys2Proof.Machine
end

