-- ==== Sys2Proof/Machine/Management.lean ====
section
/-! DEFINITION. Meanings: RESET and the commands of the management link's two sides (chapters 9 and 10). -/

namespace Sys2Proof.Machine

/-- The input pins as they stand are sampled from the release of RESET_N: an asserted LINE_GUARD starts its assert
timer (R36) [16]. -/
def sampleGuard (old : State) (p : PairNo) (s : State) : State :=
  s.modPort p fun x =>
    { x with guardPin := (old.port p).guardPin,
             debounce := if s.isFitted p && (old.port p).guardPin then some (s.now + Config.guardAssertMs) else none }

/-- A PHY link that is up at reset reads UP as soon as it is sampled, and the change raises LAN-LINK (R164) [16]. -/
def sampleLink (old s : State) : State :=
  if old.lan.linkPin then ({ s with lan := { s.lan with linkPin := true, linkUp := true } }).raise .lanLink else s

/-- RESET (R181): every item at its after-reset value, the straps sampled, the pins as they stand. The commands that
wait, and the count of free values used, are the model's own and stay. -/
def execReset (straps : Straps) (s : State) : Host.Outcome State Fault Refusal :=
  .next (sampleLink s
    (forPairs (sampleGuard s) { State.resetWith straps with pending := s.pending, freeCount := s.freeCount }))

/-- MGMT_FRAME_COMPLETE (R170). -/
def execMgmtFrameComplete (s : State) : Host.Outcome State Fault Refusal := .next (testFrame s)

/-- CHARACTER_GAP_TIMEOUT (R171), in UART mode. -/
def execCharacterGapTimeout (s : State) : Host.Outcome State Fault Refusal :=
  .next (if s.mgmt.spi then s else abandonFrame s)

/-- SPI_TRANSFER_END (R171), in SPI mode. -/
def execSpiTransferEnd (s : State) : Host.Outcome State Fault Refusal :=
  .next (if s.mgmt.spi then abandonFrame s else s)

/-- MESSAGE_SENT (R168, R169). -/
def execMessageSent (s : State) : Host.Outcome State Fault Refusal := .next (s.modMgmt Mgmt.sendHead)

/-- NOTICE_BUILD (R188). -/
def execNoticeBuild (s : State) : Host.Outcome State Fault Refusal := .next (buildNotice s)

/-- MGMT_OCTET_RECEIVED (R168 to R171): in UART mode a character with a bad stop bit abandons the frame; in SPI mode an
octet goes out as one comes in. A complete frame is tested before the octet is taken [5]. -/
def execMgmtOctetReceived (octet : Octet) (stopBit : Bool) (s : State) : Host.Outcome State Fault Refusal :=
  .next (if s.mgmt.spi then feed octet ((testFrame s).modMgmt Mgmt.clockOut)
    else if stopBit then feed octet (testFrame s) else abandonFrame s)

end Sys2Proof.Machine
end

