-- ==== Sys2Proof/Machine/PairRequests.lean ====
section
/-! DEFINITION. Meanings: the four pair requests (3.9) and READ-PAIR (R191). -/

namespace Sys2Proof.Machine

/-- A request that changes a pair is judged on its number, then on the fitted count (3.9). -/
def withPair (body : List Octet) (judge : PairNo → State → Answer) (s : State) : Answer :=
  match pairOf (field body 0 1) with
  | none => refuse .refusedRange s
  | some p => if s.isFitted p then judge p s else refuse .refusedState s

/-! ### CONFIGURE-PAIR (R68) -/

/-- CONFIGURE-PAIR for a fitted pair (R68). -/
def judgeConfigurePair (body : List Octet) (p : PairNo) (s : State) : Answer :=
  let asked := field body 1 1
  let derate := clamp 50 100 asked
  doneClamped (derate != asked) [] (redecide (rateTest p (s.modPair p fun r => { r with derate := derate })))

/-- CONFIGURE-PAIR (R68). -/
def execConfigurePair (tag : Octet) (body : List Octet) (s : State) : Host.Outcome State Fault Refusal :=
  .next (intake { kind := 0x10, tag := tag, body := body } (withLength 2 body (withPair body (judgeConfigurePair body))) s)

/-! ### ENABLE-PAIR (R66) -/

/-- ENABLE-PAIR for a fitted pair (R66). -/
def judgeEnablePair (p : PairNo) (s : State) : Answer :=
  let r := s.pair p
  if r.state = .leaving ∧ r.reason = .host then refuse .refusedBusy s
  else
    let s' := s.modPair p fun r => { r with enabled := true }
    done [] (if r.state = .parked then startParked p s' else s')

/-- ENABLE-PAIR (R66). -/
def execEnablePair (tag : Octet) (body : List Octet) (s : State) : Host.Outcome State Fault Refusal :=
  .next (intake { kind := 0x11, tag := tag, body := body } (withLength 1 body (withPair body judgeEnablePair)) s)

/-! ### DISABLE-PAIR (R67) -/

/-- DISABLE-PAIR for a fitted pair (R67). -/
def disable (abort : Bool) (p : PairNo) (s : State) : Answer :=
  let r := s.pair p
  let s' := s.modPair p fun r => { r with enabled := false }
  match r.state with
  | .vacant | .faulted => done [] s'
  | .parked => done [] (setReason p .host s')
  | .training | .settling | .joining | .quarantine => done [] (redecide (park p s'))
  | .active => accept (redecide (if abort then abortLeave p s else gracefulLeave p .host s))
  | .leaving =>
    if r.reason = .host then
      if abort ∧ r.leaveForm = .graceful then accept (redecide (upgradeLeave p s)) else refuse .refusedBusy s
    else if abort then accept (redecide (upgradeLeave p s))
    else accept (setReason p .host (hostCause p s))

/-- DISABLE-PAIR judged (R67). -/
def judgeDisablePair (body : List Octet) (s : State) : Answer :=
  match pairOf (field body 0 1), modeOf (field body 1 1) with
  | some p, some abort => if s.isFitted p then disable abort p s else refuse .refusedState s
  | _, _ => refuse .refusedRange s

/-- DISABLE-PAIR (R67). -/
def execDisablePair (tag : Octet) (body : List Octet) (s : State) : Host.Outcome State Fault Refusal :=
  .next (intake { kind := 0x12, tag := tag, body := body } (withLength 2 body (judgeDisablePair body)) s)

/-! ### PROBE-PAIR (R69) -/

/-- The verdicts of PROBE-PAIR (R69), in the order R184 numbers them. -/
inductive Verdict where
  | wouldTrain | wouldWaitRelease | already | notFitted | vacant | quarantined | faulted | wouldLeave | wouldPark | busy
  deriving DecidableEq, Repr

/-- Number of a verdict (R184). -/
def Verdict.code : Verdict → Nat
  | .wouldTrain => 1 | .wouldWaitRelease => 2 | .already => 3 | .notFitted => 4 | .vacant => 5 | .quarantined => 6
  | .faulted => 7 | .wouldLeave => 8 | .wouldPark => 9 | .busy => 10

/-- The enable verdict (R69). -/
def enableVerdict (s : State) (p : PairNo) : Verdict :=
  let r := s.pair p
  if !s.isFitted p then .notFitted
  else match r.state with
    | .vacant => .vacant
    | .parked => if s.mgmt.released then .wouldTrain else if r.enabled then .already else .wouldWaitRelease
    | .training | .settling | .joining | .active => .already
    | .leaving => if r.reason = .host then .busy else .already
    | .quarantine => .quarantined
    | .faulted => .faulted

/-- The disable verdict in a mode (R69). -/
def disableVerdict (s : State) (p : PairNo) (abort : Bool) : Verdict :=
  let r := s.pair p
  if !s.isFitted p then .notFitted
  else match r.state with
    | .vacant => .vacant
    | .parked => if r.enabled then .wouldPark else .already
    | .training | .settling | .joining | .quarantine => .wouldPark
    | .active => .wouldLeave
    | .leaving =>
      if r.reason = .host then (if abort ∧ r.leaveForm = .graceful then .wouldLeave else .busy) else .wouldLeave
    | .faulted => .faulted

/-- The milliseconds left on a running state timer; 0 when none runs (R194). -/
def State.timeLeft (s : State) (p : PairNo) : Nat :=
  match (s.pair p).stateTimer with
  | some (_, d) => s.remaining d
  | none => 0

/-- The seconds remaining that PROBE-PAIR returns, rounded up (R69). That the field is 0 outside QUARANTINE is the
model's choice [31]. -/
def penaltySeconds (s : State) (p : PairNo) : Nat :=
  if (s.pair p).state = .quarantine then ceilDiv (s.timeLeft p) 1000 else 0

/-- PROBE-PAIR judged and answered (R69). -/
def judgeProbePair (body : List Octet) (s : State) : Answer :=
  match pairOf (field body 0 1), modeOf (field body 1 1) with
  | some p, some abort =>
    done (be1 (enableVerdict s p).code ++ be1 (disableVerdict s p abort).code ++ be2 (penaltySeconds s p)) s
  | _, _ => refuse .refusedRange s

/-- PROBE-PAIR (R69). -/
def execProbePair (tag : Octet) (body : List Octet) (s : State) : Host.Outcome State Fault Refusal :=
  .next (intake { kind := 0x13, tag := tag, body := body } (withLength 2 body (judgeProbePair body)) s)

/-! ### READ-PAIR (R191) -/

/-- The pair status record (R191) [14]. -/
def pairRecord (s : State) (p : PairNo) : List Octet :=
  let r := s.pair p
  let x := s.port p
  be1 p.val ++ be1 r.state.code ++ be1 r.reason.code ++ beBool r.enabled ++ beBool x.present ++ be1 x.guard.code
    ++ be1 (lineCode x.report.line) ++ be2 x.report.upRate ++ be2 x.report.downRate ++ be1 x.report.upDelay
    ++ be1 x.report.downDelay ++ be1 r.derate ++ be2 (s.effUp p) ++ be1 x.queue.length ++ be1 x.handedCount
    ++ be2 x.backlog ++ be1 r.flaps.length ++ be1 (timerCode r.stateTimer) ++ be4 (s.timeLeft p)
    ++ beBool r.outboundJoined ++ beBool (s.isLive p) ++ be2 ((s.mark p).getD 0).toNat

/-- READ-PAIR judged and answered (R191). -/
def judgeReadPair (body : List Octet) (s : State) : Answer :=
  match pairOf (field body 0 1) with
  | some p => done (pairRecord s p) s
  | none => refuse .refusedRange s

/-- READ-PAIR (R191). -/
def execReadPair (tag : Octet) (body : List Octet) (s : State) : Host.Outcome State Fault Refusal :=
  .next (intake { kind := 0x31, tag := tag, body := body } (withLength 1 body (judgeReadPair body)) s)

end Sys2Proof.Machine
end

