-- ==== Sys2Proof/Machine/PortEvents.lean ====
section
/-! DEFINITION. Meanings: port messages, guard pins and the timers of ports and pairs (chapters 2 and 3). -/

namespace Sys2Proof.Machine

/-! ### REPORT (R20, R21) -/

/-- The first accepted REPORT of an absent transceiver (R21, R19, R42) [21]; like every accepted REPORT it is a
re-decision event (R118). -/
def firstReport (p : PairNo) (r : Report) (s : State) : State :=
  redecide (becamePresent p (sendOrder p (keepReport p r (s.modPort p fun x => { x with present := true }))))

/-- An accepted REPORT of a present transceiver: kept, the order sent again if it disagrees, then passed to the Pair
Controller, the dispatcher and the Reorder Engine (R19, R20) [20]. That a fragment which the cleared residue lets be handed
over goes out before the repeated order is the model's choice [30]. Where it drops a live pair, the Reorder Engine may take it
before the Pair Controller [9]. -/
def laterReport (p : PairNo) (r : Report) (s : State) : State :=
  let s1 := keepReport p r s
  let s2 := if disagrees (s1.port p).order r.line then sendOrder p s1 else s1
  let (receiverFirst, s3) := if s2.isLive p && r.line != .showtime then s2.race else (false, s2)
  if receiverFirst then redecide (pairReport p r.line (rxReport p s3))
  else rxReport p (redecide (pairReport p r.line s3))

/-- REPORT (R20). An unfitted port ignores it (R23). -/
def execReport (p : PairNo) (line : LineState) (upRate downRate : BitVec 16) (upDelay downDelay : BitVec 8) (s : State) :
    Host.Outcome State Fault Refusal :=
  let r := clampReport line upRate.toNat downRate.toNat upDelay.toNat downDelay.toNat
  .next (if s.isFitted p then (if (s.port p).present then laterReport p r s else firstReport p r s) else s)

/-! ### TAKEN (R28 to R30) -/

/-- The Pair Controller is told each retirement; a LEAVE is acted on (R30, part 1). -/
def tellRetired (p : PairNo) (retired : List Fragment) (s : State) : State :=
  retired.foldl (fun s f => match f with | .leave _ => leaveRetired p s | _ => s) s

/-- The room report of R30, part 2, taken by the dispatcher and the Pair Controller, in either order where both want
the room (R48, R118) [8]. -/
def roomReport (p : PairNo) (s : State) : State :=
  let (dispatcherFirst, s1) := if s.disp.held && s.wantsRoom p then s.race else (false, s)
  if dispatcherFirst then redecide (pairRoom p (redecide s1)) else redecide (pairRoom p s1)

/-- A TAKEN report of `n` octets applied, and what R30 tells after it. -/
def takeTaken (p : PairNo) (n : Nat) (s : State) : State :=
  let before := (s.port p).backlog
  let (s1, retired) := applyTaken p n s
  let lowered := (s1.port p).backlog < before
  let s2 := tellRetired p retired s1
  let s3 := if !retired.isEmpty || lowered then roomReport p s2 else s2
  let s4 := if retired.isEmpty then s3 else startProgress p s3
  handover p s4

/-- TAKEN (R28). One that counts no octet is discarded (R17). -/
def execTaken (p : PairNo) (octets : BitVec 16) (s : State) : Host.Outcome State Fault Refusal :=
  .next (if s.listening p && octets != 0 then takeTaken p octets.toNat s else s)

/-! ### FRAGMENT (R13 to R15) -/

/-- A fragment that has passed the checks is passed on by kind (R15). -/
def route (p : PairNo) (f : Fragment) (s : State) : State :=
  match f with
  | .data start fin seq payload => rxData p start fin seq payload s
  | .join m bondId echo e => takeJoin p echo m bondId e s
  | .joinAck bondId _ result => takeJoinAck p bondId result s
  | .leave _ => takeLeave p s
  | .progress m => rxProgress p m s

/-- A FRAGMENT message counted, checked and routed (R13). -/
def receive (p : PairNo) (octets : List Octet) (s : State) : State :=
  let s1 := s.countPair p .fragmentsReceived
  match checkFragment p octets with
  | .malformed => s1.countPair p .malformed
  | .badCheck => s1.countPair p .badCheck
  | .good f => redecide (route p f s1)

/-- FRAGMENT_RECEIVED (R13). -/
def execFragmentReceived (p : PairNo) (octets : List Octet) (s : State) : Host.Outcome State Fault Refusal :=
  .next (if s.listening p then receive p octets s else s)

/-- PORT_UNKNOWN_MESSAGE (R17): discarded, not counted, without any effect. -/
def execPortUnknownMessage (_p : PairNo) (_octets : List Octet) (s : State) : Host.Outcome State Fault Refusal := .next s

/-! ### Silence (R21) and the line guard (R36) -/

/-- SILENCE_TIMER_EXPIRY (R21, R43). R30 has room told after the emptying; that the Pair Controller places no waiting
fragment and no pending renewal on it before absence reaches it is the model's choice [35]. -/
def execSilenceTimerExpiry (p : PairNo) (s : State) : Host.Outcome State Fault Refusal :=
  .next (match (s.port p).silence with
    | some d =>
      let s1 := (s.reach d).modPort p fun x => { x with present := false, silence := none, report := Report.none }
      let s2 := (emptyQueue p s1).modPort p fun x => { x with residue := [] }
      redecide (becameAbsent p s2)
    | none => s)

/-- The debounce timer after a pin level (R36). -/
def Port.debounced (x : Port) (now : Nat) (asserted : Bool) : Option Nat :=
  match x.guard, asserted with
  | .clear, true => x.debounce.orElse fun _ => some (now + Config.guardAssertMs)
  | .clear, false => none
  | .active, true => none
  | .active, false => x.debounce.orElse fun _ => some (now + Config.guardClearMs)

/-- LINE_GUARD_CHANGE (R36). The pin of an unfitted pair is not sampled (R23). -/
def execLineGuardChange (p : PairNo) (asserted : Bool) (s : State) : Host.Outcome State Fault Refusal :=
  .next (s.modPort p fun x =>
    { x with guardPin := asserted, debounce := if s.isFitted p then x.debounced s.now asserted else x.debounce })

/-- The guard state changed by an expiry of the debounce timer (R36). -/
def setGuard (p : PairNo) (g : GuardState) (s : State) : State :=
  s.modPort p fun x => { x with guard := g, debounce := none }

/-- GUARD_ASSERT_TIMER_EXPIRY (R36, R64). -/
def execGuardAssertTimerExpiry (p : PairNo) (s : State) : Host.Outcome State Fault Refusal :=
  .next (match (s.port p).guard, (s.port p).debounce with
    | .clear, some d => redecide (guardActive p (setGuard p .active (s.reach d)))
    | _, _ => s)

/-- GUARD_CLEAR_TIMER_EXPIRY (R36, R64). -/
def execGuardClearTimerExpiry (p : PairNo) (s : State) : Host.Outcome State Fault Refusal :=
  .next (match (s.port p).guard, (s.port p).debounce with
    | .active, some d => redecide (guardClear p (setGuard p .clear (s.reach d)))
    | _, _ => s)

/-! ### Pair timers -/

/-- HOLDOFF_TIMER_EXPIRY (R45) [23]. -/
def execHoldoffTimerExpiry (p : PairNo) (s : State) : Host.Outcome State Fault Refusal :=
  .next (match (s.pair p).stateTimer with
    | some (.holdoff, d) =>
      redecide (settlingRateTest p ((s.reach d).modPair p fun r => { r with stateTimer := none }))
    | _ => s)

/-- JOIN_TIMER_EXPIRY (R52). -/
def execJoinTimerExpiry (p : PairNo) (s : State) : Host.Outcome State Fault Refusal :=
  .next (match (s.pair p).stateTimer with
    | some (.join, d) => redecide (quarantine p .joinTimeout (s.reach d))
    | _ => s)

/-- A run of the dispatcher that an event at a pair has found between two fragments goes on (R114) [32]. The pair is one
that can take no DATA: the JOIN of a join repeat is placed on a JOINING pair. -/
def resume (p : PairNo) (s : State) : State := if s.disp.midRun && !s.isActive p then dispatch s else s

/-- JOIN_REPEAT_TIMER_EXPIRY (R47). -/
def execJoinRepeatTimerExpiry (p : PairNo) (s : State) : Host.Outcome State Fault Refusal :=
  .next (match (s.pair p).joinRepeat with
    | some d =>
      let s1 := s.reach d
      let s2 := s1.modPair p fun r => { r with joinRepeat := some (s1.now + Config.joinRepeatMs) }
      if s2.joinOutstanding p then s2
      else if (s2.port p).hasRoom (buildJoin p s2).size then resume p (placeJoin p s2)
      else placeJoin p s2
    | none => s)

/-- LEAVE_TIMER_EXPIRY (R59). -/
def execLeaveTimerExpiry (p : PairNo) (s : State) : Host.Outcome State Fault Refusal :=
  .next (match (s.pair p).stateTimer with
    | some (.leave, d) => redecide (completeLeave p ((s.reach d).countPair p .leaveTimeouts))
    | _ => s)

/-- PENALTY_TIMER_EXPIRY (R63). -/
def execPenaltyTimerExpiry (p : PairNo) (s : State) : Host.Outcome State Fault Refusal :=
  .next (match (s.pair p).stateTimer with
    | some (.penalty, d) => redecide (restart p (s.reach d))
    | _ => s)

/-- PROGRESS_TIMER_EXPIRY (R54). -/
def execProgressTimerExpiry (p : PairNo) (s : State) : Host.Outcome State Fault Refusal :=
  .next (match (s.pair p).progressTimer with
    | some d => redecide (placeProgress p ((s.reach d).modPair p fun r => { r with progressTimer := none }))
    | none => s)

/-- GAP_TIMER_EXPIRY (R154). -/
def execGapTimerExpiry (s : State) : Host.Outcome State Fault Refusal :=
  .next (match s.rx.gapTimer with
    | some d => rxGapTimeout (s.reach d)
    | none => s)

end Sys2Proof.Machine
end

