-- ==== Sys2Proof/Machine/RuleRequests.lean ====
section
/-! DEFINITION. Meanings: rule and class requests (5.3, R98). -/

namespace Sys2Proof.Machine

/-! ### Layout of a rule (R184) -/

/-- The selector a number names (R184). -/
def selectorOf : Nat → Option Selector
  | 1 => some .etherType | 2 => some .vlanPcp | 3 => some .vlanId | 4 => some .dstMac | 5 => some .ipv4Dscp
  | 6 => some .ipv4Protocol | 7 => some .any | _ => none

/-- Number of a selector (R184). -/
def Selector.code : Selector → Nat
  | .etherType => 1 | .vlanPcp => 2 | .vlanId => 3 | .dstMac => 4 | .ipv4Dscp => 5 | .ipv4Protocol => 6 | .any => 7

/-- The action a number names (R184). -/
def actionOf : Nat → Option Action
  | 1 => some (.toClass 0) | 2 => some (.toClass 1) | 3 => some (.toClass 2) | 4 => some (.toClass 3)
  | 5 => some .discard | _ => none

/-- Number of an action (R184). -/
def Action.code : Action → Nat
  | .toClass c => c.val + 1
  | .discard => 5

/-- The yes-or-no field a number spells (R184). -/
def yesNoOf : Nat → Option Bool
  | 0 => some false
  | 1 => some true
  | _ => none

/-- The rule index a number names. -/
def ruleIndexOf (n : Nat) : Option (Fin 64) := if h : n < 64 then some ⟨n, h⟩ else none

/-- A min length as asked for: absent for 0, else brought into 60 to 1518 (R92, step 4). -/
def minLengthOf (n : Nat) : Option Nat := if n = 0 then none else some (clamp 60 1518 n)

/-! ### WRITE-RULE (R92), READ-RULE (R93) -/

/-- WRITE-RULE judged and carried out (R92). -/
def judgeWriteRule (body : List Octet) (s : State) : Answer :=
  let value := field body 4 6
  let mask := field body 10 6
  let asked := field body 16 2
  match ruleIndexOf (field body 0 1), yesNoOf (field body 1 1), selectorOf (field body 2 1), actionOf (field body 3 1) with
  | some i, some inUse, some selector, some action =>
    if 2 ^ selector.width ≤ value || 2 ^ selector.width ≤ mask then refuse .refusedRange s
    else
      let record : Rule :=
        { inUse := inUse, selector := selector, value := BitVec.ofNat 48 value, mask := BitVec.ofNat 48 mask,
          minLength := minLengthOf asked, action := action, hits := 0 }
      doneClamped (asked != 0 && clamp 60 1518 asked != asked) [] (s.setRule i record)
  | _, _, _, _ => refuse .refusedRange s

/-- WRITE-RULE (R92). -/
def execWriteRule (tag : Octet) (body : List Octet) (s : State) : Host.Outcome State Fault Refusal :=
  .next (intake { kind := 0x20, tag := tag, body := body } (withLength 18 body (judgeWriteRule body)) s)

/-- A rule record as READ-RULE returns it (R184): WRITE-RULE octets 1 to 17, then hits. -/
def Rule.octets (r : Rule) : List Octet :=
  beBool r.inUse ++ be1 r.selector.code ++ be1 r.action.code ++ be6 r.value.toNat ++ be6 r.mask.toNat
    ++ be2 (r.minLength.getD 0) ++ be4 r.hits

/-- READ-RULE judged and answered (R93). -/
def judgeReadRule (body : List Octet) (s : State) : Answer :=
  match ruleIndexOf (field body 0 1) with
  | some i => done (s.rule i).octets s
  | none => refuse .refusedRange s

/-- READ-RULE (R93). -/
def execReadRule (tag : Octet) (body : List Octet) (s : State) : Host.Outcome State Fault Refusal :=
  .next (intake { kind := 0x21, tag := tag, body := body } (withLength 1 body (judgeReadRule body)) s)

/-! ### TRY-CLASSIFY (R94) -/

/-- The header a TRY-CLASSIFY describes (R94, R184). -/
def describedHeader (body : List Octet) : Header :=
  { etherType := field body 0 2,
    tag := if field body 2 1 = 1 then some (field body 3 1, field body 4 2) else none,
    dstMac := field body 6 6,
    ipv4 := if field body 12 1 = 1 ∧ field body 0 2 = 0x0800 then some (field body 13 1, field body 14 1) else none,
    length := clamp 60 1518 (field body 15 2) }

/-- A described field has a bit beyond its width, or is no yes-or-no value (R94). -/
def describedOutOfRange (body : List Octet) : Bool :=
  1 < field body 2 1 || 7 < field body 3 1 || 4095 < field body 4 2 || 1 < field body 12 1 || 63 < field body 13 1

/-- What the Classifier would do with a header (R94): the winner's index or 0xFF, the action, the min-length verdict. -/
def tryResult (h : Header) (s : State) : List Octet :=
  match winner s h with
  | some i => be1 i.val ++ be1 (s.rule i).action.code ++ beBool ((s.rule i).tooShort h)
  | none => be1 0xFF ++ be1 (Action.toClass s.cfg.defaultClass).code ++ beBool false

/-- TRY-CLASSIFY judged and answered (R94). -/
def judgeTryClassify (body : List Octet) (s : State) : Answer :=
  if describedOutOfRange body then refuse .refusedRange s
  else doneClamped (clamp 60 1518 (field body 15 2) != field body 15 2) (tryResult (describedHeader body) s) s

/-- TRY-CLASSIFY (R94). -/
def execTryClassify (tag : Octet) (body : List Octet) (s : State) : Host.Outcome State Fault Refusal :=
  .next (intake { kind := 0x22, tag := tag, body := body } (withLength 17 body (judgeTryClassify body)) s)

/-! ### CONFIGURE-CLASS (R98) -/

/-- The class a number names. -/
def classOf (n : Nat) : Option (Fin 4) := if h : n < 4 then some ⟨n, h⟩ else none

/-- The longest age limit of a class: class 3 has none (R95, R98). -/
def maxAge (c : Fin 4) : Nat := if c = 3 then 0 else 1000

/-- CONFIGURE-CLASS judged and carried out (R98). -/
def judgeConfigureClass (body : List Octet) (s : State) : Answer :=
  let limit := field body 1 2
  let age := field body 3 2
  match classOf (field body 0 1) with
  | some c =>
    let q := { s.cls c with limit := clamp 1 256 limit, ageLimit := clamp 0 (maxAge c) age }
    doneClamped (q.limit != limit || q.ageLimit != age) [] (fillCls c q s)
  | none => refuse .refusedRange s

/-- CONFIGURE-CLASS (R98). -/
def execConfigureClass (tag : Octet) (body : List Octet) (s : State) : Host.Outcome State Fault Refusal :=
  .next (intake { kind := 0x23, tag := tag, body := body } (withLength 5 body (judgeConfigureClass body)) s)

end Sys2Proof.Machine
end

