-- ==== Sys2Proof/Machine/Dispatch.lean ====
section
/-! DEFINITION. exec: one arm per command of the table. -/

namespace Sys2Proof.Machine

def exec (i : Instr) (s : State) : Host.Outcome State Fault Refusal :=
  match i with
  | .reset straps => Sys2Proof.Machine.execReset straps s
  | .mgmtFrameComplete => Sys2Proof.Machine.execMgmtFrameComplete s
  | .characterGapTimeout => Sys2Proof.Machine.execCharacterGapTimeout s
  | .spiTransferEnd => Sys2Proof.Machine.execSpiTransferEnd s
  | .messageSent => Sys2Proof.Machine.execMessageSent s
  | .unknownRequest kind tag body => Sys2Proof.Machine.execUnknownRequest kind tag body s
  | .identify tag body => Sys2Proof.Machine.execIdentify tag body s
  | .configureBond tag body => Sys2Proof.Machine.execConfigureBond tag body s
  | .release tag body => Sys2Proof.Machine.execRelease tag body s
  | .resetBond tag body => Sys2Proof.Machine.execResetBond tag body s
  | .configurePair tag body => Sys2Proof.Machine.execConfigurePair tag body s
  | .enablePair tag body => Sys2Proof.Machine.execEnablePair tag body s
  | .disablePair tag body => Sys2Proof.Machine.execDisablePair tag body s
  | .probePair tag body => Sys2Proof.Machine.execProbePair tag body s
  | .configureMemory tag body => Sys2Proof.Machine.execConfigureMemory tag body s
  | .writeRule tag body => Sys2Proof.Machine.execWriteRule tag body s
  | .readRule tag body => Sys2Proof.Machine.execReadRule tag body s
  | .tryClassify tag body => Sys2Proof.Machine.execTryClassify tag body s
  | .configureClass tag body => Sys2Proof.Machine.execConfigureClass tag body s
  | .flushReorder tag body => Sys2Proof.Machine.execFlushReorder tag body s
  | .readGaps tag body => Sys2Proof.Machine.execReadGaps tag body s
  | .setNotices tag body => Sys2Proof.Machine.execSetNotices tag body s
  | .readPair tag body => Sys2Proof.Machine.execReadPair tag body s
  | .readBond tag body => Sys2Proof.Machine.execReadBond tag body s
  | .readCounters tag body => Sys2Proof.Machine.execReadCounters tag body s
  | .noticeBuild => Sys2Proof.Machine.execNoticeBuild s
  | .report p line upRate downRate upDelay downDelay => Sys2Proof.Machine.execReport p line upRate downRate upDelay downDelay s
  | .taken p octets => Sys2Proof.Machine.execTaken p octets s
  | .fragmentReceived p octets => Sys2Proof.Machine.execFragmentReceived p octets s
  | .portUnknownMessage p octets => Sys2Proof.Machine.execPortUnknownMessage p octets s
  | .silenceTimerExpiry p => Sys2Proof.Machine.execSilenceTimerExpiry p s
  | .lineGuardChange p asserted => Sys2Proof.Machine.execLineGuardChange p asserted s
  | .guardAssertTimerExpiry p => Sys2Proof.Machine.execGuardAssertTimerExpiry p s
  | .guardClearTimerExpiry p => Sys2Proof.Machine.execGuardClearTimerExpiry p s
  | .holdoffTimerExpiry p => Sys2Proof.Machine.execHoldoffTimerExpiry p s
  | .joinTimerExpiry p => Sys2Proof.Machine.execJoinTimerExpiry p s
  | .joinRepeatTimerExpiry p => Sys2Proof.Machine.execJoinRepeatTimerExpiry p s
  | .leaveTimerExpiry p => Sys2Proof.Machine.execLeaveTimerExpiry p s
  | .penaltyTimerExpiry p => Sys2Proof.Machine.execPenaltyTimerExpiry p s
  | .progressTimerExpiry p => Sys2Proof.Machine.execProgressTimerExpiry p s
  | .gapTimerExpiry => Sys2Proof.Machine.execGapTimerExpiry s
  | .lanFrameReceived run rxError => Sys2Proof.Machine.execLanFrameReceived run rxError s
  | .lanFrameSent => Sys2Proof.Machine.execLanFrameSent s
  | .lanLinkChange up => Sys2Proof.Machine.execLanLinkChange up s
  | .mgmtOctetReceived octet stopBit => Sys2Proof.Machine.execMgmtOctetReceived octet stopBit s

end Sys2Proof.Machine
end

