-- ==== Sys2Proof/Safety.lean ====
section
/-! DEFINITION. What claims speak of: which parts of the state an act leaves alone, and the invariants of every step. -/

namespace Sys2Proof.Machine

/-! ### Frames: what an act leaves alone -/

/-- Only cell counts, counters and pending notice counts differ: what the Cell Memory can do (R79, R80). -/
structure CellsFrame (s t : State) : Prop where
  pending : t.pending = s.pending
  now : t.now = s.now
  mgmt : t.mgmt = { s.mgmt with notices := t.mgmt.notices }
  cfg : t.cfg = s.cfg
  ports : t.ports = s.ports
  pairs : t.pairs = s.pairs
  rules : t.rules = s.rules
  classes : t.classes = s.classes
  nextOrder : t.nextOrder = s.nextOrder
  disp : t.disp = s.disp
  rx : t.rx = s.rx
  asm : t.asm = s.asm
  lan : t.lan = s.lan
  freeCount : t.freeCount = s.freeCount

/-- Only the inbound path differs: Reorder Engine, Frame Assembler, LAN transmit queue, cells, counters and pending
notice counts. What the Reorder Engine and the Frame Assembler can do (chapters 7 and 8). -/
structure InboundFrame (s t : State) : Prop where
  pending : t.pending = s.pending
  now : t.now = s.now
  mgmt : t.mgmt = { s.mgmt with notices := t.mgmt.notices }
  cfg : t.cfg = s.cfg
  ports : t.ports = s.ports
  pairs : t.pairs = s.pairs
  rules : t.rules = s.rules
  classes : t.classes = s.classes
  nextOrder : t.nextOrder = s.nextOrder
  disp : t.disp = s.disp
  lan : t.lan = { s.lan with txQueue := t.lan.txQueue }
  freeCount : t.freeCount = s.freeCount

/-- What no port message, fragment, timer or guard event changes: the queue of commands, the settings, the rules, the
admission order, the LAN pins and link, and the management link but for its pending notice counts. -/
structure EventFrame (s t : State) : Prop where
  pending : t.pending = s.pending
  mgmt : t.mgmt = { s.mgmt with notices := t.mgmt.notices }
  cfg : t.cfg = s.cfg
  rules : t.rules = s.rules
  nextOrder : t.nextOrder = s.nextOrder
  lan : t.lan = { s.lan with txQueue := t.lan.txQueue }

/-- What an event at pair `p` leaves alone: of every other pair's record all but what a placement of the Fragment
Dispatcher changes there, of every other port all but its line queue and what it sent, and what no event changes. -/
structure LifeFrame (p : PairNo) (s t : State) : Prop where
  event : EventFrame s t
  pairs : ∀ q, q ≠ p → t.pair q = { s.pair q with
    progressTimer := (t.pair q).progressTimer, outRef := (t.pair q).outRef, renewal := (t.pair q).renewal }
  ports : ∀ q, q ≠ p → t.port q = { s.port q with queue := (t.port q).queue, sent := (t.port q).sent }

/-! ### Requests and replies -/

/-- The message can be taken: a place is free for its reply, and it stands at the head of the input buffer or the buffer
is empty (R173) [4]. -/
def ReadyFor (m : Message) (s : State) : Prop :=
  s.mgmt.outbox.length < 8 ∧ (s.mgmt.inbox = [] ∨ s.mgmt.inbox.head? = some m)

/-- `s` with the message taken from the input buffer and its reply at the tail of the output queue (R173, R184). -/
def answered (m : Message) (status : Nat) (result : List Octet) (s : State) : State :=
  { s with mgmt := { s.mgmt with
      inbox := s.mgmt.inbox.drop 1,
      outbox := s.mgmt.outbox
        ++ [{ kind := 0x80, tag := m.tag, body := [m.kind, BitVec.ofNat 8 status] ++ result }] } }

/-- The nineteen requests with kind and body length (R184). -/
def requestRows : List (Octet × Nat × (Octet → List Octet → Instr)) :=
  [(0x01, 0, .identify), (0x02, 20, .configureBond), (0x03, 0, .release), (0x04, 0, .resetBond),
   (0x10, 2, .configurePair), (0x11, 1, .enablePair), (0x12, 2, .disablePair), (0x13, 2, .probePair),
   (0x18, 4, .configureMemory), (0x20, 18, .writeRule), (0x21, 1, .readRule), (0x22, 17, .tryClassify),
   (0x23, 5, .configureClass), (0x28, 0, .flushReorder), (0x29, 0, .readGaps), (0x30, 1, .setNotices),
   (0x31, 1, .readPair), (0x32, 0, .readBond), (0x33, 2, .readCounters)]

/-- A fragment as R2, R3 and R14 allow it on port `p`: DATA with 1 to 512 octets, a JOIN-ACK that echoes `p`. -/
def FragmentAllowed (p : PairNo) : Fragment → Prop
  | .data _ _ _ payload => 1 ≤ payload.length ∧ payload.length ≤ 512
  | .joinAck _ pair _ => pair = p
  | _ => True

/-- A leave of pair `p` has completed between `s` and `t`, at the time of `t` (R59). -/
structure LeaveDone (p : PairNo) (s t : State) : Prop where
  mark : t.mark p = none
  queue : (t.port p).queue = []
  host : (s.pair p).reason = .host →
    (t.pair p).state = .parked ∧ (t.pair p).reason = (if (s.pair p).enabled then .notReleased else .host) ∧
    (t.pair p).hostDisable = false ∧ (t.port p).order = .quiet
  done : (s.pair p).reason = .host → (s.pair p).hostDisable = true → s.mgmt.mask.getLsbD 2 = false →
    t.occurrences (.commandDone p) = min (s.occurrences (.commandDone p) + 1) 255
  line : (s.pair p).reason ≠ .host →
    (t.pair p).state = .settling ∧ (t.pair p).reason = (s.pair p).reason ∧
    (t.pair p).stateTimer = some (.holdoff, t.now + s.cfg.holdoff)

/-- A LEAVE with a reason is placed at the tail of pair `p`'s line queue, or made to wait (R48, R56). -/
structure LeavePlaced (p : PairNo) (why : LeaveReason) (s t : State) : Prop where
  room : (s.port p).queue.length < 4 → (s.port p).backlog + 9 ≤ 3072 → (t.pair p).waitLeave = none ∧
    (t.port p).queue.map (·.frag) = (s.port p).queue.map (·.frag) ++ [.leave why]
  full : ¬((s.port p).queue.length < 4 ∧ (s.port p).backlog + 9 ≤ 3072) → (t.pair p).waitLeave = some why ∧
    (t.port p).queue.map (·.frag) = (s.port p).queue.map (·.frag)

/-- What the handover test makes of a line queue of entries `q` under a residue and a gate, `sent` having been sent before:
with the gate open the first STAGED entries, as many as the credit of two leaves beside HANDED entries and residue, are
sent in queue order and become HANDED; every other entry stays as it is (R26, R27). -/
def HandedOver (gate : Bool) (sent : List PortMessage) (q : List Entry) (residue : List Nat) (x : Port) : Prop :=
  let handed := q.countP (·.handed)
  let staged := q.filter fun e => !e.handed
  let n := if gate then min staged.length (2 - handed - residue.length) else 0
  x.queue.map (·.frag) = q.map (·.frag) ∧
  x.queue.map (·.handed) = (List.range q.length).map (fun i => decide (i < handed + n)) ∧
  x.sent = sent ++ (staged.take n).map fun e => .fragment e.frag

/-- The octets of the HANDED entries of a line queue that no TAKEN has covered, head first (R31). -/
def Port.uncovered (x : Port) : List Nat :=
  match (x.queue.filter (·.handed)).map (·.frag.size) with
  | [] => []
  | c :: rest => (c - x.takenFromHead) :: rest

/-- LOST-ON-DROP has grown by the DATA entries of pair `p`'s line queue (R31). -/
def LostOnDrop (p : PairNo) (s t : State) : Prop :=
  (t.pair p).counter .lostOnDrop = countUp ((s.pair p).counter .lostOnDrop) ((s.port p).queue.countP (·.frag.isData))

/-- `n` changes of pair `p`'s state have raised PAIR-STATE, which is not masked (R39, R186, R187). -/
def StateTold (p : PairNo) (n : Nat) (s t : State) : Prop :=
  s.mgmt.mask.getLsbD 1 = false → t.occurrences (.pairState p) = min (s.occurrences (.pairState p) + n) 255

/-- The ACTIVE count has fallen to 0 between `s` and `t`: BOND-STATE is told and every frame of the outbound half is
removed, counted NO-PATH and its cells returned; the request for a frame stands (R39, R101, R121). -/
structure Purged (s t : State) : Prop where
  classes : ∀ c, t.cls c = { s.cls c with frames := [] }
  disp : t.disp = { next := s.disp.next, split := none, held := false, standing := true }
  counted : t.counter .noPath = countUp (s.counter .noPath)
    (((s.cls 0).frames.length + (s.cls 1).frames.length + (s.cls 2).frames.length + (s.cls 3).frames.length)
      + (if s.disp.split.isSome then 1 else 0))
  cells : s.cells.usedOut = (s.queued.map (·.cells)).sum + ((s.disp.split.map (·.cells)).getD 0) → t.cells.usedOut = 0
  bond : s.mgmt.mask.getLsbD 0 = false → t.occurrences .bondState = min (s.occurrences .bondState + 1) 255

/-- T_reorder is the value of R155 over the live pairs: the margin, the spread of the down delays, and 4160 over the
least down rate, a rate below 64 taken as 64. -/
def ReorderTime (s : State) : Prop :=
  let live (p : PairNo) : Prop := (s.mark p).isSome = true
  let delay (p : PairNo) : Nat := (s.port p).report.downDelay
  let rate (p : PairNo) : Nat := max 64 (s.port p).report.downRate
  ∃ far near slow, live far ∧ live near ∧ live slow ∧
    (∀ q, live q → delay q ≤ delay far ∧ delay near ≤ delay q ∧ rate slow ≤ rate q) ∧
    s.rx.tReorder = min 255 (max 2 (s.cfg.margin + (delay far - delay near) + ceilDiv 4160 (rate slow)))

/-- One evaluation of pressure and store level lies between `s` and `t`: both hold as the counts of `t` have them, and a
change of either is told, counted or raised once (R79, R80). -/
structure Evaluated (s t : State) : Prop where
  pressure : t.cells.pressure = decide (t.cells.availIn < 24)
  level : t.cells.level =
    if t.cells.usedIn = 0 then .empty
    else if t.cells.availIn < 24 then .pressure
    else if (t.cells.rIn + (3072 - t.cells.rOut - t.cells.rIn)) / 2 ≤ t.cells.usedIn then .half
    else .low
  entries : t.counter .pressureEntries =
    if s.cells.pressure = false ∧ t.cells.pressure = true then countUp (s.counter .pressureEntries) 1
    else s.counter .pressureEntries
  told : t.cells.tells = s.cells.tells ++ (if t.cells.pressure = s.cells.pressure then [] else [t.cells.pressure])
  raised : t.occurrences .storeLevel =
    if t.cells.level = s.cells.level ∨ s.mgmt.mask.getLsbD 4 = true then s.occurrences .storeLevel
    else min (s.occurrences .storeLevel + 1) 255

/-! ### Invariants -/

/-- What holds of a line queue and its residue (R24, R25, R27, R31). An entry has at most 520 octets: a payload of at most
512 and 8 more (R1, R107, R110). -/
structure LineQueueLaw (x : Port) : Prop where
  handedFirst : ∃ handed staged, x.queue = handed ++ staged ∧ (∀ e ∈ handed, e.handed = true) ∧
    (∀ e ∈ staged, e.handed = false)
  credit : x.queue.countP (·.handed) + x.residue.length ≤ 2
  entries : x.queue.length ≤ 4
  octets : x.backlog ≤ 3072
  sizes : ∀ e ∈ x.queue, e.frag.size ≤ 520
  taken : match x.queue with
    | [] => x.takenFromHead = 0
    | e :: _ => if e.handed then x.takenFromHead < e.frag.size else x.takenFromHead = 0
  residue : ∀ c ∈ x.residue, 0 < c

/-- Every buffer is within the bound its rule gives. -/
structure Bounded (s : State) : Prop where
  /-- R172. -/
  inbox : s.mgmt.inbox.length ≤ 4
  /-- R175. -/
  outbox : s.mgmt.outbox.length ≤ 8
  /-- R175. -/
  notices : s.mgmt.outbox.countP Message.isNotice ≤ 7
  /-- R169: the head message stays while it has an octet to clock out. -/
  clocked : match s.mgmt.outbox with
    | [] => s.mgmt.sentOctets = 0
    | m :: _ => s.mgmt.sentOctets < m.octets.length
  /-- R24. -/
  lineQueues : ∀ p, LineQueueLaw (s.port p)
  /-- R159. -/
  gapRecords : s.rx.gaps.length ≤ 16
  /-- R163. -/
  lanQueue : s.lan.txQueue.length ≤ 8
  /-- R177. -/
  pMax : 64 ≤ s.cfg.pMax ∧ s.cfg.pMax ≤ 512
  /-- R106, R107. -/
  plan : ∀ plan, s.disp.split = some plan → plan.large ≤ 512 ∧ plan.small ≤ 512

/-- A pair at or above the fitted count is as reset leaves it, but for the level of its unsampled guard pin
(R23, R38). -/
def UnfittedAtRest (s : State) : Prop :=
  ∀ p, s.isFitted p = false →
    s.pair p = Pair.reset false false ∧ s.port p = { Port.reset with guardPin := (s.port p).guardPin }

/-- The reorder window: at most one record in a slot, every record at a distance of at most 1023 from NES (R125), and
while the receiver is UNSYNCED no record and no live pair (R126). -/
structure WindowLaw (s : State) : Prop where
  canonical : Window.wf s.rx.window
  within : ∀ r ∈ s.rx.window, dist r.seq s.rx.nes ≤ 1023
  unsynced : s.rx.synced = false → s.rx.window = [] ∧ ∀ p, s.mark p = none

/-- Delivery is at rest, as it is between commands: the pressure kept, told and flagged is the one the counts give (R79,
R152), and while the receiver is SYNCED and not PAUSED with a record stored, a gap is open at NES that nothing resolves:
a live mark is not ahead of NES, no flush is in flight and no pressure holds (R147, R149, R151, R158). -/
structure DeliveryAtRest (s : State) : Prop where
  told : s.cells.tells = []
  pressure : s.cells.pressure = decide (s.cells.availIn < 24)
  flag : s.rx.pressureFlag = s.cells.pressure
  gap : s.rx.synced = true → s.rx.paused = false → s.rx.window ≠ [] →
    (∀ r ∈ s.rx.window, slotOf r.seq ≠ slotOf s.rx.nes) ∧ (∃ p m, s.mark p = some m ∧ ahead m s.rx.nes = false) ∧
    s.rx.flush = none ∧ s.rx.pressureFlag = false

/-- The cells the Frame Assembler holds (R161). -/
def Assembler.cells : Assembler → Nat
  | .collecting _ cells => cells
  | _ => 0

/-- The use counts are the cells that the frames and fragments in the part hold; a partial frame holds just what its
octets need, and a request for a frame stands only without a frame being split (R74, R95, R105, R106, R125, R162,
R163). -/
structure CellsAccounted (s : State) : Prop where
  outbound : s.cells.usedOut = (s.queued.map (·.cells)).sum + ((s.disp.split.map (·.cells)).getD 0)
  inbound : s.cells.usedIn =
    (s.rx.window.map (·.cells)).sum + s.asm.cells + (s.lan.txQueue.map (·.cells)).sum
  partialFrame : ∀ octets cells, s.asm = .collecting octets cells → cells = cellsFor octets.length
  standing : s.disp.standing = true → s.disp.split = none

end Sys2Proof.Machine
end

