-- ==== Sys2Proof/Certificates/Slice0/Obligations.lean ====
section
/-! DEFINITION. The statements for the provers. -/

open Sys2Proof Sys2Proof.Machine

/-! ### Steps and reset -/

/-- A step takes the command at the front of the queue and runs it on the state with the queue's rest. On an empty
queue one millisecond passes and nothing else changes: that is the model's choice, log entry [1]. -/
def Obligations.StepRunsFrontCommand : Prop :=
  (∀ (c : Instr) (rest : List Instr) (s : State), s.pending = c :: rest → step s = exec c { s with pending := rest }) ∧
  (∀ s : State, s.pending = [] → step s = .next { s with now := s.now + 1 })

/-- RESET brings every item to its after-reset value and samples the straps and the pins (R181, R167, R36, R164). That
the commands waiting stay, and that a pin level is held through reset, are the model's ([16], [17]). -/
def Obligations.ResetRestoresTheStatedValues : Prop :=
  ∀ (straps : Straps) (s : State), ∃ t, exec (.reset straps) s = .next t ∧
    t.pending = s.pending ∧ t.now = 0 ∧
    t.mgmt.fitted = straps.fitted.val + 1 ∧ t.mgmt.spi = straps.spi ∧ t.mgmt.autostart = straps.autostart ∧
    t.mgmt.released = straps.autostart ∧ t.mgmt.framer = .hunt ∧ t.mgmt.inbox = [] ∧ t.mgmt.outbox = [] ∧
    t.mgmt.bondId = 1 ∧ t.mgmt.epoch = 0 ∧ t.mgmt.mask = 0 ∧
    (∀ i, t.occurrences i = if i = .lanLink ∧ s.lan.linkPin = true then 1 else 0) ∧
    t.cfg = { pMax := 256, defaultClass := 1, margin := 5, holdoff := 3000, joinTimeout := 10, leaveTimeout := 2000,
              penalty := 60, flapWindow := 300, flapThreshold := 4, progressInterval := 10 } ∧
    (∀ p, t.pair p =
      { state := .vacant, reason := if p.val ≤ straps.fitted.val then .silent else .notFitted,
        enabled := decide (p.val ≤ straps.fitted.val) && straps.autostart, derate := 100, outboundJoined := false,
        peerLeft := false, leaveTaken := false, leaveForm := .noLeave, hostDisable := false, stateTimer := none,
        joinRepeat := none, progressTimer := none, waitAck := none, waitJoin := false, waitLeave := none, flaps := [],
        outRef := none, renewal := false, counters := Vector.replicate 12 0 }) ∧
    (∀ p, t.port p =
      { order := .unordered, report := { line := .idle, upRate := 0, downRate := 0, upDelay := 0, downDelay := 0 },
        present := false, silence := none, queue := [], takenFromHead := 0, residue := [], guard := .clear,
        debounce := if p.val ≤ straps.fitted.val ∧ (s.port p).guardPin = true then some 20 else none,
        guardPin := (s.port p).guardPin, sent := [] }) ∧
    t.cells = { rOut := 768, rIn := 1536, usedOut := 0, usedIn := 0, pressure := false, level := .empty, tells := [] } ∧
    (∀ i, t.rule i = { inUse := false, selector := .any, value := 0, mask := 0, minLength := none,
                       action := .toClass 0, hits := 0 }) ∧
    (∀ c, t.cls c = { frames := [], limit := 64, ageLimit := 0 }) ∧
    t.disp = { next := 0, split := none, held := false, standing := true } ∧
    t.rx = { synced := false, nes := 0, peerEpoch := 0, window := [], live := Vector.replicate 8 none, gapTimer := none,
             tReorder := 70, paused := false, flush := none, gaps := [], pressureFlag := false } ∧
    t.asm = .idle ∧ t.lan.txQueue = [] ∧ t.lan.linkUp = s.lan.linkPin ∧ t.counters = Vector.replicate 44 0

/-! ### Framing on the management link -/

/-- The framer's table, on an octet that comes in SPI mode or in UART mode with a good stop bit while no complete frame
awaits its test; in SPI mode an octet is clocked out with it (R170, R168, R169). A frame being gathered is abandoned and
counted by a character gap or a bad stop bit in UART mode, and by MG_CS_N in SPI mode; in HUNT nothing is abandoned
(R171, R168). -/
def Obligations.ReceiveFramerFollowsItsTable : Prop :=
  (∀ (s : State) (o : Octet) (stop : Bool), s.mgmt.spi = true ∨ stop = true →
      let s0 : State := if s.mgmt.spi then { s with mgmt := s.mgmt.clockOut } else s
      (s.mgmt.framer = .hunt → exec (.mgmtOctetReceived o stop) s =
        .next { s0 with mgmt := { s0.mgmt with framer := if o = 0xA5 then .length else .hunt } }) ∧
      (s.mgmt.framer = .length → 2 ≤ o.toNat → o.toNat ≤ 248 → exec (.mgmtOctetReceived o stop) s =
        .next { s0 with mgmt := { s0.mgmt with framer := .collect o.toNat [] } }) ∧
      (s.mgmt.framer = .length → o.toNat < 2 ∨ 248 < o.toNat → exec (.mgmtOctetReceived o stop) s =
        .next (({ s0 with mgmt := { s0.mgmt with framer := .hunt } } : State).count .mgmtBadLength)) ∧
      (∀ n kept, s.mgmt.framer = .collect n kept → kept.length ≠ n + 2 → exec (.mgmtOctetReceived o stop) s =
        .next { s0 with mgmt := { s0.mgmt with framer := .collect n (kept ++ [o]) } })) ∧
  (∀ s : State,
      ((s.mgmt.framer = .length ∨ ∃ n kept, s.mgmt.framer = .collect n kept ∧ kept.length ≠ n + 2) →
        (s.mgmt.spi = false → exec .characterGapTimeout s =
          .next (({ s with mgmt := { s.mgmt with framer := .hunt } }).count .mgmtAbandoned)) ∧
        (s.mgmt.spi = false → ∀ o, exec (.mgmtOctetReceived o false) s =
          .next (({ s with mgmt := { s.mgmt with framer := .hunt } }).count .mgmtAbandoned)) ∧
        (s.mgmt.spi = true → exec .spiTransferEnd s =
          .next (({ s with mgmt := { s.mgmt with framer := .hunt } }).count .mgmtAbandoned))) ∧
      (s.mgmt.framer = .hunt →
        exec .characterGapTimeout s = .next s ∧ exec .spiTransferEnd s = .next s ∧
        (s.mgmt.spi = false → ∀ o, exec (.mgmtOctetReceived o false) s = .next s)))

/-- A complete frame whose check agrees joins the input buffer or is counted RX-OVERRUN. One whose check differs is
discarded, counted MGMT-BAD-CHECK and rescanned: the part goes on as if the octets after its sync came in again one by one
to a framer in HUNT, each frame they complete being tested; without a further sync octet that leaves HUNT (R170, R172).
The test does not look at the mode. -/
def Obligations.CompleteFrameIsTestedOnce : Prop :=
  (∀ (s : State) (n : Nat) (kept : List Octet), s.mgmt.framer = .collect n kept → kept.length = n + 2 →
    2 ≤ n → n ≤ 248 →
    let discarded : State := ({ s with mgmt := { s.mgmt with framer := .hunt } } : State).count .mgmtBadCheck
    let again (r : Host.Outcome State Fault Refusal) (o : Octet) : Host.Outcome State Fault Refusal :=
      match r with
      | .next t => match exec (.mgmtOctetReceived o true) t with
        | .next u => exec .mgmtFrameComplete u
        | x => x
      | x => x
    ((crc16 (be1 n ++ kept.take n)).toNat = field kept n 2 → s.mgmt.inbox.length < 4 →
      exec .mgmtFrameComplete s = .next { s with mgmt := { s.mgmt with
        framer := .hunt,
        inbox := s.mgmt.inbox ++ [{ kind := kept.getD 0 0, tag := kept.getD 1 0, body := (kept.take n).drop 2 }] } }) ∧
    ((crc16 (be1 n ++ kept.take n)).toNat = field kept n 2 → 4 ≤ s.mgmt.inbox.length →
      exec .mgmtFrameComplete s = .next (({ s with mgmt := { s.mgmt with framer := .hunt } }).count .rxOverrun)) ∧
    ((crc16 (be1 n ++ kept.take n)).toNat ≠ field kept n 2 → n ≠ 0xA5 → 0xA5 ∉ kept →
      exec .mgmtFrameComplete s = .next discarded) ∧
    ((crc16 (be1 n ++ kept.take n)).toNat ≠ field kept n 2 → s.mgmt.spi = false →
      exec .mgmtFrameComplete s = (be1 n ++ kept).foldl again (.next discarded))) ∧
  (∀ s t : State, exec .mgmtFrameComplete s = .next t → ∀ spi,
    exec .mgmtFrameComplete { s with mgmt := { s.mgmt with spi := spi } } =
      .next { t with mgmt := { t.mgmt with spi := spi } })

/-- A message sent octet by octet as R184 lays it out, to a framer in HUNT with room behind it, arrives whole in the
input buffer: framing, check word and length agree with the layout (R170, R172, R184). -/
def Obligations.SentMessageIsReceived : Prop :=
  ∀ (s : State) (m : Message), s.mgmt.spi = false → s.mgmt.framer = .hunt → s.mgmt.inbox.length < 4 →
    m.body.length ≤ 246 →
    ∃ u, m.octets.foldl
        (fun (r : Host.Outcome State Fault Refusal) (o : Octet) => match r with
          | .next t => exec (.mgmtOctetReceived o true) t
          | x => x) (Host.Outcome.next s) = .next u ∧
      exec .mgmtFrameComplete u = .next { s with mgmt := { s.mgmt with inbox := s.mgmt.inbox ++ [m] } }

/-- In SPI mode an octet received clocks out the next octet of the head message, which leaves the output queue with its
last octet, or 0x00 when the queue is empty (R169). In UART mode MESSAGE_SENT ends the head message, all of whose octets
have then gone out (R168); in SPI mode it finds the head with an octet still to clock out and changes nothing [6].
MSG_WAIT follows the queue (R168, R169). The record of what was sent is the model's [17]. -/
def Obligations.OutputQueueGoesOutInOrder : Prop :=
  (∀ (s : State) (o : Octet) (stop : Bool), s.mgmt.spi = true →
    let sends (x : Octet) (outbox : List Message) (sent : Nat) : Prop :=
      ∃ t, exec (.mgmtOctetReceived o stop) s = .next t ∧
        t = { s with counters := t.counters, mgmt := { s.mgmt with
          framer := t.mgmt.framer, inbox := t.mgmt.inbox, linkOut := s.mgmt.linkOut ++ [x], outbox := outbox,
          sentOctets := sent } }
    (s.mgmt.outbox = [] → sends 0 [] s.mgmt.sentOctets) ∧
    (∀ m rest, s.mgmt.outbox = m :: rest →
      (s.mgmt.sentOctets + 1 < m.octets.length →
        sends (m.octets.getD s.mgmt.sentOctets 0) (m :: rest) (s.mgmt.sentOctets + 1)) ∧
      (s.mgmt.sentOctets + 1 = m.octets.length → sends (m.octets.getD s.mgmt.sentOctets 0) rest 0))) ∧
  (∀ (s : State) (m : Message) (rest : List Message), s.mgmt.outbox = m :: rest →
    (s.mgmt.spi = false → exec .messageSent s = .next { s with mgmt := { s.mgmt with
      outbox := rest, sentOctets := 0, linkOut := s.mgmt.linkOut ++ m.octets.drop s.mgmt.sentOctets } }) ∧
    (s.mgmt.spi = true → s.mgmt.sentOctets < m.octets.length → exec .messageSent s = .next s)) ∧
  (∀ s : State, s.mgmt.outbox = [] → exec .messageSent s = .next s) ∧
  (∀ s : State, s.msgWait = (s.mgmt.spi && !s.mgmt.outbox.isEmpty))

/-- The lowest pending instance is built into a NOTICE at the tail, with the snapshot fields of R189 as they stand at the
build, and its count becomes 0; without room or without a pending instance nothing is built (R188, R189, R185). The
numbers of named values are those of [14]. -/
def Obligations.LowestPendingNoticeIsBuilt : Prop :=
  (∀ (s : State) (i : NoticeInst), s.occurrences i ≠ 0 → (∀ j : NoticeInst, j.place < i.place → s.occurrences j = 0) →
    s.mgmt.outbox.length < 8 → s.mgmt.outbox.countP Message.isNotice < 7 →
    let yes (b : Bool) : Octet := if b then 1 else 0
    let active : BitVec 8 := BitVec.ofNat 8 (allPairs.countP fun p => (s.pair p).state == .active)
    let fields : List Octet := match i with
      | .bondState => [active, pairSet fun p => (s.pair p).state == .active, pairSet fun p => (s.mark p).isSome,
          if s.rx.synced then 2 else 1]
      | .pairState p => [BitVec.ofNat 8 (s.pair p).state.code, BitVec.ofNat 8 (s.pair p).reason.code,
          yes (s.pair p).enabled, active]
      | .commandDone p => [BitVec.ofNat 8 (s.pair p).state.code, BitVec.ofNat 8 (s.pair p).reason.code,
          yes (s.pair p).enabled]
      | .flushDone => [if s.rx.flush.isSome then 2 else 1] ++ be2 s.rx.nes.toNat ++ be2 s.rx.window.length
          ++ [BitVec.ofNat 8 s.rx.gaps.length]
      | .queueFull c => be2 (s.cls c).frames.length ++ be2 (s.cls c).limit
      | .storeLevel => [BitVec.ofNat 8 s.cells.level.code] ++ be2 s.cells.usedIn ++ be2 s.cells.availIn
      | .gapRecorded => [BitVec.ofNat 8 s.rx.gaps.length]
      | .lanLink => [if s.lan.linkUp then 1 else 2]
    exec .noticeBuild s = .next (({ s with mgmt := { s.mgmt with
      outbox := s.mgmt.outbox ++ [{ kind := 0x81, tag := 0, body :=
        [BitVec.ofNat 8 i.cause, BitVec.ofNat 8 i.number, BitVec.ofNat 8 (s.occurrences i)] ++ fields }] } } : State
      ).setOccurrences i 0)) ∧
  (∀ s : State, (∀ i, s.occurrences i = 0) ∨ 8 ≤ s.mgmt.outbox.length ∨ 7 ≤ s.mgmt.outbox.countP Message.isNotice →
    exec .noticeBuild s = .next s)

/-- An occurrence acts on its instance by the mask and the count, and changes nothing else (R187, R186). SET-NOTICES
replaces the mask whole and returns it; the unused bit set is refused (R186). -/
def Obligations.NoticesAreMaskedAndCounted : Prop :=
  (∀ (s : State) (i : NoticeInst),
    (s.mgmt.mask.getLsbD (i.cause - 1) = true → s.raise i = s) ∧
    (s.mgmt.mask.getLsbD (i.cause - 1) = false →
      (s.occurrences i < 255 → (s.raise i).occurrences i = s.occurrences i + 1) ∧
      (s.occurrences i = 255 → (s.raise i).occurrences i = 255) ∧
      (∀ j, j ≠ i → (s.raise i).occurrences j = s.occurrences j) ∧
      s.raise i = { s with mgmt := { s.mgmt with notices := (s.raise i).mgmt.notices } })) ∧
  (∀ (s : State) (tag o : Octet), ReadyFor ⟨0x30, tag, [o]⟩ s →
    (128 ≤ o.toNat → exec (.setNotices tag [o]) s = .next (answered ⟨0x30, tag, [o]⟩ 5 [] s)) ∧
    (o.toNat < 128 → exec (.setNotices tag [o]) s = .next (answered ⟨0x30, tag, [o]⟩ 0 [o]
      { s with mgmt := { s.mgmt with mask := o.setWidth 7 } })))

/-! ### Requests: refusals and reads -/

/-- A message of an unknown kind is answered REFUSED-UNKNOWN, and each of the nineteen requests with a body of the wrong
length REFUSED-LENGTH; neither changes anything else (R174, steps 1 and 2, with the kinds and lengths of R184). A request
is not taken while the output queue is full (R173), nor while another message stands before it; it then changes nothing:
that the command is given at all in that state is the model's convention [4]. -/
def Obligations.RequestsAreRefusedOrWait : Prop :=
  (∀ (s : State) (kind tag : Octet) (body : List Octet), kind ∉ requestKinds → ReadyFor ⟨kind, tag, body⟩ s →
      exec (.unknownRequest kind tag body) s = .next (answered ⟨kind, tag, body⟩ 6 [] s)) ∧
  (∀ r ∈ requestRows, ∀ (s : State) (tag : Octet) (body : List Octet), body.length ≠ r.2.1 →
      ReadyFor ⟨r.1, tag, body⟩ s →
      exec (r.2.2 tag body) s = .next (answered ⟨r.1, tag, body⟩ 7 [] s)) ∧
  (∀ r ∈ requestRows, ∀ (s : State) (tag : Octet) (body : List Octet),
      (8 ≤ s.mgmt.outbox.length ∨ ∃ m rest, s.mgmt.inbox = m :: rest ∧ m ≠ ⟨r.1, tag, body⟩) →
      exec (r.2.2 tag body) s = .next s)

/-- IDENTIFY returns identity, straps and released flag, and READ-BOND the bond status record with its fields in the order
of R192; neither changes anything (R176, R192, laid out by R184; the numbers of named values, and AUTOSTART as a yes-or-no
field, by [14]). -/
def Obligations.IdentifyAndReadBondReport : Prop :=
  (∀ (s : State) (tag : Octet), ReadyFor ⟨0x01, tag, []⟩ s →
    exec (.identify tag []) s = .next (answered ⟨0x01, tag, []⟩ 0
      [0x49, 0x0B, 0x08, 0x41, BitVec.ofNat 8 s.mgmt.fitted, if s.mgmt.spi then 1 else 0,
       if s.mgmt.autostart then 1 else 0, if s.mgmt.released then 1 else 0] s)) ∧
  (∀ (s : State) (tag : Octet), ReadyFor ⟨0x32, tag, []⟩ s →
    exec (.readBond tag []) s = .next (answered ⟨0x32, tag, []⟩ 0
      ([if s.mgmt.released then 1 else 0, s.mgmt.epoch, s.rx.peerEpoch, if s.rx.synced then 2 else 1]
        ++ be2 s.disp.next.toNat ++ be2 s.rx.nes.toNat
        ++ [pairSet fun p => (s.pair p).state == .active, pairSet fun p => (s.mark p).isSome]
        ++ be2 s.cells.usedOut ++ be2 s.cells.usedIn ++ be2 s.cells.availIn ++ [BitVec.ofNat 8 s.cells.level.code]
        ++ be2 s.rx.window.length
        ++ [if s.rx.gapTimer.isSome then 2 else 1, BitVec.ofNat 8 ((s.rx.gapTimer.map fun d => d - s.now).getD 0),
            BitVec.ofNat 8 s.rx.tReorder, if s.rx.flush.isSome then 2 else 1, if s.rx.paused then 2 else 1,
            BitVec.ofNat 8 s.rx.gaps.length, if s.lan.linkUp then 1 else 2]) s))

/-- READ-RULE returns the whole record with its hits and changes nothing; a record never written reads as reset left
it; an index above 63 is refused (R93, laid out by R184). -/
def Obligations.ReadRuleReturnsTheRecord : Prop :=
  (∀ (s : State) (tag : Octet) (i : Fin 64), ReadyFor ⟨0x21, tag, [BitVec.ofNat 8 i.val]⟩ s →
    exec (.readRule tag [BitVec.ofNat 8 i.val]) s = .next (answered ⟨0x21, tag, [BitVec.ofNat 8 i.val]⟩ 0
      ([if (s.rule i).inUse then 1 else 0, BitVec.ofNat 8 (s.rule i).selector.code,
        BitVec.ofNat 8 (s.rule i).action.code] ++ be6 (s.rule i).value.toNat ++ be6 (s.rule i).mask.toNat
        ++ be2 ((s.rule i).minLength.getD 0) ++ be4 (s.rule i).hits) s)) ∧
  (∀ (s : State) (tag : Octet) (o : Octet), 63 < o.toNat → ReadyFor ⟨0x21, tag, [o]⟩ s →
    exec (.readRule tag [o]) s = .next (answered ⟨0x21, tag, [o]⟩ 5 [] s)) ∧
  (∀ (straps : Straps) (i : Fin 64), (State.resetWith straps).rule i =
    { inUse := false, selector := .any, value := 0, mask := 0, minLength := none, action := .toClass 0, hits := 0 })

/-- READ-PAIR returns the pair's status record, its fields in the order of R191, and changes nothing; a pair number
above 7 is refused. The numbers of named values are those of [14]. -/
def Obligations.ReadPairReturnsTheStatusRecord : Prop :=
  (∀ (s : State) (tag : Octet) (p : PairNo), ReadyFor ⟨0x31, tag, [BitVec.ofNat 8 p.val]⟩ s →
    exec (.readPair tag [BitVec.ofNat 8 p.val]) s = .next (answered ⟨0x31, tag, [BitVec.ofNat 8 p.val]⟩ 0
      ([BitVec.ofNat 8 p.val, BitVec.ofNat 8 (s.pair p).state.code, BitVec.ofNat 8 (s.pair p).reason.code,
        if (s.pair p).enabled then 1 else 0, if (s.port p).present then 1 else 0,
        if (s.port p).guard = .active then 2 else 1, BitVec.ofNat 8 (lineCode (s.port p).report.line)]
        ++ be2 (s.port p).report.upRate ++ be2 (s.port p).report.downRate
        ++ [BitVec.ofNat 8 (s.port p).report.upDelay, BitVec.ofNat 8 (s.port p).report.downDelay,
            BitVec.ofNat 8 (s.pair p).derate]
        ++ be2 ((s.port p).report.upRate * (s.pair p).derate / 100)
        ++ [BitVec.ofNat 8 (s.port p).queue.length, BitVec.ofNat 8 ((s.port p).queue.countP (·.handed))]
        ++ be2 (((s.port p).queue.map fun e => e.frag.payload.length + 8).sum - (s.port p).takenFromHead)
        ++ [BitVec.ofNat 8 (s.pair p).flaps.length, BitVec.ofNat 8 (timerCode (s.pair p).stateTimer)]
        ++ be4 (match (s.pair p).stateTimer with | some (_, d) => d - s.now | none => 0)
        ++ [if (s.pair p).outboundJoined then 1 else 0, if (s.mark p).isSome then 1 else 0]
        ++ be2 ((s.mark p).getD 0).toNat) s)) ∧
  (∀ (s : State) (tag o : Octet), 7 < o.toNat → ReadyFor ⟨0x31, tag, [o]⟩ s →
    exec (.readPair tag [o]) s = .next (answered ⟨0x31, tag, [o]⟩ 5 [] s))

/-- PROBE-PAIR returns the two verdicts of the table of R69, and in QUARANTINE the seconds remaining, and changes
nothing; a pair number above 7 and a mode outside the two are refused. That the seconds are 0 outside QUARANTINE is the
model's choice [31]. -/
def Obligations.ProbePairGivesTheVerdicts : Prop :=
  (∀ (s : State) (tag : Octet) (p : PairNo) (abort : Bool),
    let body : List Octet := [BitVec.ofNat 8 p.val, if abort then 2 else 1]
    let gives (enable disable : Octet) (seconds : Nat) : Prop :=
      exec (.probePair tag body) s = .next (answered ⟨0x13, tag, body⟩ 0 ([enable, disable] ++ be2 seconds) s)
    ReadyFor ⟨0x13, tag, body⟩ s →
    (s.mgmt.fitted ≤ p.val → gives 4 4 (if (s.pair p).state = .quarantine then penaltySeconds s p else 0)) ∧
    (p.val < s.mgmt.fitted →
      ((s.pair p).state = .vacant → gives 5 5 0) ∧
      ((s.pair p).state = .parked →
        gives (if s.mgmt.released then 1 else if (s.pair p).enabled then 3 else 2)
          (if (s.pair p).enabled then 9 else 3) 0) ∧
      ((s.pair p).state = .training ∨ (s.pair p).state = .settling ∨ (s.pair p).state = .joining → gives 3 9 0) ∧
      ((s.pair p).state = .active → gives 3 8 0) ∧
      ((s.pair p).state = .leaving → (s.pair p).reason ≠ .host → gives 3 8 0) ∧
      ((s.pair p).state = .leaving → (s.pair p).reason = .host → (s.pair p).leaveForm = .graceful →
        gives 10 (if abort then 8 else 10) 0) ∧
      ((s.pair p).state = .leaving → (s.pair p).reason = .host → (s.pair p).leaveForm = .abort → gives 10 10 0) ∧
      (∀ d, (s.pair p).state = .quarantine → (s.pair p).stateTimer = some (.penalty, d) →
        gives 6 9 ((d - s.now + 999) / 1000)) ∧
      ((s.pair p).state = .faulted → gives 7 7 0))) ∧
  (∀ (s : State) (tag o m : Octet), 7 < o.toNat ∨ (m ≠ 1 ∧ m ≠ 2) → ReadyFor ⟨0x13, tag, [o, m]⟩ s →
    exec (.probePair tag [o, m]) s = .next (answered ⟨0x13, tag, [o, m]⟩ 5 [] s))

/-- A frame's header is read from its octets, and a rule matches a header by its field under its mask (R87, R88, R89).
TRY-CLASSIFY names the first in-use rule that matches the described header, its action and the min-length verdict, or the
default class; it counts nothing. A field beyond its width is refused; the length is brought into range (R94, R90). -/
def Obligations.TryClassifyNamesTheFirstMatch : Prop :=
  (∀ f : List Octet, 60 ≤ f.length →
    let octet (i : Nat) : Nat := (f.getD i 0).toNat
    let pair (i : Nat) : Nat := octet i * 256 + octet (i + 1)
    let tagged : Bool := pair 12 == 0x8100
    let l3 : Nat := if tagged then 18 else 14
    headerOf f =
      { etherType := pair (l3 - 2),
        tag := if tagged then some (octet 14 / 32, pair 14 % 4096) else none,
        dstMac := (pair 0 * 65536 + pair 2) * 65536 + pair 4,
        ipv4 := if pair (l3 - 2) = 0x0800 ∧ octet l3 / 16 = 4 then some (octet (l3 + 1) / 4, octet (l3 + 9)) else none,
        length := f.length }) ∧
  (∀ (r : Rule) (h : Header),
    let compared : Option Nat := match r.selector with
      | .etherType => some h.etherType
      | .vlanPcp => h.tag.map fun t => t.1
      | .vlanId => h.tag.map fun t => t.2
      | .dstMac => some h.dstMac
      | .ipv4Dscp => h.ipv4.map fun t => t.1
      | .ipv4Protocol => h.ipv4.map fun t => t.2
      | .any => none
    r.matchesHeader h = true ↔ r.inUse = true ∧ (r.selector = .any ∨
      ∃ v, compared = some v ∧ ∀ i, r.mask.getLsbD i = true → v.testBit i = r.value.getLsbD i)) ∧
  (∀ (s : State) (tag : Octet) (body : List Octet), body.length = 17 → ReadyFor ⟨0x22, tag, body⟩ s →
    let h : Header :=
      { etherType := field body 0 2,
        tag := if field body 2 1 = 1 then some (field body 3 1, field body 4 2) else none,
        dstMac := field body 6 6,
        ipv4 := if field body 12 1 = 1 ∧ field body 0 2 = 0x0800 then some (field body 13 1, field body 14 1) else none,
        length := min 1518 (max 60 (field body 15 2)) }
    let status := if 60 ≤ field body 15 2 ∧ field body 15 2 ≤ 1518 then 0 else 1
    let bad := 1 < field body 2 1 ∨ 7 < field body 3 1 ∨ 4095 < field body 4 2 ∨ 1 < field body 12 1 ∨
      63 < field body 13 1
    (bad → exec (.tryClassify tag body) s = .next (answered ⟨0x22, tag, body⟩ 5 [] s)) ∧
    (¬bad → ∀ i : Fin 64, (s.rule i).matchesHeader h = true → (∀ j, j < i → (s.rule j).matchesHeader h = false) →
      exec (.tryClassify tag body) s = .next (answered ⟨0x22, tag, body⟩ status
        [BitVec.ofNat 8 i.val, BitVec.ofNat 8 (s.rule i).action.code,
         if ∃ m, (s.rule i).minLength = some m ∧ h.length < m then 1 else 0] s)) ∧
    (¬bad → (∀ i : Fin 64, (s.rule i).matchesHeader h = false) →
      exec (.tryClassify tag body) s = .next (answered ⟨0x22, tag, body⟩ status
        [0xFF, BitVec.ofNat 8 (s.cfg.defaultClass.val + 1), 0] s)))

/-- READ-COUNTERS returns a group's counters in their order and zeroes them as they are read when clear is yes; other
groups stay; a group or a clear field out of range is refused (R190). READ-GAPS removes the oldest records, up to 8, and
returns them oldest first with the number left (R160, laid out by R184). -/
def Obligations.ReadCountersAndGapsTakeOut : Prop :=
  (∀ (s : State) (tag : Octet) (clear : Bool),
    let body : List Octet := [0x10, if clear then 1 else 0]
    ReadyFor ⟨0x33, tag, body⟩ s →
    exec (.readCounters tag body) s = .next (answered ⟨0x33, tag, body⟩ 0 ([0x10] ++ s.counters.toList.flatMap be4)
      (if clear then { s with counters := Vector.replicate 44 0 } else s))) ∧
  (∀ (s : State) (tag : Octet) (clear : Bool) (p : PairNo),
    let body : List Octet := [BitVec.ofNat 8 p.val, if clear then 1 else 0]
    ReadyFor ⟨0x33, tag, body⟩ s →
    exec (.readCounters tag body) s = .next (answered ⟨0x33, tag, body⟩ 0
      ([BitVec.ofNat 8 p.val] ++ (s.pair p).counters.toList.flatMap be4)
      (if clear then s.modPair p fun r => { r with counters := Vector.replicate 12 0 } else s))) ∧
  (∀ (s : State) (tag g c : Octet), (7 < g.toNat ∧ g ≠ 0x10) ∨ 1 < c.toNat → ReadyFor ⟨0x33, tag, [g, c]⟩ s →
    exec (.readCounters tag [g, c]) s = .next (answered ⟨0x33, tag, [g, c]⟩ 5 [] s)) ∧
  (∀ (s : State) (tag : Octet), ReadyFor ⟨0x29, tag, []⟩ s →
    exec (.readGaps tag []) s = .next (answered ⟨0x29, tag, []⟩ 0
      ([BitVec.ofNat 8 (s.rx.gaps.length - 8), BitVec.ofNat 8 (min 8 s.rx.gaps.length)]
        ++ (s.rx.gaps.take 8).flatMap fun g =>
          be2 g.first.toNat ++ be2 g.count ++ [BitVec.ofNat 8 g.cause.code, g.live] ++ be4 (g.time % 4294967296))
      { s with rx := { s.rx with gaps := s.rx.gaps.drop 8 } }))

/-! ### Requests: settings -/

/-- CONFIGURE-BOND: a selection beyond the twelve fields and a default class above 3 are refused, a change of identity
is refused while released; else every selected setting takes its value brought into range, every other keeps its own,
the reply carries the twelve settings, and beside them only T_reorder changes: it is computed afresh over the live pairs,
and kept while there is none (R177, R178, R155, R156). -/
def Obligations.ConfigureBondAppliesSelectedSettings : Prop :=
  ∀ (s : State) (tag : Octet) (body : List Octet), body.length = 20 → ReadyFor ⟨0x02, tag, body⟩ s →
    let m : Message := ⟨0x02, tag, body⟩
    let sel (i : Nat) : Bool := (field body 0 2).testBit i
    let bond := max 1 (field body 17 2)
    let changes := (sel 10 = true ∧ bond ≠ s.mgmt.bondId.toNat) ∨ (sel 11 = true ∧ field body 19 1 ≠ s.mgmt.epoch.toNat)
    (4096 ≤ field body 0 2 → exec (.configureBond tag body) s = .next (answered m 5 [] s)) ∧
    (field body 0 2 < 4096 → sel 1 = true → 3 < field body 4 1 →
      exec (.configureBond tag body) s = .next (answered m 5 [] s)) ∧
    (field body 0 2 < 4096 → (sel 1 = true → field body 4 1 ≤ 3) → s.mgmt.released = true → changes →
      exec (.configureBond tag body) s = .next (answered m 4 [] s)) ∧
    (field body 0 2 < 4096 → (sel 1 = true → field body 4 1 ≤ 3) → (s.mgmt.released = true → ¬changes) →
      ∃ t clamped, exec (.configureBond tag body) s = .next t ∧
        (clamped = true ↔ ∃ i r, settingRows[i]? = some r ∧ sel i = true ∧
          (field body r.offset r.width < r.low ∨ r.high < field body r.offset r.width)) ∧
        (∀ i r old, settingRows[i]? = some r → s.settings[i]? = some old → t.settings[i]? =
          some (if sel i then min r.high (max r.low (field body r.offset r.width)) else old)) ∧
        t = answered m (if clamped then 1 else 0) (settingOctets t.settings)
          { s with
            cfg := t.cfg, mgmt := { s.mgmt with bondId := t.mgmt.bondId, epoch := t.mgmt.epoch },
            rx := { s.rx with tReorder := t.rx.tReorder } } ∧
        ((∀ p, s.mark p = none) → t.rx.tReorder = s.rx.tReorder) ∧ ((∃ p, (s.mark p).isSome = true) → ReorderTime t))

/-- RELEASE sets the released flag and moves every PARKED pair by its start test, leaving every other pair and port
alone; in a released part it is refused (R179, R41). -/
def Obligations.ReleaseStartsEnabledPairs : Prop :=
  ∀ (s : State) (tag : Octet), ReadyFor ⟨0x03, tag, []⟩ s →
    (s.mgmt.released = true → exec (.release tag []) s = .next (answered ⟨0x03, tag, []⟩ 4 [] s)) ∧
    (s.mgmt.released = false → ∃ t, exec (.release tag []) s = .next t ∧
      t.mgmt = { (answered ⟨0x03, tag, []⟩ 0 [] s).mgmt with released := true, notices := t.mgmt.notices } ∧
      t.cfg = s.cfg ∧ t.rules = s.rules ∧ t.now = s.now ∧
      ∀ p,
        ((s.pair p).state ≠ .parked → t.pair p = s.pair p ∧ t.port p = s.port p) ∧
        ((s.pair p).state = .parked → (s.pair p).enabled = false →
          t.pair p = { s.pair p with reason := .host } ∧ t.port p = s.port p) ∧
        ((s.pair p).state = .parked → (s.pair p).enabled = true → (s.port p).guard = .clear →
          (t.pair p).state = .training ∧ (t.pair p).reason = .host ∧ (t.port p).order = .train) ∧
        ((s.pair p).state = .parked → (s.pair p).enabled = true → (s.port p).guard = .active →
          (t.pair p).state = .faulted ∧ (t.pair p).reason = .fault ∧ (t.port p).order = .quiet))

/-- RESET-BOND restarts the bond at every block and keeps the configuration and the counters; residue is cleared where the
order QUIET is sent, and no cell stays in use (R182, R35, R70, R82, R83, R102, R122, R145, R165, R12). -/
def Obligations.ResetBondRestartsEveryBlock : Prop :=
  ∀ (s : State) (tag : Octet), ReadyFor ⟨0x04, tag, []⟩ s →
    ∃ t, exec (.resetBond tag []) s = .next t ∧
      t.mgmt = { (answered ⟨0x04, tag, []⟩ 0 [] s).mgmt with
        released := false, epoch := s.mgmt.epoch + 1, notices := t.mgmt.notices } ∧
      t.now = s.now ∧ t.cfg = s.cfg ∧ t.rules = s.rules ∧ t.cells.rOut = s.cells.rOut ∧ t.cells.rIn = s.cells.rIn ∧
      (∀ p, (t.port p).queue = [] ∧ (t.port p).takenFromHead = 0 ∧ (t.port p).present = (s.port p).present ∧
        (t.port p).silence = (s.port p).silence ∧ (t.port p).guard = (s.port p).guard ∧
        (t.port p).debounce = (s.port p).debounce ∧ (t.port p).report = (s.port p).report) ∧
      (∀ p, (t.pair p).flaps = [] ∧ (t.pair p).stateTimer = none ∧ (t.pair p).joinRepeat = none ∧
        (t.pair p).progressTimer = none ∧ (t.pair p).waitAck = none ∧ (t.pair p).waitJoin = false ∧
        (t.pair p).waitLeave = none ∧ (t.pair p).outRef = none ∧ (t.pair p).renewal = false ∧
        (t.pair p).enabled = (s.pair p).enabled ∧ (t.pair p).derate = (s.pair p).derate) ∧
      (∀ p, p.val < s.mgmt.fitted → (s.pair p).state ≠ .vacant →
        (t.pair p).hostDisable = false ∧ (t.port p).order = .quiet ∧
        ((s.port p).guard = .active → (t.pair p).state = .faulted ∧ (t.pair p).reason = .fault) ∧
        ((s.port p).guard = .clear → (t.pair p).state = .parked ∧
          (t.pair p).reason = if (s.pair p).enabled then .notReleased else .host)) ∧
      (∀ p, (s.pair p).state = .vacant → (t.pair p).state = .vacant ∧ (t.pair p).reason = (s.pair p).reason) ∧
      (∀ c, t.cls c = { s.cls c with frames := [] }) ∧
      t.disp = { next := 0, split := none, held := false, standing := true } ∧
      t.rx.synced = false ∧ t.rx.nes = 0 ∧ t.rx.peerEpoch = 0 ∧ t.rx.window = [] ∧ (∀ p, t.mark p = none) ∧
      t.rx.gapTimer = none ∧ t.rx.paused = false ∧ t.rx.flush = none ∧ t.rx.gaps = [] ∧
      t.rx.tReorder = s.rx.tReorder ∧ t.asm = .idle ∧ t.lan.txQueue = [] ∧ t.lan.linkUp = s.lan.linkUp ∧
      (∀ p, p.val < s.mgmt.fitted → (s.pair p).state ≠ .vacant →
        ((s.port p).order = .quiet → (s.port p).residue = []) → (t.port p).residue = []) ∧
      (∀ p, (s.pair p).state = .vacant → (t.port p).residue = (s.port p).residue) ∧
      (∀ p c, (s.pair p).counter c ≤ 4294967295 → (t.pair p).counter c = (s.pair p).counter c) ∧
      (∀ c, c ≠ .pressureEntries → s.counter c ≤ 4294967295 → t.counter c = s.counter c) ∧
      (WindowLaw s → CellsAccounted s → t.cells.usedOut = 0 ∧ t.cells.usedIn = 0 ∧
        (s.cells.level = s.cells.levelNow → t.cells.level = .empty))

/-- A request is granted whole or fails whole by what its side can still take, a return gives its cells back, and after
each pressure and the store level are evaluated (R73, R74, R79, R80). CONFIGURE-MEMORY refuses values out of range, then
refuses while released or while cells are in use; else the reserves take the new values, the Reorder Engine has the
pressure told, and the reply is OK (R81, R152). The last is said of a part with an empty store, as it is whenever no
inbound cell is in use. -/
def Obligations.CellsAreSharedOut : Prop :=
  (∀ (s : State) (side : Side) (n : Nat),
    let c := s.cells
    let free := (3072 - c.rOut - c.rIn) - (c.usedOut - c.rOut) - (c.usedIn - c.rIn)
    let avail := match side with
      | .outbound => (c.rOut - c.usedOut) + free
      | .inbound => (c.rIn - c.usedIn) + free
    let uses (m : Nat) (t : State) : Prop := CellsFrame s t ∧ Evaluated s t ∧ t.cells.used side = m ∧
      (∀ other, other ≠ side → t.cells.used other = c.used other) ∧ t.cells.rOut = c.rOut ∧ t.cells.rIn = c.rIn
    (avail < n → requestCells side n s = none) ∧
    (n ≤ avail → ∃ t, requestCells side n s = some t ∧ uses (c.used side + n) t) ∧
    uses (c.used side - n) (returnCells side n s)) ∧
  (∀ (s : State) (tag : Octet) (body : List Octet), body.length = 4 → ReadyFor ⟨0x18, tag, body⟩ s →
    let rOut := field body 0 2
    let rIn := field body 2 2
    let bad := rOut < 12 ∨ rIn < 12 ∨ 3072 < rOut + rIn
    let blocked := s.mgmt.released = true ∨ s.cells.usedOut ≠ 0 ∨ s.cells.usedIn ≠ 0
    (bad → exec (.configureMemory tag body) s = .next (answered ⟨0x18, tag, body⟩ 5 [] s)) ∧
    (¬bad → blocked → exec (.configureMemory tag body) s = .next (answered ⟨0x18, tag, body⟩ 4 [] s)) ∧
    (¬bad → ¬blocked → s.rx.window = [] → ∃ t, exec (.configureMemory tag body) s = .next t ∧
      t.cells.rOut = rOut ∧ t.cells.rIn = rIn ∧ t.cells.pressure = decide (3072 - rOut < 24) ∧
      t.cells.level = .empty ∧
      (s.cells.tells = [] → s.rx.pressureFlag = s.cells.pressure → t.rx.pressureFlag = t.cells.pressure) ∧
      t.counter .pressureEntries = (if s.cells.pressure = false ∧ t.cells.pressure = true
        then countUp (s.counter .pressureEntries) 1 else s.counter .pressureEntries) ∧ InboundFrame (answered ⟨0x18, tag, body⟩ 0 [] s) t))

/-- WRITE-RULE tests index, named values and widths, brings a min length into range, and replaces the whole record with
hits at 0 (R92, laid out by R184). -/
def Obligations.WriteRuleReplacesTheRecord : Prop :=
  ∀ (s : State) (tag : Octet) (body : List Octet), body.length = 18 → ReadyFor ⟨0x20, tag, body⟩ s →
    let value := field body 4 6
    let mask := field body 10 6
    let len := field body 16 2
    (63 < field body 0 1 ∨ 1 < field body 1 1 ∨ field body 2 1 < 1 ∨ 7 < field body 2 1 ∨ field body 3 1 < 1 ∨
        5 < field body 3 1 → exec (.writeRule tag body) s = .next (answered ⟨0x20, tag, body⟩ 5 [] s)) ∧
    (∀ (i : Fin 64) (inUse : Bool) (selector : Selector) (action : Action),
      field body 0 1 = i.val → field body 1 1 = (if inUse then 1 else 0) → field body 2 1 = selector.code →
      field body 3 1 = action.code →
      (2 ^ selector.width ≤ value ∨ 2 ^ selector.width ≤ mask →
        exec (.writeRule tag body) s = .next (answered ⟨0x20, tag, body⟩ 5 [] s)) ∧
      (value < 2 ^ selector.width → mask < 2 ^ selector.width →
        exec (.writeRule tag body) s = .next (answered ⟨0x20, tag, body⟩
          (if len = 0 ∨ (60 ≤ len ∧ len ≤ 1518) then 0 else 1) []
          (s.setRule i
            { inUse := inUse, selector := selector, value := BitVec.ofNat 48 value, mask := BitVec.ofNat 48 mask,
              minLength := if len = 0 then none else some (min 1518 (max 60 len)), action := action, hits := 0 }))))

/-- CONFIGURE-CLASS brings the limits into range, keeps the frames, and raises QUEUE-FULL when the queue goes from not
full to full; a class above 3 is refused (R98). -/
def Obligations.ConfigureClassSetsTheLimits : Prop :=
  ∀ (s : State) (tag : Octet) (body : List Octet), body.length = 5 → ReadyFor ⟨0x23, tag, body⟩ s →
    (3 < field body 0 1 → exec (.configureClass tag body) s = .next (answered ⟨0x23, tag, body⟩ 5 [] s)) ∧
    (∀ c : Fin 4, field body 0 1 = c.val →
      let limit := min 256 (max 1 (field body 1 2))
      let age := if c = 3 then 0 else min 1000 (field body 3 2)
      let q : ClassQueue := { frames := (s.cls c).frames, limit := limit, ageLimit := age }
      let status := if limit = field body 1 2 ∧ age = field body 3 2 then 0 else 1
      let s' : State := { s with classes := s.classes.set c.val q }
      exec (.configureClass tag body) s = .next (answered ⟨0x23, tag, body⟩ status []
        (if limit ≤ (s.cls c).frames.length ∧ (s.cls c).frames.length < (s.cls c).limit
         then s'.raise (.queueFull c) else s')))

/-- FLUSH-REORDER is refused while a flush is in flight, is answered OK on an empty store, and else is ACCEPTED, counts
FLUSHES and, at the end of the gap step that follows, is over or still has the highest stored sequence as its target.
Where the LAN transmit queue has room for what the store can complete, the whole store is handed on, COMMAND-DONE is
raised, and a first gap that is not overtaken is declared lost with cause FLUSH (R157, R158, R149, R150). -/
def Obligations.FlushReorderFollowsItsTable : Prop :=
  ∀ (s : State) (tag : Octet), ReadyFor ⟨0x28, tag, []⟩ s →
    (s.rx.flush.isSome = true → exec (.flushReorder tag []) s = .next (answered ⟨0x28, tag, []⟩ 3 [] s)) ∧
    (s.rx.flush = none → s.rx.window = [] → exec (.flushReorder tag []) s = .next (answered ⟨0x28, tag, []⟩ 0 [] s)) ∧
    (∀ r, s.rx.flush = none → r ∈ s.rx.window → (∀ q ∈ s.rx.window, dist q.seq s.rx.nes ≤ dist r.seq s.rx.nes) →
      (∀ q ∈ s.rx.window, dist q.seq s.rx.nes = dist r.seq s.rx.nes → q = r) →
      ∃ t, exec (.flushReorder tag []) s = .next t ∧
        t.counter .flushes = countUp (s.counter .flushes) 1 ∧ (t.rx.flush = none ∨ t.rx.flush = some r.seq) ∧
        InboundFrame (answered ⟨0x28, tag, []⟩ 2 [] s) t ∧
        (WindowLaw s → s.rx.paused = false → s.lan.txQueue.length + s.rx.window.countP (·.fin) ≤ 8 →
          t.rx.flush = none ∧ t.rx.window = [] ∧ t.rx.nes = r.seq + 1 ∧ t.rx.gapTimer = none ∧
          (s.mgmt.mask.getLsbD 2 = false → t.occurrences .flushDone = min (s.occurrences .flushDone + 1) 255) ∧
          (∀ low ∈ s.rx.window, (∀ q ∈ s.rx.window, dist low.seq s.rx.nes ≤ dist q.seq s.rx.nes) →
            low.seq ≠ s.rx.nes → s.rx.gaps = [] → (∃ q mq, s.mark q = some mq ∧ ahead mq s.rx.nes = false) →
            ∃ rest, t.rx.gaps = { first := s.rx.nes, count := dist low.seq s.rx.nes, cause := .flush,
                                  live := s.liveSet, time := s.now } :: rest)))

/-! ### Requests: pairs -/

/-- CONFIGURE-PAIR brings the derate into 50 to 100 and answers OK or OK-CLAMPED; it then makes the rate test of a
SETTLING pair whose holdoff is served [23] and of an ACTIVE pair, which leaves with a LEAVE placed or waiting (R68, R45,
R55, R56). The last fragment of a frame, held or waiting in a stopped run ([32]), is decided afresh and placed on the pair
where the new rate and the pair allow it; of a stopped run that is said where, once this request has left the input buffer,
no event waits for which the run may stop again (R118, R114, R115, R116). A pair at or above the fitted count and a pair number
above 7 are refused. -/
def Obligations.ConfigurePairSetsTheDerate : Prop :=
  (∀ (s : State) (tag o d : Octet), 7 < o.toNat → ReadyFor ⟨0x10, tag, [o, d]⟩ s →
    exec (.configurePair tag [o, d]) s = .next (answered ⟨0x10, tag, [o, d]⟩ 5 [] s)) ∧
  (∀ (s : State) (tag d : Octet) (p : PairNo),
    let body : List Octet := [BitVec.ofNat 8 p.val, d]
    let m : Message := ⟨0x10, tag, body⟩
    let derate := min 100 (max 50 d.toNat)
    let rate := (s.port p).report.upRate * derate / 100
    let status := if 50 ≤ d.toNat ∧ d.toNat ≤ 100 then 0 else 1
    ReadyFor m s →
    (s.mgmt.fitted ≤ p.val → exec (.configurePair tag body) s = .next (answered m 4 [] s)) ∧
    (p.val < s.mgmt.fitted → ∃ t, exec (.configurePair tag body) s = .next t ∧ (t.pair p).derate = derate ∧
      LifeFrame p (answered m status [] s) t ∧ t.now = s.now ∧
      ((s.pair p).state = .settling → (s.pair p).stateTimer = none → 64 ≤ rate →
        (t.pair p).state = .joining ∧ (t.pair p).reason = (s.pair p).reason) ∧
      ((s.pair p).state = .settling → (s.pair p).stateTimer = none → rate < 64 →
        (t.pair p).state = .settling ∧ (t.pair p).reason = .lowRate) ∧
      ((s.pair p).state = .active → 64 ≤ rate → (t.pair p).state = .active ∧ (t.pair p).reason = (s.pair p).reason) ∧
      ((s.pair p).state = .active → rate < 64 → (t.pair p).state = .leaving ∧ (t.pair p).reason = .lowRate ∧
        (t.pair p).leaveForm = .graceful ∧ (t.pair p).stateTimer = some (.leave, s.now + s.cfg.leaveTimeout) ∧
        LeavePlaced p .lowRate s t) ∧
      ((s.pair p).state = .settling ∧ (s.pair p).stateTimer ≠ none ∨
          ((s.pair p).state ≠ .settling ∧ (s.pair p).state ≠ .active) →
        t.pair p = { s.pair p with derate := derate }) ∧
      (∀ plan ref, (s.pair p).state = .active → (∀ q, q ≠ p → (s.pair q).state ≠ .active) → 64 ≤ rate →
        s.disp.split = some plan → plan.current = plan.k → s.disp.held = true →
        s.disp.midRun = false ∨
          ({ s with mgmt := { s.mgmt with inbox := s.mgmt.inbox.drop 1 } } : State).eventWaits = false →
        (∀ c, (s.cls c).frames = []) →
        (s.pair p).outRef = some ref → dist s.disp.next ref ≤ 8190 →
        (s.port p).queue.length < 4 → (s.port p).backlog + plan.size ≤ 3072 →
        t.disp = { next := s.disp.next + 1, split := none, held := false, standing := true } ∧
        (t.port p).queue.map (·.frag) = (s.port p).queue.map (·.frag) ++ [plan.fragment s.disp.next] ∧
        (t.pair p).outRef = some (s.disp.next + 1) ∧ (t.pair p).renewal = false ∧
        t.cells.usedOut = s.cells.usedOut - plan.cells ∧
        t.counter .fragmentsDispatched = countUp (s.counter .fragmentsDispatched) 1 ∧
        t.counter .framesDispatched = countUp (s.counter .framesDispatched) 1 ∧
        t.counter .dispatchHolds = s.counter .dispatchHolds)))

/-- ENABLE-PAIR by the table of R66, with the order sent when it changes and not when it stays (R19); a pair at or above
the fitted count and a pair number above 7 are refused. -/
def Obligations.EnablePairFollowsItsTable : Prop :=
  (∀ (s : State) (tag o : Octet), 7 < o.toNat → ReadyFor ⟨0x11, tag, [o]⟩ s →
    exec (.enablePair tag [o]) s = .next (answered ⟨0x11, tag, [o]⟩ 5 [] s)) ∧
  (∀ (s : State) (tag : Octet) (p : PairNo),
    let body : List Octet := [BitVec.ofNat 8 p.val]
    let m : Message := ⟨0x11, tag, body⟩
    ReadyFor m s →
    (s.mgmt.fitted ≤ p.val → exec (.enablePair tag body) s = .next (answered m 4 [] s)) ∧
    (p.val < s.mgmt.fitted →
      ((s.pair p).state = .leaving → (s.pair p).reason = .host →
        exec (.enablePair tag body) s = .next (answered m 3 [] s)) ∧
      ((s.pair p).state ≠ .parked → ((s.pair p).state ≠ .leaving ∨ (s.pair p).reason ≠ .host) →
        exec (.enablePair tag body) s = .next (answered m 0 [] (s.modPair p fun r => { r with enabled := true }))) ∧
      ((s.pair p).state = .parked → s.mgmt.released = false → exec (.enablePair tag body) s =
        .next (answered m 0 [] (s.modPair p fun r => { r with enabled := true, reason := .notReleased }))) ∧
      ((s.pair p).state = .parked → s.mgmt.released = true →
        ∃ t, exec (.enablePair tag body) s = .next t ∧ (t.pair p).enabled = true ∧
          ((s.port p).guard = .clear →
            (t.pair p).state = .training ∧ (t.pair p).reason = .host ∧ (t.port p).order = .train ∧
            (t.port p).sent = (s.port p).sent ++ (if (s.port p).order = .train then [] else [.order .train])) ∧
          ((s.port p).guard = .active →
            (t.pair p).state = .faulted ∧ (t.pair p).reason = .fault ∧ (t.port p).order = .quiet ∧
            (t.port p).sent = (s.port p).sent ++ (if (s.port p).order = .quiet then [] else [.order .quiet])) ∧
          LifeFrame p (answered m 0 [] s) t ∧ t.now = s.now)))

/-- DISABLE-PAIR by the table of R67. In no leave, the flag is cleared, VACANT, PARKED and FAULTED stay, and TRAINING,
SETTLING, JOINING and QUARANTINE go to PARKED with an empty queue; the reply is OK. A leave is started, upgraded or met:
ACCEPTED with the flag cleared and host disable pending, or REFUSED-BUSY (R56, R57, R63). A graceful leave places its
LEAVE or lets it wait. An abort withdraws the STAGED entries, counting their DATA WITHDRAWN, and places a LEAVE behind the
HANDED ones unless ours is HANDED or taken (R32, R57); what the queue then holds is said of a queue that keeps its law,
with nothing waiting. The last ACTIVE pair's leaving purges the outbound half (R101). A pair at or above the fitted count,
a pair number above 7 and a mode outside the two are refused. -/
def Obligations.DisablePairFollowsItsTable : Prop :=
  (∀ (s : State) (tag o mode : Octet), 7 < o.toNat ∨ (mode ≠ 1 ∧ mode ≠ 2) → ReadyFor ⟨0x12, tag, [o, mode]⟩ s →
    exec (.disablePair tag [o, mode]) s = .next (answered ⟨0x12, tag, [o, mode]⟩ 5 [] s)) ∧
  (∀ (s : State) (tag : Octet) (p : PairNo) (abort : Bool),
      let body : List Octet := [BitVec.ofNat 8 p.val, if abort then 2 else 1]
      let m : Message := ⟨0x12, tag, body⟩
      ReadyFor m s →
      (s.mgmt.fitted ≤ p.val → exec (.disablePair tag body) s = .next (answered m 4 [] s)) ∧
      (p.val < s.mgmt.fitted →
        ((s.pair p).state = .vacant ∨ (s.pair p).state = .faulted → exec (.disablePair tag body) s =
          .next (answered m 0 [] (s.modPair p fun r => { r with enabled := false }))) ∧
        ((s.pair p).state = .parked → exec (.disablePair tag body) s =
          .next (answered m 0 [] (s.modPair p fun r => { r with enabled := false, reason := .host }))) ∧
        ((s.pair p).state = .training ∨ (s.pair p).state = .settling ∨ (s.pair p).state = .joining ∨
            (s.pair p).state = .quarantine →
          ∃ t, exec (.disablePair tag body) s = .next t ∧ (t.pair p).enabled = false ∧ (t.pair p).state = .parked ∧
            (t.pair p).reason = .host ∧ (t.pair p).stateTimer = none ∧ (t.port p).order = .quiet ∧
            (t.port p).queue = [] ∧ LifeFrame p (answered m 0 [] s) t ∧ t.now = s.now))) ∧
  (∀ (s : State) (tag : Octet) (p : PairNo) (abort : Bool),
      let body : List Octet := [BitVec.ofNat 8 p.val, if abort then 2 else 1]
      let m : Message := ⟨0x12, tag, body⟩
      ReadyFor m s → p.val < s.mgmt.fitted →
      ((s.pair p).state = .leaving → (s.pair p).reason = .host → (abort = false ∨ (s.pair p).leaveForm ≠ .graceful) →
        exec (.disablePair tag body) s = .next (answered m 3 [] s)) ∧
      ((s.pair p).state = .leaving → (s.pair p).reason ≠ .host → abort = false →
        exec (.disablePair tag body) s = .next (answered m 2 []
          (s.modPair p fun r => { r with enabled := false, hostDisable := true, reason := .host }))) ∧
      ((s.pair p).state = .active ∨
          ((s.pair p).state = .leaving ∧ abort = true ∧
            ((s.pair p).reason ≠ .host ∨ (s.pair p).leaveForm = .graceful)) →
        ∃ t, exec (.disablePair tag body) s = .next t ∧ (t.pair p).state = .leaving ∧ (t.pair p).reason = .host ∧
          (t.pair p).leaveForm = (if abort then .abort else .graceful) ∧ (t.pair p).enabled = false ∧
          (t.pair p).hostDisable = true ∧ LifeFrame p (answered m 2 [] s) t ∧ t.now = s.now ∧
          ((s.pair p).state = .active → (t.pair p).stateTimer = some (.leave, s.now + s.cfg.leaveTimeout)) ∧
          ((s.pair p).state = .leaving →
            (t.pair p).stateTimer = (s.pair p).stateTimer ∧ (t.pair p).peerLeft = (s.pair p).peerLeft) ∧
          ((s.pair p).state = .active → (∀ q, q ≠ p → (s.pair q).state ≠ .active) → Purged s t) ∧
          (abort = false → LeavePlaced p .host s t) ∧
          (abort = true → LineQueueLaw (s.port p) → (s.pair p).waitAck = none → (s.pair p).waitJoin = false →
            (s.pair p).renewal = false →
            let handed := (s.port p).queue.filter (·.handed)
            let staged := (s.port p).queue.filter fun e => !e.handed
            let gone := (s.pair p).state = .leaving ∧ ((s.pair p).leaveTaken = true ∨
              ∃ e ∈ handed, ∃ why, e.frag = .leave why)
            (staged ≠ [] → handed.length + (s.port p).residue.length = 2) →
            (t.pair p).waitLeave = none ∧ (t.port p).takenFromHead = (s.port p).takenFromHead ∧
            (staged.countP (·.frag.isData) ≠ 0 → (t.pair p).counter .withdrawn =
              countUp ((s.pair p).counter .withdrawn) (staged.countP (·.frag.isData))) ∧
            (gone → (t.port p).queue.map (·.frag) = handed.map (·.frag)) ∧
            (¬gone → (t.port p).queue.map (·.frag) = handed.map (·.frag) ++ [.leave .abort]))))

/-! ### Port messages -/

/-- What a Pair Port discards has no effect: an unknown message, a TAKEN that counts no octet, and a TAKEN or FRAGMENT of
an absent transceiver (R17, R22). A fragment too short, with a wrong check word, or with a right check word over anything
but an allowed fragment, is counted and discarded (R13, R14). -/
def Obligations.DiscardedMessagesHaveNoEffect : Prop :=
  (∀ (s : State) (p : PairNo) (octets : List Octet) (n : BitVec 16),
    exec (.portUnknownMessage p octets) s = .next s ∧ exec (.taken p 0) s = .next s ∧
    ((s.port p).present = false →
      exec (.taken p n) s = .next s ∧ exec (.fragmentReceived p octets) s = .next s)) ∧
  (∀ (s : State) (p : PairNo) (octets : List Octet), p.val < s.mgmt.fitted → (s.port p).present = true →
    let s1 := s.countPair p .fragmentsReceived
    let n := octets.length
    (n < 8 → exec (.fragmentReceived p octets) s = .next (s1.countPair p .malformed)) ∧
    (8 ≤ n → (crc16 (octets.take (n - 2))).toNat ≠ field octets (n - 2) 2 →
      exec (.fragmentReceived p octets) s = .next (s1.countPair p .badCheck)) ∧
    (8 ≤ n → (crc16 (octets.take (n - 2))).toNat = field octets (n - 2) 2 →
      (∀ f, FragmentAllowed p f → octets ≠ f.octets) →
      exec (.fragmentReceived p octets) s = .next (s1.countPair p .malformed)))

/-- The first REPORT makes the transceiver present and moves the VACANT pair through PARKED by its guard and its start
test; each change of state raises PAIR-STATE, and each change of order is sent (R19, R20, R21, R39, R41, R42, R187). -/
def Obligations.FirstReportMakesThePairPresent : Prop :=
  ∀ (s : State) (p : PairNo) (line : LineState) (up down : BitVec 16) (upDelay downDelay : BitVec 8),
    p.val < s.mgmt.fitted → (s.port p).present = false → (s.pair p).state = .vacant →
    ∃ t, exec (.report p line up down upDelay downDelay) s = .next t ∧ t.now = s.now ∧ LifeFrame p s t ∧
      (t.port p).present = true ∧ (t.port p).silence = some (s.now + 500) ∧
      (t.port p).report = { line := line, upRate := min up.toNat 16000, downRate := min down.toNat 16000,
                            upDelay := min upDelay.toNat 63, downDelay := min downDelay.toNat 63 } ∧
      (t.pair p).enabled = (s.pair p).enabled ∧ (t.pair p).counter .faults = (s.pair p).counter .faults ∧
      (let sends (l : List PortMessage) : Prop :=
         (s.port p).order = .unordered → (t.port p).sent = (s.port p).sent ++ l
       ((s.port p).guard = .active → (t.pair p).state = .faulted ∧ (t.pair p).reason = .fault ∧
         (t.port p).order = .quiet ∧ sends [.order .quiet] ∧ StateTold p 2 s t) ∧
       ((s.port p).guard = .clear → (s.pair p).enabled = true → s.mgmt.released = true →
         (t.pair p).state = .training ∧ (t.pair p).reason = .host ∧ (t.port p).order = .train ∧
         sends [.order .quiet, .order .train] ∧ StateTold p 2 s t) ∧
       ((s.port p).guard = .clear → ¬((s.pair p).enabled = true ∧ s.mgmt.released = true) →
         (t.pair p).state = .parked ∧ (t.pair p).reason = (if (s.pair p).enabled then .notReleased else .host) ∧
         (t.port p).order = .quiet ∧ sends [.order .quiet] ∧ StateTold p 1 s t))

/-- A REPORT from a present transceiver is kept clamped and restarts the silence timer. An order it disagrees with, QUIET
with TRAINING or SHOWTIME and TRAIN with IDLE, is sent again; with the gate open the order goes out behind the STAGED
fragments that the credit allows once the residue is cleared, and before an order QUIET of the state the pair then goes to
([20], [30]). It moves TRAINING to SETTLING on SHOWTIME, leaves JOINING and
LEAVING as they are, makes the rate tests, of which a failed one on an ACTIVE pair places a LEAVE, and with SHOWTIME
computes T_reorder afresh when the pair is live (R19, R20, R21, R44, R45, R55, R56, R155, R156). That the holdoff counts
as served when no state timer runs is the model's reading [23]. -/
def Obligations.ReportIsKeptAndActedOn : Prop :=
  ∀ (s : State) (p : PairNo) (line : LineState) (up down : BitVec 16) (upDelay downDelay : BitVec 8),
    p.val < s.mgmt.fitted → (s.port p).present = true →
    let rate := min up.toNat 16000 * (s.pair p).derate / 100
    ∃ t, exec (.report p line up down upDelay downDelay) s = .next t ∧ t.now = s.now ∧ LifeFrame p s t ∧
      (t.port p).present = true ∧ (t.port p).silence = some (s.now + 500) ∧
      (t.port p).report = { line := line, upRate := min up.toNat 16000, downRate := min down.toNat 16000,
                            upDelay := min upDelay.toNat 63, downDelay := min downDelay.toNat 63 } ∧
      ((s.pair p).state = .parked ∨ (s.pair p).state = .quarantine ∨ (s.pair p).state = .faulted →
        t.pair p = s.pair p ∧
        ((s.port p).order = .quiet → (t.port p).sent =
          (s.port p).sent ++ (if line = .idle then [] else [.order .quiet]))) ∧
      ((s.pair p).state = .training → (s.port p).order = .train → line ≠ .showtime → (t.port p).sent =
        (s.port p).sent ++ (if line = .idle then [.order .train] else [])) ∧
      ((s.pair p).state = .settling ∨ (s.pair p).state = .joining ∨ (s.pair p).state = .active ∨
          (s.pair p).state = .leaving → (s.port p).order = .train → line = .idle → LineQueueLaw (s.port p) →
        let staged := (s.port p).queue.filter fun e => !e.handed
        (t.port p).sent = (s.port p).sent
          ++ ((staged.take (2 - (s.port p).queue.countP (·.handed))).map fun e => .fragment e.frag)
          ++ [.order .train] ++ (if (t.pair p).state = .training then [] else [.order .quiet])) ∧
      ((s.pair p).state = .joining ∨ (s.pair p).state = .leaving → (s.port p).order = .train → line = .showtime →
        t.pair p = s.pair p ∧ (t.port p).queue.map (·.frag) = (s.port p).queue.map (·.frag) ∧
        (LineQueueLaw (s.port p) →
          HandedOver true (s.port p).sent (s.port p).queue (s.port p).residue (t.port p))) ∧
      ((s.pair p).state = .training → line = .showtime →
        (t.pair p).state = .settling ∧ (t.pair p).reason = (s.pair p).reason ∧
        (t.pair p).stateTimer = some (.holdoff, s.now + s.cfg.holdoff)) ∧
      ((s.pair p).state = .training → line ≠ .showtime → t.pair p = s.pair p) ∧
      ((s.pair p).state = .settling → line = .showtime →
        ((s.pair p).stateTimer ≠ none → t.pair p = s.pair p) ∧
        ((s.pair p).stateTimer = none → 64 ≤ rate →
          (t.pair p).state = .joining ∧ (t.pair p).reason = (s.pair p).reason ∧
          (t.pair p).stateTimer = some (.join, s.now + s.cfg.joinTimeout * 1000)) ∧
        ((s.pair p).stateTimer = none → rate < 64 →
          (t.pair p).state = .settling ∧ (t.pair p).reason = .lowRate ∧ (t.pair p).stateTimer = none)) ∧
      ((s.pair p).state = .active → line = .showtime →
        (64 ≤ rate → (t.pair p).state = .active ∧ (t.pair p).reason = (s.pair p).reason) ∧
        (rate < 64 → (t.pair p).state = .leaving ∧ (t.pair p).reason = .lowRate ∧ (t.pair p).leaveForm = .graceful ∧
          (t.pair p).stateTimer = some (.leave, s.now + s.cfg.leaveTimeout) ∧ LeavePlaced p .lowRate s t)) ∧
      ((s.pair p).state = .joining ∨ (s.pair p).state = .active ∨ (s.pair p).state = .leaving → line = .showtime →
        (s.mark p).isSome = true → ReorderTime t)

/-- A REPORT without SHOWTIME is a retrain from SETTLING and a line drop from JOINING, ACTIVE and LEAVING: the queue is
emptied without residue, its DATA counted LOST-ON-DROP, the pair leaves the live set, the time enters the flap history,
and a pending host disable, the flap test or neither decides the target; the last ACTIVE pair's loss purges the outbound
half (R46, R61, R62, R63, R31, R101). -/
def Obligations.LineLossRetrains : Prop :=
  ∀ (s : State) (p : PairNo) (line : LineState) (up down : BitVec 16) (upDelay downDelay : BitVec 8),
    p.val < s.mgmt.fitted → (s.port p).present = true → line ≠ .showtime →
    ((s.pair p).state = .settling ∨ (s.pair p).state = .joining ∨ (s.pair p).state = .active ∨
      (s.pair p).state = .leaving) →
    let old := (s.pair p).flaps
    let flaps := (if old.length < 8 then old else old.drop 1) ++ [s.now]
    let reached := s.cfg.flapThreshold ≤ flaps.countP fun t => s.now - t ≤ s.cfg.flapWindow * 1000
    let parks := (s.pair p).state ≠ .settling ∧ (s.pair p).hostDisable = true
    ∃ t, exec (.report p line up down upDelay downDelay) s = .next t ∧ t.now = s.now ∧ LifeFrame p s t ∧
      (t.pair p).counter .retrains = countUp ((s.pair p).counter .retrains) 1 ∧
      (t.port p).queue = [] ∧ (t.port p).residue = [] ∧ LostOnDrop p s t ∧ t.mark p = none ∧
      ((s.pair p).state = .active → (∀ q, q ≠ p → (s.pair q).state ≠ .active) → Purged s t) ∧
      (parks → (t.pair p).state = .parked ∧
        (t.pair p).reason = (if (s.pair p).enabled then .notReleased else .host) ∧
        (t.pair p).hostDisable = false ∧ (t.pair p).flaps = flaps) ∧
      (¬parks → reached → (t.pair p).state = .quarantine ∧ (t.pair p).reason = .flapping ∧ (t.pair p).flaps = [] ∧
        (t.pair p).stateTimer = some (.penalty, s.now + s.cfg.penalty * 1000)) ∧
      (¬parks → ¬reached → (t.pair p).state = .training ∧ (t.pair p).reason = .lineDrop ∧ (t.pair p).flaps = flaps ∧
        (t.pair p).stateTimer = none)

/-- A TAKEN report covers the residue and then the HANDED entries from the head; what it covers is counted, its excess
is counted once and dropped, and an emptied queue starts the progress timer of an ACTIVE pair. Where it has lowered the
backlog, what waits for room is tried in its order, JOIN-ACK, JOIN, LEAVE and the pending renewal, each against the room
the one before left; what finds none waits on. With the gate open the first STAGED entries that the freed credit allows are
then sent in queue order and become HANDED; else every entry stays as it is (R28, R29, R30, R26, R27, R48, R9, R54). Said
where no fragment is held and, of a LEAVING pair, where no LEAVE is HANDED. -/
def Obligations.TakenCoversInOrder : Prop :=
  ∀ (s : State) (p : PairNo) (n : BitVec 16), p.val < s.mgmt.fitted → (s.port p).present = true → n ≠ 0 →
    s.disp.held = false → LineQueueLaw (s.port p) →
    ((s.pair p).state = .leaving → ∀ e ∈ (s.port p).queue, e.handed = true → ∀ why, e.frag ≠ .leave why) →
    let x := s.port p
    let r := s.pair p
    let queued := ((x.queue.filter (·.handed)).map fun e => e.frag.size).sum - x.takenFromHead
    let total := x.residue.sum + queued
    let covered := min (n.toNat - x.residue.sum) queued
    let wanting : List (Option Fragment) :=
      [r.waitAck.map fun w => .joinAck s.mgmt.bondId w.1 w.2,
       if r.waitJoin then some (.join s.disp.next s.mgmt.bondId p s.mgmt.epoch) else none,
       r.waitLeave.map .leave, if r.renewal then some (.progress s.disp.next) else none]
    let put (q : List Fragment × Nat × List Bool) (f : Option Fragment) : List Fragment × Nat × List Bool :=
      match f with
      | some f => if q.1.length < 4 ∧ q.2.1 + f.size ≤ 3072 then (q.1 ++ [f], q.2.1 + f.size, q.2.2 ++ [false])
          else (q.1, q.2.1, q.2.2 ++ [true])
      | none => (q.1, q.2.1, q.2.2 ++ [false])
    ∃ t k, exec (.taken p n) s = .next t ∧ t.now = s.now ∧ LifeFrame p s t ∧
      (let kept := (x.queue.drop k).map (·.frag)
       let filled := if covered = 0 then (kept, x.backlog, wanting.map (·.isSome))
         else wanting.foldl put (kept, x.backlog - covered, [])
       let placed := (filled.1.drop (x.queue.length - k)).map fun f => ({ frag := f, handed := false } : Entry)
       let gate := r.state = .settling ∨ r.state = .joining ∨ r.state = .active ∨ r.state = .leaving
       (t.port p).queue.map (·.frag) = filled.1 ∧ (t.port p).backlog = filled.2.1 ∧
       HandedOver (decide gate) x.sent (x.queue.drop k ++ placed) (t.port p).residue (t.port p) ∧
       [(t.pair p).waitAck.isSome, (t.pair p).waitJoin, (t.pair p).waitLeave.isSome, (t.pair p).renewal] = filled.2.2 ∧
       ((t.pair p).waitAck.isSome = true → (t.pair p).waitAck = r.waitAck) ∧
       ((t.pair p).waitLeave.isSome = true → (t.pair p).waitLeave = r.waitLeave)) ∧
      (t.pair p).state = r.state ∧ (t.pair p).reason = r.reason ∧
      (t.pair p).counter .octetsSent = countUp (r.counter .octetsSent) (min n.toNat total) ∧
      (t.pair p).counter .fragmentsSent =
        countUp (r.counter .fragmentsSent) (k + (x.residue.length - (t.port p).residue.length)) ∧
      (t.pair p).counter .takenExcess =
        (if total < n.toNat then countUp (r.counter .takenExcess) 1 else r.counter .takenExcess) ∧
      (t.port p).residue.sum = x.residue.sum - n.toNat ∧ LineQueueLaw (t.port p) ∧
      (r.state = .active → k ≠ 0 → (t.port p).queue = [] →
        (t.pair p).progressTimer = some (s.now + s.cfg.progressInterval))

/-! ### Fragments received -/

/-- The checks of a received fragment pass just the octets that encode a fragment R2, R3 and R14 allow, and give that
fragment (R1, R13, R14, R184). -/
def Obligations.ChecksPassJustTheEncodings : Prop :=
  ∀ (p : PairNo) (octets : List Octet) (f : Fragment),
    checkFragment p octets = .good f ↔ FragmentAllowed p f ∧ octets = f.octets

/-- An arriving DATA fragment is discarded NOT-JOINED when its pair is not live; else it moves the pair's mark forward
and is classified by its distance from NES (R131, R136 to R140). -/
def Obligations.ArrivingDataIsClassified : Prop :=
  ∀ (s : State) (p : PairNo) (start fin : Bool) (seq : Seq) (payload : List Octet),
    p.val < s.mgmt.fitted → (s.port p).present = true → s.disp.held = false →
    1 ≤ payload.length → payload.length ≤ 512 →
    let c := Instr.fragmentReceived p (Fragment.data start fin seq payload).octets
    let s1 := s.countPair p .fragmentsReceived
    let d := dist seq s.rx.nes
    (s.mark p = none → exec c s = .next ((s1.count .dataArrived).count .notJoined)) ∧
    (∀ m, s.mark p = some m → ∃ t, exec c s = .next t ∧ InboundFrame s1 t ∧
      t.counter .dataArrived = countUp (s.counter .dataArrived) 1 ∧
      t.mark p = some (if ahead (seq + 1) m then seq + 1 else m) ∧ (∀ q, q ≠ p → t.mark q = s.mark q) ∧
      (d < 1024 → (∃ r ∈ s.rx.window, slotOf r.seq = slotOf seq) →
        t.counter .duplicate = countUp (s.counter .duplicate) 1) ∧
      (d < 1024 → (∀ r ∈ s.rx.window, slotOf r.seq ≠ slotOf seq) → s.cells.availIn < ceilDiv payload.length 128 →
        t.counter .inboundNoCells = countUp (s.counter .inboundNoCells) 1) ∧
      (1024 ≤ d → d ≤ 8191 → t.counter .windowSlides = countUp (s.counter .windowSlides) 1) ∧
      (8192 ≤ d → t.counter .stale = countUp (s.counter .stale) 1))

/-- DATA stored ahead of NES leaves the gap at NES open. While another live pair's mark is not ahead of NES, no flush is in
flight and no pressure holds, it joins the store and the gap is timed with T_reorder, a timer that runs keeping its
deadline. Where it is the only record, the missing run is declared lost and the fragment handed on at once: as OVERTAKEN
when every live mark is ahead of NES, else as PRESSURE while the pressure flag is set (R137, R147, R149, R150, R151, R152,
R153, R159). -/
def Obligations.DataAheadOfNesOpensAGap : Prop :=
  ∀ (s : State) (p : PairNo) (start fin : Bool) (seq m : Seq) (payload : List Octet),
    p.val < s.mgmt.fitted → (s.port p).present = true → s.disp.held = false →
    1 ≤ payload.length → payload.length ≤ 512 → s.mark p = some m → s.rx.synced = true →
    s.rx.paused = false → s.rx.flush = none → s.cells.tells = [] →
    let cells := ceilDiv payload.length 128
    let nes := s.rx.nes
    let mark := if ahead (seq + 1) m then seq + 1 else m
    let new : FragRecord := { seq := seq, start := start, fin := fin, cells := cells, payload := payload }
    let behindOne := ∃ q mq, q ≠ p ∧ s.mark q = some mq ∧ ahead mq nes = false
    let quiet := s.rx.pressureFlag = false ∧ s.cells.pressure = false ∧ 24 + cells ≤ s.cells.availIn
    let pressed := s.rx.pressureFlag = true ∧ s.cells.pressure = true ∧ cells ≤ s.cells.availIn ∧ s.cells.availIn < 24
    1 ≤ dist seq nes → dist seq nes ≤ 1023 → quiet ∨ pressed →
    ∃ t, exec (.fragmentReceived p (Fragment.data start fin seq payload).octets) s = .next t ∧
      InboundFrame (s.countPair p .fragmentsReceived) t ∧
      (behindOne → quiet → (∀ r ∈ s.rx.window, slotOf r.seq ≠ slotOf nes ∧ slotOf r.seq ≠ slotOf seq) →
        (∀ r, r ∈ t.rx.window ↔ r ∈ s.rx.window ∨ r = new) ∧ t.rx.window.length = s.rx.window.length + 1 ∧
        t.rx.nes = nes ∧ t.rx.gapTimer = some (s.rx.gapTimer.getD (s.now + s.rx.tReorder)) ∧
        t.rx.gaps = s.rx.gaps ∧ t.asm = s.asm ∧ t.lan.txQueue = s.lan.txQueue ∧
        t.cells.usedIn = s.cells.usedIn + cells) ∧
      (let passed := ahead mark nes = true ∧ ∀ q mq, q ≠ p → s.mark q = some mq → ahead mq nes = true
       passed ∨ pressed → s.rx.window = [] → s.rx.gaps = [] → s.lan.txQueue.length < 8 →
        t.rx.window = [] ∧ t.rx.nes = seq + 1 ∧ t.rx.gapTimer = none ∧
        t.counter .lostSequences = countUp (s.counter .lostSequences) (dist seq nes) ∧
        (passed → t.rx.gaps =
          [{ first := nes, count := dist seq nes, cause := .overtaken, live := s.liveSet, time := s.now }]) ∧
        (¬passed → t.rx.gaps =
          [{ first := nes, count := dist seq nes, cause := .pressure, live := s.liveSet, time := s.now }]))

/-- DATA beyond the window slides it: the stored records of the run up to the new front are handed on, the missing
stretches are declared lost with cause WINDOW, NES becomes the front, and the fragment is stored. A walk that completes a
frame for a full LAN transmit queue discards it as SLIDE-OVERRUN and goes on, also past a paused record (R140, R141, R148,
R150). Said where another live pair's mark is not ahead of the new front, the front itself is not stored, and cells are
plenty. -/
def Obligations.WindowSlidesForward : Prop :=
  ∀ (s : State) (p : PairNo) (start fin : Bool) (seq m : Seq) (payload : List Octet),
    p.val < s.mgmt.fitted → (s.port p).present = true → s.disp.held = false →
    1 ≤ payload.length → payload.length ≤ 512 → s.mark p = some m → s.rx.synced = true → s.rx.flush = none →
    s.rx.pressureFlag = false → s.cells.tells = [] → s.cells.pressure = false → WindowLaw s → CellsAccounted s →
    (∀ r ∈ s.rx.window, r.payload.length ≤ 512 ∧ r.cells = ceilDiv r.payload.length 128) →
    let cells := ceilDiv payload.length 128
    let nes := s.rx.nes
    let front := seq - 1023
    let new : FragRecord := { seq := seq, start := start, fin := fin, cells := cells, payload := payload }
    let passed := s.rx.window.countP fun r => decide (dist r.seq nes < dist front nes)
    1024 ≤ dist seq nes → dist seq nes ≤ 8191 → 28 + cells ≤ s.cells.availIn →
    (∀ r ∈ s.rx.window, r.seq ≠ front) → (∃ q mq, q ≠ p ∧ s.mark q = some mq ∧ ahead mq front = false) →
    ∃ t, exec (.fragmentReceived p (Fragment.data start fin seq payload).octets) s = .next t ∧
      InboundFrame (s.countPair p .fragmentsReceived) t ∧
      t.rx.nes = front ∧ t.rx.paused = false ∧ t.rx.gapTimer = some (s.now + s.rx.tReorder) ∧
      t.mark p = some (if ahead (seq + 1) m then seq + 1 else m) ∧
      (∀ r, r ∈ t.rx.window ↔ (r ∈ s.rx.window ∧ dist front nes < dist r.seq nes) ∨ r = new) ∧
      t.counter .windowSlides = countUp (s.counter .windowSlides) 1 ∧
      (passed ≠ dist front nes → t.counter .lostSequences =
        countUp (s.counter .lostSequences) (dist front nes - passed)) ∧
      (s.rx.window = [] → s.rx.gaps = [] → t.rx.gaps =
        [{ first := nes, count := dist seq nes - 1023, cause := .window, live := s.liveSet, time := s.now }]) ∧
      (∀ r, s.rx.window = [r] → r.seq = nes → r.start = true → r.fin = true → 60 ≤ r.payload.length →
        s.asm = .idle → s.lan.linkUp = true →
        t.counter .framesDelivered = countUp (s.counter .framesDelivered) 1 ∧
        (s.lan.txQueue.length < 8 →
          t.lan.txQueue = s.lan.txQueue ++ [{ octets := r.payload, cells := r.cells }]) ∧
        (8 ≤ s.lan.txQueue.length → t.lan.txQueue = s.lan.txQueue ∧
          t.counter .slideOverrun = countUp (s.counter .slideOverrun) 1 ∧
          t.cells.usedIn = s.cells.usedIn - r.cells + cells))

/-- A whole frame that arrives at NES is delivered at once: to the LAN transmit queue, or counted LAN-DOWN, or, when it
is shorter than 60 octets, counted ASSEMBLY-MALFORMED. With the LAN transmit queue full and the link up it is stored and
delivery pauses: NES stays, and no gap is timed (R147, R148, R161, R162, R163). -/
def Obligations.WholeFrameAtNesIsDelivered : Prop :=
  ∀ (s : State) (p : PairNo) (m : Seq) (payload : List Octet),
    p.val < s.mgmt.fitted → (s.port p).present = true → s.disp.held = false →
    1 ≤ payload.length → payload.length ≤ 512 → s.mark p = some m → s.rx.synced = true → s.rx.window = [] →
    s.rx.paused = false → s.asm = .idle →
    let cells := ceilDiv payload.length 128
    let c := Instr.fragmentReceived p (Fragment.data true true s.rx.nes payload).octets
    (8 ≤ s.lan.txQueue.length → s.lan.linkUp = true → cells ≤ s.cells.availIn →
      ∃ t, exec c s = .next t ∧ InboundFrame (s.countPair p .fragmentsReceived) t ∧
        t.rx.paused = true ∧ t.rx.nes = s.rx.nes ∧ t.rx.gapTimer = none ∧ t.rx.gaps = s.rx.gaps ∧
        t.rx.window = [{ seq := s.rx.nes, start := true, fin := true, cells := cells, payload := payload }] ∧
        t.asm = .idle ∧ t.lan.txQueue = s.lan.txQueue ∧ t.cells.usedIn = s.cells.usedIn + cells) ∧
    (s.lan.txQueue.length < 8 → 2 * cells ≤ s.cells.availIn →
      ∃ t, exec c s = .next t ∧ InboundFrame (s.countPair p .fragmentsReceived) t ∧
        t.rx.nes = s.rx.nes + 1 ∧ t.rx.window = [] ∧ t.rx.gaps = s.rx.gaps ∧ t.asm = .idle ∧
        (payload.length < 60 → t.lan.txQueue = s.lan.txQueue ∧ t.cells.usedIn = s.cells.usedIn ∧
          t.counter .assemblyMalformed = countUp (s.counter .assemblyMalformed) 1) ∧
        (60 ≤ payload.length → t.counter .framesDelivered = countUp (s.counter .framesDelivered) 1 ∧
          (s.lan.linkUp = true → t.lan.txQueue = s.lan.txQueue ++ [{ octets := payload, cells := cells }] ∧
            t.cells.usedIn = s.cells.usedIn + cells) ∧
          (s.lan.linkUp = false → t.lan.txQueue = s.lan.txQueue ∧ t.cells.usedIn = s.cells.usedIn ∧
            t.counter .lanDown = countUp (s.counter .lanDown) 1)))

/-- A fragment that arrives at NES goes through the Frame Assembler's table: it begins, extends or completes a frame, with
its cells, or is dropped; ORPHAN, TRUNCATED, BROKEN, ASSEMBLY-OVERSIZE, ASSEMBLY-MALFORMED and ASSEMBLY-NO-CELLS are
counted as the table and its tests say (R161, R162, R163, R78, R147). That a fragment with END that is too long or finds no
cells leaves the Assembler DISCARDING too is the model's reading [13]. Said of an empty store with the LAN transmit queue
not full. -/
def Obligations.AssemblerFollowsItsTable : Prop :=
  ∀ (s : State) (p : PairNo) (m : Seq) (start fin : Bool) (payload : List Octet),
    p.val < s.mgmt.fitted → (s.port p).present = true → s.disp.held = false →
    1 ≤ payload.length → payload.length ≤ 512 → s.mark p = some m → s.rx.synced = true → s.rx.window = [] →
    s.rx.paused = false → s.lan.txQueue.length < 8 →
    (∀ octets held, s.asm = .collecting octets held → held = ceilDiv octets.length 128) →
    let cells := ceilDiv payload.length 128
    let used := s.cells.usedIn
    cells ≤ s.cells.availIn →
    ∃ t, exec (.fragmentReceived p (Fragment.data start fin s.rx.nes payload).octets) s = .next t ∧
      InboundFrame (s.countPair p .fragmentsReceived) t ∧ t.rx.nes = s.rx.nes + 1 ∧ t.rx.window = [] ∧
      (let counts (c : BondCounter) : Prop := t.counter c = countUp (s.counter c) 1
       let completes (octets : List Octet) (need held : Nat) : Prop := t.asm = .idle ∧
         (octets.length < 60 → t.cells.usedIn = used - held ∧ counts .assemblyMalformed) ∧
         (60 ≤ octets.length → counts .framesDelivered ∧
           (s.lan.linkUp = true → t.cells.usedIn = used + need - held ∧
             t.lan.txQueue = s.lan.txQueue ++ [{ octets := octets, cells := need }]) ∧
           (s.lan.linkUp = false → t.cells.usedIn = used - held ∧ t.lan.txQueue = s.lan.txQueue ∧ counts .lanDown))
       let begins (held : Nat) : Prop :=
         (2 * cells ≤ s.cells.availIn + held →
           (fin = false → t.asm = .collecting payload cells ∧ t.cells.usedIn = used + cells - held) ∧
           (fin = true → completes payload cells held)) ∧
         (s.cells.availIn + held < 2 * cells →
           t.asm = .discarding true ∧ t.cells.usedIn = used - held ∧ counts .assemblyNoCells)
       (s.asm = .idle → start = false → t.asm = .idle ∧ t.cells.usedIn = used ∧ counts .orphan) ∧
       (s.asm = .idle ∨ (∃ charged, s.asm = .discarding charged) → start = true → begins 0) ∧
       (∀ charged, s.asm = .discarding charged → start = false →
         t.asm = (if fin then .idle else .discarding true) ∧ t.cells.usedIn = used ∧
         (charged = false → counts .broken) ∧ (charged = true → t.counter .broken = s.counter .broken)) ∧
       (∀ octets held, s.asm = .collecting octets held → start = true → counts .truncated ∧ begins held) ∧
       (∀ octets held, s.asm = .collecting octets held → start = false →
         let length := octets.length + payload.length
         let need := ceilDiv length 128
         (1518 < length → t.asm = .discarding true ∧ t.cells.usedIn = used - held ∧ counts .assemblyOversize) ∧
         (length ≤ 1518 → cells + (need - held) ≤ s.cells.availIn →
           (fin = false → t.asm = .collecting (octets ++ payload) need ∧ t.cells.usedIn = used + (need - held)) ∧
           (fin = true → completes (octets ++ payload) need held)) ∧
         (length ≤ 1518 → s.cells.availIn < cells + (need - held) →
           t.asm = .discarding true ∧ t.cells.usedIn = used - held ∧ counts .assemblyNoCells)))

/-- A JOIN is answered by the pair's state and its bond id, the answer placed or made to wait. Accepted on a JOINING pair
it synchronises an UNSYNCED receiver on its mark and epoch, or joins the pair to the live set of a SYNCED one
(R48, R50, R51, R127, R130); a change of the live set brings T_reorder up to date (R156). -/
def Obligations.JoinIsAnswered : Prop :=
  ∀ (s : State) (p : PairNo) (m : Seq) (bond : BitVec 16) (echo : PairNo) (e : BitVec 8),
    p.val < s.mgmt.fitted → (s.port p).present = true → s.disp.held = false →
    let c := Instr.fragmentReceived p (Fragment.join m bond echo e).octets
    let s1 := s.countPair p .fragmentsReceived
    let room := (s.port p).queue.length < 4 ∧ (s.port p).backlog + 12 ≤ 3072
    let answer (result : JoinResult) (t : State) : Prop :=
      (t.pair p).state = (s.pair p).state ∧ (t.pair p).reason = (s.pair p).reason ∧ LifeFrame p s1 t ∧
      (room → (t.port p).queue.map (·.frag) =
        (s.port p).queue.map (·.frag) ++ [.joinAck s.mgmt.bondId echo result]) ∧
      (¬room → (t.port p).queue = (s.port p).queue ∧ (t.pair p).waitAck = some (echo, result))
    ((s.pair p).state = .vacant ∨ (s.pair p).state = .parked ∨ (s.pair p).state = .training ∨
        (s.pair p).state = .quarantine ∨ (s.pair p).state = .faulted → exec c s = .next s1) ∧
    ((s.pair p).state = .settling ∧ bond = s.mgmt.bondId →
      ∃ t, exec c s = .next t ∧ answer .notReady t ∧ t.rx = s.rx) ∧
    (((s.pair p).state = .settling ∨ (s.pair p).state = .joining ∨ (s.pair p).state = .active ∨
        (s.pair p).state = .leaving) ∧ bond ≠ s.mgmt.bondId →
      ∃ t, exec c s = .next t ∧ answer .wrongBond t ∧ t.rx = s.rx) ∧
    ((s.pair p).state = .joining → bond = s.mgmt.bondId → (s.pair p).outboundJoined = false →
      (s.rx.synced = false → WindowLaw s → ∃ t, exec c s = .next t ∧ answer .accept t ∧
        t.rx.synced = true ∧ t.rx.nes = m ∧ t.rx.peerEpoch = e ∧ t.mark p = some m ∧ (∀ q, q ≠ p → t.mark q = none) ∧
        t.counter .resyncs = countUp (s.counter .resyncs) 1 ∧ ReorderTime t) ∧
      (s.rx.synced = true → e = s.rx.peerEpoch → ∃ t, exec c s = .next t ∧ answer .accept t ∧
        t.rx.synced = true ∧ t.rx.peerEpoch = e ∧ (∀ q, q ≠ p → t.mark q = s.mark q) ∧
        t.mark p = some (match s.mark p with | none => m | some pm => if ahead m pm then m else pm) ∧
        (s.mark p = none → ReorderTime t)))

/-- A matching JOIN that is no peer restart, on an ACTIVE or LEAVING pair, is a re-join: a leave for the host ends in
PARKED and is not answered; any other pair starts the exchange anew, with a JOIN and an ACCEPT in its emptied queue and
the JOIN's mark in the live set (R60, R47, R51, R128, R130; the receiver resynchronised where no other pair was live and
the store empty [33]). The DATA of the queue is counted LOST-ON-DROP, and in SHOWTIME the untaken octets of its HANDED
entries join the residue behind what it held ([24]), which leaves that much less credit to hand the two over (R31, R27).
Accepted on a JOINING pair whose outbound direction is joined, a JOIN makes the pair ACTIVE or, at a low rate, LEAVING
(R51, R53, R55). -/
def Obligations.JoinOnAPairInTheExchange : Prop :=
  ∀ (s : State) (p : PairNo) (m : Seq) (echo : PairNo) (e : BitVec 8),
    p.val < s.mgmt.fitted → (s.port p).present = true → s.rx.synced = false ∨ e = s.rx.peerEpoch → WindowLaw s →
    let r := s.pair p
    let rate := (s.port p).report.upRate * r.derate / 100
    r.state = .active ∨ r.state = .leaving ∨ (r.state = .joining ∧ r.outboundJoined = true) →
    ∃ t, exec (.fragmentReceived p (Fragment.join m s.mgmt.bondId echo e).octets) s = .next t ∧ t.now = s.now ∧
      LifeFrame p s t ∧
      (r.state ≠ .joining → s.rx.synced = true ∨ r.state = .leaving → LostOnDrop p s t) ∧
      (r.state = .leaving → r.reason = .host →
        (t.pair p).state = .parked ∧ (t.pair p).reason = (if r.enabled then .notReleased else .host) ∧
        (t.pair p).hostDisable = false ∧ (t.port p).order = .quiet ∧ (t.port p).queue = [] ∧ t.mark p = none ∧
        (t.pair p).counter .retrains = r.counter .retrains ∧
        (r.hostDisable = true → s.mgmt.mask.getLsbD 2 = false →
          t.occurrences (.commandDone p) = min (s.occurrences (.commandDone p) + 1) 255)) ∧
      ((r.state = .active ∧ s.rx.synced = true) ∨ (r.state = .leaving ∧ r.reason ≠ .host) →
        (t.pair p).state = .joining ∧ (t.pair p).reason = .peerRestart ∧ (t.pair p).outboundJoined = false ∧
        (t.pair p).stateTimer = some (.join, s.now + s.cfg.joinTimeout * 1000) ∧
        (t.pair p).joinRepeat = some (s.now + 500) ∧ (t.pair p).outRef = some s.disp.next ∧
        (t.port p).queue.map (·.frag) =
          [.join s.disp.next s.mgmt.bondId p s.mgmt.epoch, .joinAck s.mgmt.bondId echo .accept] ∧
        (t.pair p).counter .retrains = r.counter .retrains ∧
        ((s.port p).order = .train → (s.port p).report.line = .showtime →
          (t.port p).residue = (s.port p).residue ++ (s.port p).uncovered ∧
          HandedOver true (s.port p).sent
            [{ frag := .join s.disp.next s.mgmt.bondId p s.mgmt.epoch, handed := false },
             { frag := .joinAck s.mgmt.bondId echo .accept, handed := false }] (t.port p).residue (t.port p)) ∧
        t.mark p = some m ∧ (∀ q, q ≠ p → t.mark q = s.mark q) ∧ t.rx.synced = true ∧ t.rx.peerEpoch = e ∧
        ReorderTime t ∧
        (r.state = .active → (∀ q, q ≠ p → (s.pair q).state ≠ .active) → Purged s t) ∧
        ((∃ q, q ≠ p ∧ (s.mark q).isSome = true) → t.counter .resyncs = s.counter .resyncs) ∧
        ((s.mark p).isSome = true ∨ s.rx.synced = false → (∀ q, q ≠ p → s.mark q = none) → s.rx.window = [] →
          t.rx.nes = m ∧ t.counter .resyncs = countUp (s.counter .resyncs) 1)) ∧
      (r.state = .joining → r.outboundJoined = true →
        (t.mark p).isSome = true ∧ t.rx.synced = true ∧ t.rx.peerEpoch = e ∧
        ((s.port p).queue.length < 4 → (s.port p).backlog + 12 ≤ 3072 → ∃ more, (t.port p).queue.map (·.frag) =
          (s.port p).queue.map (·.frag) ++ [.joinAck s.mgmt.bondId echo .accept] ++ more) ∧
        (64 ≤ rate → (t.pair p).state = .active ∧ (t.pair p).reason = r.reason ∧ (t.pair p).stateTimer = none) ∧
        (rate < 64 → (t.pair p).state = .leaving ∧ (t.pair p).reason = .lowRate ∧
          (t.pair p).stateTimer = some (.leave, s.now + s.cfg.leaveTimeout)))

/-- A JOIN-ACK acts only on a JOINING pair: ACCEPT joins the outbound direction and, with the pair live, makes it ACTIVE
or, at a low rate, LEAVING; NOT-READY restarts the join timer; WRONG-BOND and a foreign bond id quarantine the pair. Each
change of state raises PAIR-STATE. A pair that stays ACTIVE has a renewal that is due placed, or pending for want of room,
and its progress timer started over an empty queue (R49, R53, R54, R9, R55, R63, R39, R187); the last is said where no
fragment is held. That a pair without a reference has no renewal due is the model's choice [37]. -/
def Obligations.JoinAckIsTaken : Prop :=
  ∀ (s : State) (p : PairNo) (bond : BitVec 16) (result : JoinResult),
    p.val < s.mgmt.fitted → (s.port p).present = true →
    let c := Instr.fragmentReceived p (Fragment.joinAck bond p result).octets
    let s1 := s.countPair p .fragmentsReceived
    let rate := (s.port p).report.upRate * (s.pair p).derate / 100
    ((s.pair p).state ≠ .joining → s.disp.held = false → exec c s = .next s1) ∧
    ((s.pair p).state = .joining → bond ≠ s.mgmt.bondId ∨ result = .wrongBond →
      ∃ t, exec c s = .next t ∧ t.now = s.now ∧ LifeFrame p s t ∧ (t.pair p).state = .quarantine ∧
        (t.pair p).reason = .crossBond ∧ StateTold p 1 s t ∧ (t.pair p).flaps = [] ∧ (t.port p).order = .quiet ∧
        (t.port p).queue = [] ∧
        t.mark p = none ∧ (t.pair p).stateTimer = some (.penalty, s.now + s.cfg.penalty * 1000) ∧
        (t.pair p).counter .quarantines = countUp ((s.pair p).counter .quarantines) 1) ∧
    ((s.pair p).state = .joining → bond = s.mgmt.bondId → s.disp.held = false →
      (result = .notReady → exec c s =
        .next (s1.modPair p fun r => { r with stateTimer := some (.join, s.now + s.cfg.joinTimeout * 1000) })) ∧
      (result = .accept → (s.pair p).outboundJoined = true → exec c s = .next s1) ∧
      (result = .accept → (s.pair p).outboundJoined = false → s.mark p = none → exec c s =
        .next (s1.modPair p fun r => { r with outboundJoined := true, joinRepeat := none, waitJoin := false }))) ∧
    ((s.pair p).state = .joining → bond = s.mgmt.bondId → result = .accept → (s.pair p).outboundJoined = false →
      (s.mark p).isSome = true →
      ∃ t, exec c s = .next t ∧ t.now = s.now ∧ LifeFrame p s t ∧ t.mark p = s.mark p ∧
        (64 ≤ rate → (t.pair p).state = .active ∧ (t.pair p).reason = (s.pair p).reason ∧
          (t.pair p).stateTimer = none ∧ (t.pair p).joinRepeat = none ∧ (t.pair p).outboundJoined = false ∧
          StateTold p 1 s t ∧
          (s.disp.held = false →
            let due := ∃ ref, (s.pair p).outRef = some ref ∧ 4096 ≤ dist s.disp.next ref
            let room := (s.port p).queue.length < 4 ∧ (s.port p).backlog + 8 ≤ 3072
            (due → room → (t.port p).queue.map (·.frag) = (s.port p).queue.map (·.frag) ++ [.progress s.disp.next] ∧
              (t.pair p).outRef = some s.disp.next ∧ (t.pair p).renewal = false ∧ (t.pair p).progressTimer = none) ∧
            (¬(due ∧ room) → (t.port p).queue.map (·.frag) = (s.port p).queue.map (·.frag) ∧
              (t.pair p).outRef = (s.pair p).outRef ∧ (due → (t.pair p).renewal = true) ∧
              (¬due → (t.pair p).renewal = false) ∧ (t.pair p).progressTimer =
                if (s.port p).queue = [] then some (s.now + s.cfg.progressInterval) else none)) ∧
          ((∀ q, (s.pair q).state ≠ .active) → s.mgmt.mask.getLsbD 0 = false →
            t.occurrences .bondState = min (s.occurrences .bondState + 1) 255)) ∧
        (rate < 64 → (t.pair p).state = .leaving ∧ (t.pair p).reason = .lowRate ∧ (t.pair p).leaveForm = .graceful ∧
          StateTold p 2 s t ∧ (t.pair p).stateTimer = some (.leave, s.now + s.cfg.leaveTimeout)))

/-- A JOIN with a new epoch on a SYNCED receiver is a peer restart: the store is discarded under one gap record, and every
pair in the exchange starts it anew or, with a host disable pending, is parked with COMMAND-DONE; a flush in flight ends
with COMMAND-DONE, and the Frame Assembler loses its partial frame as BROKEN. Where the JOIN's own pair starts anew, the
JOIN is answered ACCEPT and the receiver is synchronised on it; where that pair is parked, the JOIN is not answered and the
receiver stays UNSYNCED (R65, R51, R67, R127, R128, R143, R161). -/
def Obligations.PeerRestartStartsAnew : Prop :=
  ∀ (s : State) (p : PairNo) (m : Seq) (echo : PairNo) (e : BitVec 8),
    p.val < s.mgmt.fitted → (s.port p).present = true → s.rx.synced = true → e ≠ s.rx.peerEpoch →
    let finished (i : NoticeInst) (t : State) : Prop :=
      s.mgmt.mask.getLsbD 2 = false → t.occurrences i = min (s.occurrences i + 1) 255
    let rejoins (q : PairNo) : Prop := (s.pair q).state = .joining ∨ (s.pair q).state = .active ∨
      ((s.pair q).state = .leaving ∧ (s.pair q).hostDisable = false)
    let parks (q : PairNo) : Prop := (s.pair q).state = .leaving ∧ (s.pair q).hostDisable = true
    rejoins p ∨ parks p →
    ∃ t, exec (.fragmentReceived p (Fragment.join m s.mgmt.bondId echo e).octets) s = .next t ∧ t.now = s.now ∧
      EventFrame s t ∧ t.counter .peerRestarts = countUp (s.counter .peerRestarts) 1 ∧
      t.rx.window = [] ∧ t.rx.flush = none ∧ (s.rx.flush.isSome = true → finished .flushDone t) ∧
      (rejoins p → t.rx.synced = true ∧ t.rx.nes = m ∧ t.rx.peerEpoch = e ∧ t.mark p = some m ∧
        t.counter .resyncs = countUp (s.counter .resyncs) 1 ∧
        (t.port p).queue.map (·.frag) =
          [.join s.disp.next s.mgmt.bondId p s.mgmt.epoch, .joinAck s.mgmt.bondId echo .accept]) ∧
      (parks p → t.rx.synced = false ∧ t.rx.nes = s.rx.nes ∧ t.rx.peerEpoch = s.rx.peerEpoch ∧ t.mark p = none ∧
        t.counter .resyncs = s.counter .resyncs ∧ (t.port p).queue = [] ∧ (t.pair p).waitAck = none) ∧
      (∀ q, q ≠ p → t.mark q = none) ∧
      t.asm = .idle ∧ t.counter .broken = (match s.asm with
        | .collecting _ _ => countUp (s.counter .broken) 1
        | _ => s.counter .broken) ∧
      (∀ q, (rejoins q → (t.pair q).state = .joining ∧ (t.pair q).reason = .peerRestart ∧
          (t.pair q).stateTimer = some (.join, s.now + s.cfg.joinTimeout * 1000)) ∧
        (parks q → (t.pair q).state = .parked ∧ (t.pair q).hostDisable = false ∧ finished (.commandDone q) t ∧
          (t.pair q).reason = (if (s.pair q).enabled then .notReleased else .host)) ∧
        (¬rejoins q → ¬parks q → (t.pair q).state = (s.pair q).state ∧ (t.pair q).reason = (s.pair q).reason)) ∧
      (s.rx.gaps = [] → s.rx.window = [] → t.rx.gaps = []) ∧
      (∀ r ∈ s.rx.window, (∀ q ∈ s.rx.window, dist q.seq s.rx.nes ≤ dist r.seq s.rx.nes) → s.rx.gaps = [] →
        t.rx.gaps = [{ first := s.rx.nes, count := dist r.seq s.rx.nes + 1, cause := .peerRestart, live := s.liveSet,
                       time := s.now }])

/-- A LEAVE acts by the pair's state; a PROGRESS moves a live pair's mark forward and is else ignored
(R58, R56, R132, R133). An ACTIVE pair's leave places its own LEAVE, or lets it wait, brings T_reorder up to date (R156)
and, of the last ACTIVE pair, purges the outbound half (R101). A LEAVE that completes a leave is stated apart. -/
def Obligations.LeaveAndProgressAreTaken : Prop :=
  ∀ (s : State) (p : PairNo), p.val < s.mgmt.fitted → (s.port p).present = true →
    let s1 := s.countPair p .fragmentsReceived
    (∀ why,
      let c := Instr.fragmentReceived p (Fragment.leave why).octets
      ((s.pair p).state = .active → ∃ t, exec c s = .next t ∧ t.now = s.now ∧ LifeFrame p s t ∧ t.mark p = none ∧
        (t.pair p).state = .leaving ∧ (t.pair p).reason = .peerLeave ∧ (t.pair p).leaveForm = .graceful ∧
        (t.pair p).peerLeft = true ∧ (t.pair p).stateTimer = some (.leave, s.now + s.cfg.leaveTimeout) ∧
        LeavePlaced p .peerLeave s t ∧
        ((s.mark p).isSome = true → (∃ q, q ≠ p ∧ (s.mark q).isSome = true) → ReorderTime t) ∧
        ((∀ q, q ≠ p → s.mark q = none) → t.rx.tReorder = s.rx.tReorder) ∧
        ((∀ q, q ≠ p → (s.pair q).state ≠ .active) → Purged s t)) ∧
      ((s.pair p).state = .joining → ∃ t, exec c s = .next t ∧ t.now = s.now ∧ LifeFrame p s t ∧ t.mark p = none ∧
        t.pair p = s1.pair p) ∧
      ((s.pair p).state = .leaving → (s.pair p).leaveTaken = false → ∃ t, exec c s = .next t ∧ t.now = s.now ∧
        LifeFrame p s t ∧ t.mark p = none ∧ t.pair p = { s1.pair p with peerLeft := true }) ∧
      ((s.pair p).state ≠ .active → (s.pair p).state ≠ .joining → (s.pair p).state ≠ .leaving →
        s.disp.held = false → exec c s = .next s1)) ∧
    (∀ m,
      let c := Instr.fragmentReceived p (Fragment.progress m).octets
      s.disp.held = false →
      (s.mark p = none ∨ (∃ pm, s.mark p = some pm ∧ ahead m pm = false) → exec c s = .next s1) ∧
      (∀ pm, s.mark p = some pm → ahead m pm = true → ∃ t, exec c s = .next t ∧ InboundFrame s1 t ∧
        t.mark p = some m ∧ ∀ q, q ≠ p → t.mark q = s.mark q))

/-! ### Silence, guard and timers

That an expiry command brings the time to the timer's deadline is the model's [2]. -/

/-- The silence timer's expiry makes the transceiver absent and the pair VACANT; a pending host disable is done; the loss
of the last ACTIVE pair purges the outbound half. The DATA of its queue is counted LOST-ON-DROP, and the change of state
raises PAIR-STATE (R21, R31, R43, R39, R101, R187). That the expiry brings the time to the timer's
deadline is the model's choice [2]. -/
def Obligations.SilenceMakesThePairVacant : Prop :=
  ∀ (s : State) (p : PairNo) (d : Nat), (s.port p).silence = some d →
    ∃ t, exec (.silenceTimerExpiry p) s = .next t ∧ t.now = max s.now d ∧ LifeFrame p s t ∧
      (t.port p).present = false ∧ (t.port p).silence = none ∧ (t.port p).queue = [] ∧
      (t.port p).takenFromHead = 0 ∧ (t.port p).residue = [] ∧ (t.port p).order = .unordered ∧
      LostOnDrop p s t ∧ StateTold p 1 s t ∧
      (t.port p).report = { line := .idle, upRate := 0, downRate := 0, upDelay := 0, downDelay := 0 } ∧
      ((s.pair p).state = .active → (∀ q, q ≠ p → (s.pair q).state ≠ .active) → Purged s t) ∧
      t.mark p = none ∧ (t.pair p).state = .vacant ∧ (t.pair p).reason = .silent ∧ (t.pair p).stateTimer = none ∧
      (t.pair p).hostDisable = false ∧ (t.pair p).enabled = (s.pair p).enabled ∧
      (t.pair p).flaps = (s.pair p).flaps ∧
      ((s.pair p).hostDisable = true → s.mgmt.mask.getLsbD 2 = false →
        t.occurrences (.commandDone p) = min (s.occurrences (.commandDone p) + 1) 255)

/-- The guard pin starts and stops the debounce timer by the table of R36. The timer's expiry changes the guard state:
ACTIVE faults every pair but a VACANT one, with a purge where it was the last ACTIVE one, and CLEAR lets a FAULTED pair go
on by its start test (R36, R64, R41, R101). That the pin's level is held beside the timer is the model's choice [15], and
so is that an expiry brings the time to the timer's deadline [2]. -/
def Obligations.GuardIsDebouncedAndMovesThePair : Prop :=
  (∀ (s : State) (p : PairNo), p.val < s.mgmt.fitted →
      let sets (asserted : Bool) (timer : Option Nat) : Prop :=
        exec (.lineGuardChange p asserted) s =
          .next (s.modPort p fun x => { x with guardPin := asserted, debounce := timer })
      ((s.port p).guard = .clear → (s.port p).debounce = none → sets true (some (s.now + 20))) ∧
      ((s.port p).guard = .clear → (s.port p).debounce ≠ none → sets true (s.port p).debounce) ∧
      ((s.port p).guard = .clear → sets false none) ∧
      ((s.port p).guard = .active → sets true none) ∧
      ((s.port p).guard = .active → (s.port p).debounce = none → sets false (some (s.now + 5000))) ∧
      ((s.port p).guard = .active → (s.port p).debounce ≠ none → sets false (s.port p).debounce)) ∧
  (∀ (s : State) (p : PairNo) (d : Nat), (s.port p).debounce = some d →
      ((s.port p).guard = .clear → ∃ t, exec (.guardAssertTimerExpiry p) s = .next t ∧ t.now = max s.now d ∧
        LifeFrame p s t ∧ (t.port p).guard = .active ∧ (t.port p).debounce = none ∧
        ((s.pair p).state = .vacant → t.pair p = s.pair p) ∧
        ((s.pair p).state = .active → (∀ q, q ≠ p → (s.pair q).state ≠ .active) → Purged s t) ∧
        ((s.pair p).state ≠ .vacant → (t.pair p).state = .faulted ∧ (t.pair p).reason = .fault ∧
          (t.pair p).stateTimer = none ∧ (t.pair p).hostDisable = false ∧ (t.port p).order = .quiet ∧
          (t.port p).queue = [] ∧ t.mark p = none ∧
          (t.pair p).counter .faults = countUp ((s.pair p).counter .faults) 1)) ∧
      ((s.port p).guard = .active → ∃ t, exec (.guardClearTimerExpiry p) s = .next t ∧ t.now = max s.now d ∧
        LifeFrame p s t ∧ (t.port p).guard = .clear ∧ (t.port p).debounce = none ∧
        ((s.pair p).state ≠ .faulted → (t.pair p).state = (s.pair p).state ∧ (t.pair p).reason = (s.pair p).reason) ∧
        ((s.pair p).state = .faulted → (s.pair p).enabled = true → s.mgmt.released = true →
          (t.pair p).state = .training ∧ (t.pair p).reason = (s.pair p).reason ∧ (t.port p).order = .train) ∧
        ((s.pair p).state = .faulted → ¬((s.pair p).enabled = true ∧ s.mgmt.released = true) →
          (t.pair p).state = .parked ∧ (t.pair p).reason = (if (s.pair p).enabled then .notReleased else .host) ∧
          (t.port p).order = .quiet)))

/-- The holdoff timer's expiry makes the rate test: a usable pair enters JOINING with its timers started and a JOIN
placed or waiting, and raises PAIR-STATE; a slow one stays in SETTLING with reason LOW-RATE, which raises nothing (R45, R47,
R6, R8, R39, R187). That the expiry brings the time to
the timer's deadline, from which the new timers are counted, is the model's choice [2]. -/
def Obligations.HoldoffExpiryTestsTheRate : Prop :=
  ∀ (s : State) (p : PairNo) (d : Nat), (s.pair p).state = .settling → (s.pair p).stateTimer = some (.holdoff, d) →
    let rate := (s.port p).report.upRate * (s.pair p).derate / 100
    let room := (s.port p).queue.length < 4 ∧ (s.port p).backlog + 12 ≤ 3072
    ∃ t, exec (.holdoffTimerExpiry p) s = .next t ∧ t.now = max s.now d ∧ LifeFrame p s t ∧
      (rate < 64 → (t.pair p).state = .settling ∧ (t.pair p).reason = .lowRate ∧ (t.pair p).stateTimer = none ∧
        t.occurrences (.pairState p) = s.occurrences (.pairState p)) ∧
      (64 ≤ rate → (t.pair p).state = .joining ∧ (t.pair p).reason = (s.pair p).reason ∧ StateTold p 1 s t ∧
        (t.pair p).outboundJoined = false ∧
        (t.pair p).stateTimer = some (.join, max s.now d + s.cfg.joinTimeout * 1000) ∧
        (t.pair p).joinRepeat = some (max s.now d + 500) ∧
        (room → (t.pair p).outRef = some s.disp.next ∧ (t.pair p).waitJoin = false ∧
          (t.port p).queue.map (·.frag) =
            (s.port p).queue.map (·.frag) ++ [.join s.disp.next s.mgmt.bondId p s.mgmt.epoch]) ∧
        (¬room → (t.pair p).waitJoin = true ∧
          (t.port p).queue.map (·.frag) = (s.port p).queue.map (·.frag)))

/-- The join repeat timer starts again at 500 ms and makes a further JOIN unless one is STAGED or waiting (R47). The join
timer's expiry quarantines the pair (R52, R63); the penalty timer's lets it go on by its start test (R63, R41). That an
expiry brings the time to the timer's deadline, from which the new timers are counted, is the model's choice [2]. -/
def Obligations.JoinAndPenaltyTimersExpire : Prop :=
  (∀ (s : State) (p : PairNo) (d : Nat), (s.pair p).joinRepeat = some d →
      let room := (s.port p).queue.length < 4 ∧ (s.port p).backlog + 12 ≤ 3072
      let staged := ∃ e ∈ (s.port p).queue, e.handed = false ∧ ∃ m b q x, e.frag = .join m b q x
      let timed (s : State) : State := s.modPair p fun r => { r with joinRepeat := some (s.now + 500) }
      let at' : State := { s with now := max s.now d }
      ((s.pair p).waitJoin = true ∨ staged → exec (.joinRepeatTimerExpiry p) s = .next (timed at')) ∧
      ((s.pair p).waitJoin = false → ¬staged → ¬room → exec (.joinRepeatTimerExpiry p) s =
        .next ((timed at').modPair p fun r => { r with waitJoin := true })) ∧
      ((s.pair p).waitJoin = false → ¬staged → room → ∃ t, exec (.joinRepeatTimerExpiry p) s = .next t ∧
        LifeFrame p s t ∧ t.now = max s.now d ∧ (t.pair p).joinRepeat = some (max s.now d + 500) ∧
        (t.pair p).state = (s.pair p).state ∧ (t.pair p).outRef = some s.disp.next ∧
        (t.port p).queue.map (·.frag) =
          (s.port p).queue.map (·.frag) ++ [.join s.disp.next s.mgmt.bondId p s.mgmt.epoch])) ∧
  (∀ (s : State) (p : PairNo) (d : Nat),
      ((s.pair p).stateTimer = some (.join, d) → ∃ t, exec (.joinTimerExpiry p) s = .next t ∧ t.now = max s.now d ∧
        LifeFrame p s t ∧ (t.pair p).state = .quarantine ∧ (t.pair p).reason = .joinTimeout ∧ (t.pair p).flaps = [] ∧
        (t.pair p).stateTimer = some (.penalty, max s.now d + s.cfg.penalty * 1000) ∧ (t.port p).order = .quiet ∧
        (t.port p).queue = [] ∧ t.mark p = none ∧
        (t.pair p).counter .quarantines = countUp ((s.pair p).counter .quarantines) 1) ∧
      ((s.pair p).stateTimer = some (.penalty, d) → ∃ t, exec (.penaltyTimerExpiry p) s = .next t ∧
        t.now = max s.now d ∧ LifeFrame p s t ∧ (t.pair p).stateTimer = none ∧
        ((s.pair p).enabled = true → s.mgmt.released = true →
          (t.pair p).state = .training ∧ (t.pair p).reason = (s.pair p).reason ∧ (t.port p).order = .train) ∧
        (¬((s.pair p).enabled = true ∧ s.mgmt.released = true) →
          (t.pair p).state = .parked ∧ (t.pair p).reason = (if (s.pair p).enabled then .notReleased else .host) ∧
          (t.port p).order = .quiet)))

/-- A leave completes when both LEAVEs are through, by the peer's LEAVE or by the TAKEN that retires ours, and by the
leave timer, which counts LEAVE-TIMEOUTS (R59). That the expiry brings the time to the timer's deadline is the model's
choice [2]. -/
def Obligations.LeaveCompletes : Prop :=
  ∀ (s : State) (p : PairNo), (s.pair p).state = .leaving →
    (∀ d, (s.pair p).stateTimer = some (.leave, d) → ∃ t, exec (.leaveTimerExpiry p) s = .next t ∧
      t.now = max s.now d ∧ LifeFrame p s t ∧ LeaveDone p s t ∧
      (t.pair p).counter .leaveTimeouts = countUp ((s.pair p).counter .leaveTimeouts) 1) ∧
    (∀ why, p.val < s.mgmt.fitted → (s.port p).present = true → (s.pair p).leaveTaken = true →
      ∃ t, exec (.fragmentReceived p (Fragment.leave why).octets) s = .next t ∧ t.now = s.now ∧ LifeFrame p s t ∧
        LeaveDone p s t) ∧
    (∀ why n, p.val < s.mgmt.fitted → (s.port p).present = true → (s.pair p).peerLeft = true →
      (s.port p).residue = [] → (s.port p).queue = [{ frag := .leave why, handed := true }] →
      n.toNat + (s.port p).takenFromHead = 9 → n ≠ 0 →
      ∃ t, exec (.taken p n) s = .next t ∧ t.now = s.now ∧ LifeFrame p s t ∧ LeaveDone p s t ∧
        (t.pair p).counter .fragmentsSent = countUp ((s.pair p).counter .fragmentsSent) 1)

/-- The progress timer's expiry places a PROGRESS whose mark is the next sequence number; the placement sets the outbound
reference and clears a pending renewal. With the gate open and a credit free it is handed over behind the STAGED entries
before it; else it stays STAGED and nothing is sent (R54, R6, R8, R9, R26, R27). That the expiry brings the time to the
timer's deadline is the model's choice [2]. Said where no fragment is held and the queue has room. -/
def Obligations.ProgressTimerPlacesAProgress : Prop :=
  ∀ (s : State) (p : PairNo) (d : Nat), (s.pair p).progressTimer = some d → s.disp.held = false →
    (s.port p).queue.length < 4 → (s.port p).backlog + 8 ≤ 3072 →
    ∃ t, exec (.progressTimerExpiry p) s = .next t ∧
      t = { s with now := max s.now d, pairs := t.pairs, ports := t.ports } ∧
      t.pair p = { s.pair p with progressTimer := none, outRef := some s.disp.next, renewal := false } ∧
      (t.port p).queue.map (·.frag) = (s.port p).queue.map (·.frag) ++ [.progress s.disp.next] ∧
      (let x := (s.pair p).state
       let gate := x = .settling ∨ x = .joining ∨ x = .active ∨ x = .leaving
       LineQueueLaw (s.port p) → HandedOver (decide gate) (s.port p).sent
         ((s.port p).queue ++ [{ frag := .progress s.disp.next, handed := false }]) (s.port p).residue (t.port p)) ∧
      ∀ q, q ≠ p → t.pair q = s.pair q ∧ t.port q = s.port q

/-- The gap timer's expiry declares the run at NES lost with cause TIMEOUT. The declaration is the first gap record, which
raises GAP-RECORDED, or continues the newest one, or is appended behind the others, or, behind 16 others, is dropped and
counted GAP-RECORDS-DROPPED (R159). A lone stored fragment behind it is then
handed on, and where it does not begin a frame it is dropped by the Frame Assembler, whose frame the loss has broken (R154,
R150, R159, R147, R161). That the expiry brings the time to the timer's deadline, which the gap record shows, is the
model's choice [2]. -/
def Obligations.GapTimerDeclaresTheGap : Prop :=
  ∀ (s : State) (d : Nat) (r : FragRecord), s.rx.gapTimer = some d → s.rx.synced = true →
    (∀ q ∈ s.rx.window, slotOf q.seq ≠ slotOf s.rx.nes) → r ∈ s.rx.window →
    (∀ q ∈ s.rx.window, dist r.seq s.rx.nes ≤ dist q.seq s.rx.nes) →
    ∃ t, exec .gapTimerExpiry s = .next t ∧ InboundFrame { s with now := max s.now d } t ∧
      t.counter .gapTimeouts = countUp (s.counter .gapTimeouts) 1 ∧
      (let n := dist r.seq s.rx.nes
       let new : GapRecord :=
         { first := s.rx.nes, count := n, cause := .timeout, live := s.liveSet, time := max s.now d }
       (s.rx.gaps = [] → (∃ rest, t.rx.gaps = new :: rest) ∧
         (s.mgmt.mask.getLsbD 5 = false → t.occurrences .gapRecorded = min (s.occurrences .gapRecorded + 1) 255)) ∧
       (∀ old g, s.rx.gaps = old ++ [g] → t.occurrences .gapRecorded = s.occurrences .gapRecorded ∧
         (let continues := g.cause = .timeout ∧ s.rx.nes = g.first + BitVec.ofNat 14 g.count
          (continues → ∃ rest, t.rx.gaps = old ++ { g with count := min (g.count + n) 16383 } :: rest) ∧
          (¬continues → s.rx.gaps.length < 16 → ∃ rest, t.rx.gaps = s.rx.gaps ++ new :: rest) ∧
          (¬continues → 16 ≤ s.rx.gaps.length → s.rx.window = [r] → t.rx.gaps = s.rx.gaps ∧
            t.counter .gapRecordsDropped = countUp (s.counter .gapRecordsDropped) 1 ∧
            t.counter .lostSequences = countUp (s.counter .lostSequences) n)))) ∧
      (s.rx.window = [r] → s.rx.paused = false → s.lan.txQueue.length < 8 →
        t.rx.nes = r.seq + 1 ∧ t.rx.window = [] ∧ t.rx.gapTimer = none ∧
        t.counter .lostSequences = countUp (s.counter .lostSequences) (dist r.seq s.rx.nes) ∧
        (r.start = false →
          (s.liveSet = 0 ∨ t.asm = (if r.fin then .idle else .discarding true)) ∧ t.counter .broken =
            (if s.asm = .discarding true then s.counter .broken else countUp (s.counter .broken) 1)))

/-! ### LAN and dispatch -/

/-- A run of octets from the PHY is tested for length, receive error and FCS; the frame is classified by the first rule
that matches it, as TryClassifyNamesTheFirstMatch says, or given the default class; and it is admitted to the tail of its
class, or discarded for want of a path, of a place or of cells. The frame that fills its class raises QUEUE-FULL (R84, R90,
R91, R95, R96). The admission is said where no request for a frame stands. -/
def Obligations.LanFrameIsTestedAndAdmitted : Prop :=
  ∀ s : State,
    let s1 := s.count .lanFramesReceived
    (∀ run err, 1522 < run.length → exec (.lanFrameReceived run err) s = .next (s1.count .oversize)) ∧
    (∀ run err, run.length < 64 → exec (.lanFrameReceived run err) s = .next (s1.count .runt)) ∧
    (∀ run err, 64 ≤ run.length → run.length ≤ 1522 → (err = true ∨ ∀ f, run ≠ f ++ fcsOctets f) →
      exec (.lanFrameReceived run err) s = .next (s1.count .badFcs)) ∧
    (∀ f : List Octet, 60 ≤ f.length → f.length ≤ 1518 →
      let c := Instr.lanFrameReceived (f ++ fcsOctets f) false
      let cells := ceilDiv f.length 128
      let offered (k : Fin 4) (u : State) : Prop :=
        let q := s.cls k
        ((∀ p, (s.pair p).state ≠ .active) → exec c s = .next (u.count .noPath)) ∧
        ((∃ p, (s.pair p).state = .active) →
          (q.limit ≤ q.frames.length → exec c s = .next (u.count (.queueFull k))) ∧
          (q.frames.length < q.limit → s.cells.availOut < cells → exec c s = .next (u.count .outboundNoCells)) ∧
          (q.frames.length < q.limit → cells ≤ s.cells.availOut → s.disp.standing = false →
            ∃ t, exec c s = .next t ∧
              t.cls k = { q with frames :=
                q.frames ++ [{ octets := f, cells := cells, admitted := s.now, order := s.nextOrder }] } ∧
              (∀ j, j ≠ k → t.cls j = s.cls j) ∧ t.nextOrder = s.nextOrder + 1 ∧
              t.cells.usedOut = s.cells.usedOut + cells ∧ t.ports = s.ports ∧ t.pairs = s.pairs ∧
              t.rules = u.rules ∧ t.disp = s.disp ∧
              (∀ j, t.occurrences (.queueFull j) =
                if j = k ∧ q.limit ≤ q.frames.length + 1 ∧ s.mgmt.mask.getLsbD 3 = false
                then min (s.occurrences (.queueFull j) + 1) 255 else s.occurrences (.queueFull j))))
      (∀ i : Fin 64, (s.rule i).matchesHeader (headerOf f) = true →
        (∀ j, j < i → (s.rule j).matchesHeader (headerOf f) = false) →
        let s2 := s1.setRule i { s.rule i with hits := countUp (s.rule i).hits 1 }
        ((∃ n, (s.rule i).minLength = some n ∧ f.length < n) → exec c s = .next (s2.count .shortForRule)) ∧
        ((∀ n, (s.rule i).minLength = some n → n ≤ f.length) →
          ((s.rule i).action = .discard → exec c s = .next (s2.count .ruleDiscard)) ∧
          (∀ k, (s.rule i).action = .toClass k → offered k s2))) ∧
      ((∀ i : Fin 64, (s.rule i).matchesHeader (headerOf f) = false) → offered s.cfg.defaultClass s1))

/-- A frame admitted to the standing request of an EMPTY dispatcher and short enough for one fragment goes whole to the
eligible pair with the least arrival estimate, the lowest index on a tie; with no eligible pair it is held. The advance of
next makes a renewal due on each other ACTIVE pair whose reference lags by 4096 or more: it is placed, or is pending for
want of room, and a pending one is tried again; on the chosen pair it is cleared (R105, R106, R110 to R113, R115 to R117,
R100, R8, R9). That an ACTIVE pair without a reference is not eligible and has no renewal due is the model's choice [37]. -/
def Obligations.FrameGoesToTheChosenPair : Prop :=
  ∀ (s : State) (f : List Octet), 60 ≤ f.length → f.length ≤ 1518 → f.length ≤ s.cfg.pMax →
    (∀ i : Fin 64, (s.rule i).matchesHeader (headerOf f) = false) → (∀ k, (s.cls k).frames = []) →
    1 ≤ (s.cls s.cfg.defaultClass).limit → ceilDiv f.length 128 ≤ s.cells.availOut →
    s.disp.standing = true → s.disp.split = none →
    let size := f.length + 8
    let next' := s.disp.next + 1
    let rate (q : PairNo) : Nat := (s.port q).report.upRate * (s.pair q).derate / 100
    let eligible (q : PairNo) : Prop := (s.pair q).state = .active ∧ 64 ≤ rate q ∧ (s.port q).queue.length < 4 ∧
      (s.port q).backlog + size ≤ 3072 ∧ ∃ ref, (s.pair q).outRef = some ref ∧ dist s.disp.next ref ≤ 8190
    let estimate (q : PairNo) : Nat :=
      ceilDiv (((s.port q).backlog + size) * 8000) (rate q) + 1000 * (s.port q).report.upDelay
    let due (q : PairNo) : Prop := (s.pair q).state = .active ∧
      ((s.pair q).renewal = true ∨ ∃ ref, (s.pair q).outRef = some ref ∧ 4096 ≤ dist next' ref)
    let room (q : PairNo) : Prop := (s.port q).queue.length < 4 ∧ (s.port q).backlog + 8 ≤ 3072
    let c := Instr.lanFrameReceived (f ++ fcsOctets f) false
    (∀ p, eligible p →
      (∀ q, q ≠ p → eligible q → estimate p < estimate q ∨ (estimate p = estimate q ∧ p < q)) →
      ∃ t, exec c s = .next t ∧ t.disp = { next := next', split := none, held := false, standing := true } ∧
        (t.port p).queue.map (·.frag) = (s.port p).queue.map (·.frag) ++ [.data true true s.disp.next f] ∧
        (t.pair p).outRef = some next' ∧ (t.pair p).progressTimer = none ∧ (t.pair p).renewal = false ∧
        (∀ q, q ≠ p → (t.pair q).state = (s.pair q).state ∧
          (¬due q → t.port q = s.port q ∧ t.pair q = s.pair q) ∧
          (due q → room q → (t.port q).queue.map (·.frag) = (s.port q).queue.map (·.frag) ++ [.progress next'] ∧
            (t.pair q).outRef = some next' ∧ (t.pair q).renewal = false ∧ (t.pair q).progressTimer = none) ∧
          (due q → ¬room q → t.port q = s.port q ∧ t.pair q = { s.pair q with renewal := true })) ∧
        t.counter .fragmentsDispatched = countUp (s.counter .fragmentsDispatched) 1 ∧
        t.counter .framesDispatched = countUp (s.counter .framesDispatched) 1 ∧
        t.cells.usedOut = s.cells.usedOut ∧ t.nextOrder = s.nextOrder + 1) ∧
    ((∃ p, (s.pair p).state = .active) → (∀ q, ¬eligible q) →
      ∃ t, exec c s = .next t ∧ t.disp.next = s.disp.next ∧ t.disp.held = true ∧ t.disp.split.isSome = true ∧
        t.disp.standing = false ∧ t.ports = s.ports ∧ t.pairs = s.pairs ∧
        t.counter .dispatchHolds = countUp (s.counter .dispatchHolds) 1 ∧
        t.cells.usedOut = s.cells.usedOut + ceilDiv f.length 128)

/-- A frame of several fragments, admitted to a standing request while one pair is ACTIVE, goes out on it fragment by
fragment, START on the first and END on the last, under consecutive numbers, until its queue has no free entry; what is
left is held, and a frame wholly placed returns its cells (R104 to R107, R109 to R111, R115 to R117, R8). Where an event
at a pair waits, the run may stop between two fragments, with no hold counted, and the event is taken there (R114): whether
it does is a free value, and that only a waiting command can stop it is the model's choice [32]. -/
def Obligations.LongFrameIsPlacedInOrder : Prop :=
  ∀ (s : State) (f : List Octet) (p : PairNo) (ref : Seq), 60 ≤ f.length → f.length ≤ 1518 →
    64 ≤ s.cfg.pMax → s.cfg.pMax ≤ 512 →
    (∀ i : Fin 64, (s.rule i).matchesHeader (headerOf f) = false) → (∀ k, (s.cls k).frames = []) →
    1 ≤ (s.cls s.cfg.defaultClass).limit → ceilDiv f.length 128 ≤ s.cells.availOut →
    s.disp.standing = true → s.disp.split = none →
    (s.pair p).state = .active → (∀ q, q ≠ p → (s.pair q).state ≠ .active) →
    64 ≤ (s.port p).report.upRate * (s.pair p).derate / 100 →
    (s.pair p).outRef = some ref → dist s.disp.next ref ≤ 8190 →
    let n := f.length
    let k := ceilDiv n s.cfg.pMax
    let size (j : Nat) : Nat := if j < n % k then ceilDiv n k else n / k
    let before (j : Nat) : Nat := ((List.range j).map size).sum
    let up (c d : Nat) : Nat := if d = 0 then c else countUp c d
    (s.port p).backlog + n + 8 * k ≤ 3072 →
    ∃ t placed, exec (.lanFrameReceived (f ++ fcsOctets f) false) s = .next t ∧
      placed ≤ min k (4 - (s.port p).queue.length) ∧
      (t.disp.midRun = false → placed = min k (4 - (s.port p).queue.length)) ∧
      (t.disp.midRun = true → 1 ≤ placed ∧ placed < k ∧ t.eventWaits = true) ∧ t.pending = s.pending ∧
      (t.port p).queue.map (·.frag) = (s.port p).queue.map (·.frag) ++ (List.range placed).map (fun j =>
        Fragment.data (j == 0) (j + 1 == k) (s.disp.next + BitVec.ofNat 14 j) ((f.drop (before j)).take (size j))) ∧
      t.disp.next = s.disp.next + BitVec.ofNat 14 placed ∧ t.disp.held = decide (placed < k) ∧
      t.disp.split.isSome = decide (placed < k) ∧ t.disp.standing = decide (placed = k) ∧
      (t.pair p).outRef = some (if placed = 0 then ref else s.disp.next + BitVec.ofNat 14 placed) ∧
      (∀ q, q ≠ p → t.pair q = s.pair q ∧ t.port q = s.port q) ∧
      t.counter .fragmentsDispatched = up (s.counter .fragmentsDispatched) placed ∧
      t.counter .framesDispatched = up (s.counter .framesDispatched) (if placed = k then 1 else 0) ∧
      t.counter .dispatchHolds = up (s.counter .dispatchHolds) (if placed = k ∨ t.disp.midRun = true then 0 else 1) ∧
      t.cells.usedOut = s.cells.usedOut + (if placed = k then 0 else ceilDiv n 128)

/-- The frame handed to the dispatcher is the aged head with the earliest admission order, else the head of the highest
non-empty class; an aged head that is not that head counts AGE-PROMOTIONS (R99). When a TAKEN gives the last fragment of
the frame being split the entry it waits for, the fragment is placed, its frame is done, and the frame so selected is the
next to be split, held in its turn behind the full queue (R30, R105, R106, R115 to R118). -/
def Obligations.FramesAreSelectedByAgeAndPriority : Prop :=
  (∀ s : State,
    let aged (c : Fin 4) : Prop := c ≠ 3 ∧ (s.cls c).ageLimit ≠ 0 ∧
      ∃ f rest, (s.cls c).frames = f :: rest ∧ (s.cls c).ageLimit ≤ s.now - f.admitted
    let top (c : Fin 4) : Prop := ∀ d, c < d → (s.cls d).frames = []
    ((∀ c, (s.cls c).frames = []) → selectFrame s = none) ∧
    (∀ c f rest, (s.cls c).frames = f :: rest →
      let s' := s.setCls c { s.cls c with frames := rest }
      ((∀ d, ¬aged d) → top c → selectFrame s = some (f, s')) ∧
      (aged c → (∀ d g rest', d ≠ c → aged d → (s.cls d).frames = g :: rest' → f.order < g.order) →
        (top c → selectFrame s = some (f, s')) ∧
        (¬top c → selectFrame s = some (f, s'.count .agePromotions))))) ∧
  (∀ (s : State) (p : PairNo) (n : BitVec 16) (e : Entry) (queued : List Entry) (plan : SplitPlan) (ref : Seq)
      (f : OutFrame) (s' : State),
    p.val < s.mgmt.fitted → (s.port p).present = true → LineQueueLaw (s.port p) → (s.port p).residue = [] →
    (s.port p).queue = e :: queued → queued.length = 3 → e.handed = true →
    n.toNat = e.frag.size - (s.port p).takenFromHead →
    (s.pair p).state = .active → (∀ q, q ≠ p → (s.pair q).state ≠ .active) →
    (s.pair p).waitAck = none → (s.pair p).waitJoin = false → (s.pair p).waitLeave = none → (s.pair p).renewal = false →
    64 ≤ (s.port p).report.upRate * (s.pair p).derate / 100 →
    (s.pair p).outRef = some ref → dist s.disp.next ref ≤ 8190 →
    s.disp.split = some plan → s.disp.held = true → s.disp.midRun = false → plan.current = plan.k →
    (s.port p).backlog - n.toNat + plan.size ≤ 3072 → selectFrame s = some (f, s') →
    ∃ t, exec (.taken p n) s = .next t ∧ t.classes = s'.classes ∧
      t.disp = { next := s.disp.next + 1, split := some (planOf s.cfg.pMax f), held := true, standing := false } ∧
      (t.port p).queue.map (·.frag) = queued.map (·.frag) ++ [plan.fragment s.disp.next] ∧
      t.cells.usedOut = s.cells.usedOut - plan.cells ∧
      t.counter .framesDispatched = countUp (s.counter .framesDispatched) 1 ∧
      t.counter .dispatchHolds = countUp (s.counter .dispatchHolds) 1)

/-- A frame that has passed to the PHY with a fresh FCS leaves the LAN transmit queue and returns its cells; the link
going down discards every frame and cuts the head short, which the model takes to be in transmission whenever the queue is
not empty [18]. Either lets a paused delivery run again: the whole frame it was holding at NES is handed on (R163, R164,
R148, R147). A delivery at rest that is not paused is not paused by it. Each change of the link raises LAN-LINK. The
record of what was passed is the model's [17]; a free value may be used up [34]. -/
def Obligations.LanFramesLeaveTheQueue : Prop :=
  ∀ s : State,
    let waits (r : FragRecord) : Prop := s.rx.paused = true ∧ s.rx.synced = true ∧ s.rx.window = [r] ∧
      r.seq = s.rx.nes ∧ r.start = true ∧ r.fin = true ∧ s.asm = .idle ∧ 60 ≤ r.payload.length ∧
      r.payload.length ≤ 512 ∧ ceilDiv r.payload.length 128 ≤ s.cells.availIn
    (∀ f rest, s.lan.linkUp = true → s.lan.txQueue = f :: rest →
      ∃ t more, exec .lanFrameSent s = .next t ∧
        InboundFrame { s with freeCount := t.freeCount, lan := { s.lan with
          mii := s.lan.mii ++ [.frame (f.octets ++ fcsOctets f.octets)] } } t ∧
        t.lan.txQueue = rest ++ more ∧ t.counter .lanFramesSent = countUp (s.counter .lanFramesSent) 1 ∧
        (DeliveryAtRest s → t.rx.paused = (s.rx.paused && t.rx.paused)) ∧
        (s.rx.window = [] → s.asm = .idle → more = [] ∧ t.cells.usedIn = s.cells.usedIn - f.cells) ∧
        (∀ r, waits r → rest.length < 8 → t.rx.paused = false ∧ t.rx.window = [] ∧ t.rx.nes = s.rx.nes + 1 ∧
          more = [{ octets := r.payload, cells := ceilDiv r.payload.length 128 }])) ∧
    (∀ up, s.lan.linkUp = up → exec (.lanLinkChange up) s =
      .next { s with lan := { s.lan with linkPin := up } }) ∧
    (s.lan.linkUp = false → exec (.lanLinkChange true) s =
      .next (({ s with lan := { s.lan with linkPin := true, linkUp := true } } : State).raise .lanLink)) ∧
    (s.lan.linkUp = true → ∃ t, exec (.lanLinkChange false) s = .next t ∧
      InboundFrame { s with
        freeCount := t.freeCount, lan := { s.lan with linkPin := false, linkUp := false, mii := t.lan.mii } } t ∧
      t.lan.txQueue = [] ∧ t.rx.paused = false ∧
      (s.lan.txQueue = [] → t.lan.mii = s.lan.mii) ∧
      (∀ f rest, s.lan.txQueue = f :: rest → t.lan.mii = s.lan.mii ++ [.cutShort f.octets]) ∧
      (s.mgmt.mask.getLsbD 6 = false → t.occurrences .lanLink = min (s.occurrences .lanLink + 1) 255) ∧
      (s.rx.window = [] → s.asm = .idle → s.counter .lanDown ≤ 4294967295 →
        t.cells.usedIn = s.cells.usedIn - (s.lan.txQueue.map (·.cells)).sum ∧
        t.counter .lanDown = countUp (s.counter .lanDown) s.lan.txQueue.length) ∧
      (∀ r, waits r → t.rx.window = [] ∧ t.rx.nes = s.rx.nes + 1 ∧
        t.counter .lanDown = countUp (s.counter .lanDown) (s.lan.txQueue.length + 1)))

/-! ### Rules of numbers -/

/-- The relation of two sequence numbers, the later of two, and the steps s + n and s - n (R4). -/
def Obligations.SequenceNumbersRunRoundACircle : Prop :=
  (∀ a b : Seq, dist a b = (a.toNat + 16384 - b.toNat) % 16384 ∧ (dist a b = 0 ↔ a = b) ∧
    (ahead a b = true ↔ 1 ≤ dist a b ∧ dist a b ≤ 8191) ∧ (behind a b = true ↔ 8192 ≤ dist a b) ∧
    (dist a b = 8192 → behind a b = true ∧ behind b a = true) ∧
    (dist a b ≠ 8192 → (ahead a b = true ↔ behind b a = true)) ∧
    (ahead a b = true → laterOf a b = a) ∧ (ahead b a = true → laterOf a b = b) ∧ (a = b → laterOf a b = a) ∧
    (dist a b = 8192 → laterOf a b = a)) ∧
  (∃ a b c : Seq, ahead a b = true ∧ ahead b c = true ∧ behind a c = true) ∧
  (∀ (s : Seq) (n : Nat), (s + BitVec.ofNat 14 n).toNat = (s.toNat + n) % 16384 ∧
    ((s - BitVec.ofNat 14 n).toNat + n) % 16384 = s.toNat)

/-- The balanced split of a frame: sizes, order, bounds, and the octets each fragment carries (R107, with the plan of
R106). -/
def Obligations.SplitIsBalanced : Prop :=
  ∀ (f : OutFrame) (pMax : Nat), 60 ≤ f.octets.length → f.octets.length ≤ 1518 → 64 ≤ pMax → pMax ≤ 512 →
    let n := f.octets.length
    let plan := planOf pMax f
    let k := ceilDiv n pMax
    let size (j : Nat) : Nat := if j ≤ n % k then ceilDiv n k else n / k
    let before (j : Nat) : Nat := ((List.range (j - 1)).map fun i => size (i + 1)).sum
    plan.k = k ∧ before (k + 1) = n ∧ (n = 65 → pMax = 64 → k = 2 ∧ size 1 = 33 ∧ size 2 = 32) ∧ (n % k = 0 → ∀ j, 1 ≤ j → size j = n / k) ∧
    (∀ j, 1 ≤ j → j ≤ k → 32 ≤ size j ∧ size j ≤ pMax ∧ (∀ i, 1 ≤ i → i ≤ j → size j ≤ size i ∧ size i ≤ size j + 1) ∧
      let at' := Nat.repeat SplitPlan.advance (j - 1) plan
      at'.current = j ∧ at'.offset = before j ∧ at'.payloadLength = size j ∧
      ∀ seq, at'.fragment seq =
        .data (j == 1) (j == k) seq ((f.octets.drop (before j)).take (size j))) ∧
    (List.range k).flatMap (fun i => (f.octets.drop (before (i + 1))).take (size (i + 1))) = f.octets

/-! ### Invariants of every step -/

/-- Every buffer keeps within its bound at every step, and every line queue keeps its law, the sizes of its entries among
it, which rest on the bounds of the greatest payload and of a split (R24, R25, R27, R107, R110, R159, R163, R169, R172,
R175, R177). -/
def Obligations.BoundsAreKept : Prop :=
  ∀ s t : State, Bounded s → step s = .next t → Bounded t

/-- The reorder window keeps its law at every step (R125, R126). Delivery at rest is at rest again after every step: what
a command brings is delivered, resolved or paused within it, and every pressure event is taken (R147, R149, R152). -/
def Obligations.WindowLawIsKept : Prop :=
  (∀ s t : State, WindowLaw s → step s = .next t → WindowLaw t) ∧
  (∀ s t : State, DeliveryAtRest s → step s = .next t → DeliveryAtRest t)

/-- No cell is lost and none is held twice: at every step the use counts stay those of what the part holds (R73, R74,
R76, R78, R82). -/
def Obligations.CellsAreConserved : Prop :=
  ∀ s t : State, WindowLaw s → CellsAccounted s → step s = .next t → CellsAccounted t

/-- A pair at or above the fitted count is not in use: it stays at rest at every step, its port ignores what its pins
bring, and the fitted count is the one the straps give at reset (R23). That the level of its unsampled guard pin is held
is the model's [15]. -/
def Obligations.UnfittedPairsStayAtRest : Prop :=
  (∀ s t : State, UnfittedAtRest s → step s = .next t → UnfittedAtRest t) ∧
  (∀ (s : State) (p : PairNo), s.mgmt.fitted ≤ p.val →
    (∀ line up down upDelay downDelay, exec (.report p line up down upDelay downDelay) s = .next s) ∧
    (∀ n, exec (.taken p n) s = .next s) ∧ (∀ octets, exec (.fragmentReceived p octets) s = .next s) ∧
    (∀ octets, exec (.portUnknownMessage p octets) s = .next s) ∧
    (∀ level, exec (.lineGuardChange p level) s = .next (s.modPort p fun x => { x with guardPin := level }))) ∧
  (∀ straps s t, exec (.reset straps) s = .next t → t.mgmt.fitted = straps.fitted.val + 1 ∧ UnfittedAtRest t)

/-- The invariants hold after reset, whatever the straps. That `State.reset` is the state after a reset with eight pairs
fitted, UART and no AUTOSTART is the model's choice [15]. -/
def Obligations.InvariantsHoldAtReset : Prop :=
  ∀ straps : Straps, Bounded (State.resetWith straps) ∧ WindowLaw (State.resetWith straps) ∧
    CellsAccounted (State.resetWith straps) ∧ UnfittedAtRest (State.resetWith straps) ∧
    DeliveryAtRest (State.resetWith straps) ∧
    State.reset = State.resetWith { fitted := 7, spi := false, autostart := false }
end

