-- ==== Sys2Proof/Laws/State.lean ====
section
/-! SUPPORT. One lemma for each field and each update of the state: what an update leaves alone. -/

namespace Sys2Proof.Machine

/-! ### tick -/

@[simp] theorem tick_pending (s : State) :
    (tick s).pending = s.pending := rfl
@[simp] theorem tick_mgmt (s : State) :
    (tick s).mgmt = s.mgmt := rfl
@[simp] theorem tick_cfg (s : State) :
    (tick s).cfg = s.cfg := rfl
@[simp] theorem tick_ports (s : State) :
    (tick s).ports = s.ports := rfl
@[simp] theorem tick_pairs (s : State) :
    (tick s).pairs = s.pairs := rfl
@[simp] theorem tick_cells (s : State) :
    (tick s).cells = s.cells := rfl
@[simp] theorem tick_rules (s : State) :
    (tick s).rules = s.rules := rfl
@[simp] theorem tick_classes (s : State) :
    (tick s).classes = s.classes := rfl
@[simp] theorem tick_nextOrder (s : State) :
    (tick s).nextOrder = s.nextOrder := rfl
@[simp] theorem tick_disp (s : State) :
    (tick s).disp = s.disp := rfl
@[simp] theorem tick_rx (s : State) :
    (tick s).rx = s.rx := rfl
@[simp] theorem tick_asm (s : State) :
    (tick s).asm = s.asm := rfl
@[simp] theorem tick_lan (s : State) :
    (tick s).lan = s.lan := rfl
@[simp] theorem tick_counters (s : State) :
    (tick s).counters = s.counters := rfl
@[simp] theorem tick_freeCount (s : State) :
    (tick s).freeCount = s.freeCount := rfl

/-! ### reach -/

@[simp] theorem reach_pending (d : Nat) (s : State) :
    (s.reach d).pending = s.pending := rfl
@[simp] theorem reach_mgmt (d : Nat) (s : State) :
    (s.reach d).mgmt = s.mgmt := rfl
@[simp] theorem reach_cfg (d : Nat) (s : State) :
    (s.reach d).cfg = s.cfg := rfl
@[simp] theorem reach_ports (d : Nat) (s : State) :
    (s.reach d).ports = s.ports := rfl
@[simp] theorem reach_pairs (d : Nat) (s : State) :
    (s.reach d).pairs = s.pairs := rfl
@[simp] theorem reach_cells (d : Nat) (s : State) :
    (s.reach d).cells = s.cells := rfl
@[simp] theorem reach_rules (d : Nat) (s : State) :
    (s.reach d).rules = s.rules := rfl
@[simp] theorem reach_classes (d : Nat) (s : State) :
    (s.reach d).classes = s.classes := rfl
@[simp] theorem reach_nextOrder (d : Nat) (s : State) :
    (s.reach d).nextOrder = s.nextOrder := rfl
@[simp] theorem reach_disp (d : Nat) (s : State) :
    (s.reach d).disp = s.disp := rfl
@[simp] theorem reach_rx (d : Nat) (s : State) :
    (s.reach d).rx = s.rx := rfl
@[simp] theorem reach_asm (d : Nat) (s : State) :
    (s.reach d).asm = s.asm := rfl
@[simp] theorem reach_lan (d : Nat) (s : State) :
    (s.reach d).lan = s.lan := rfl
@[simp] theorem reach_counters (d : Nat) (s : State) :
    (s.reach d).counters = s.counters := rfl
@[simp] theorem reach_freeCount (d : Nat) (s : State) :
    (s.reach d).freeCount = s.freeCount := rfl

/-! ### setPort -/

@[simp] theorem setPort_pending (p : PairNo) (x : Port) (s : State) :
    (s.setPort p x).pending = s.pending := rfl
@[simp] theorem setPort_now (p : PairNo) (x : Port) (s : State) :
    (s.setPort p x).now = s.now := rfl
@[simp] theorem setPort_mgmt (p : PairNo) (x : Port) (s : State) :
    (s.setPort p x).mgmt = s.mgmt := rfl
@[simp] theorem setPort_cfg (p : PairNo) (x : Port) (s : State) :
    (s.setPort p x).cfg = s.cfg := rfl
@[simp] theorem setPort_pairs (p : PairNo) (x : Port) (s : State) :
    (s.setPort p x).pairs = s.pairs := rfl
@[simp] theorem setPort_cells (p : PairNo) (x : Port) (s : State) :
    (s.setPort p x).cells = s.cells := rfl
@[simp] theorem setPort_rules (p : PairNo) (x : Port) (s : State) :
    (s.setPort p x).rules = s.rules := rfl
@[simp] theorem setPort_classes (p : PairNo) (x : Port) (s : State) :
    (s.setPort p x).classes = s.classes := rfl
@[simp] theorem setPort_nextOrder (p : PairNo) (x : Port) (s : State) :
    (s.setPort p x).nextOrder = s.nextOrder := rfl
@[simp] theorem setPort_disp (p : PairNo) (x : Port) (s : State) :
    (s.setPort p x).disp = s.disp := rfl
@[simp] theorem setPort_rx (p : PairNo) (x : Port) (s : State) :
    (s.setPort p x).rx = s.rx := rfl
@[simp] theorem setPort_asm (p : PairNo) (x : Port) (s : State) :
    (s.setPort p x).asm = s.asm := rfl
@[simp] theorem setPort_lan (p : PairNo) (x : Port) (s : State) :
    (s.setPort p x).lan = s.lan := rfl
@[simp] theorem setPort_counters (p : PairNo) (x : Port) (s : State) :
    (s.setPort p x).counters = s.counters := rfl
@[simp] theorem setPort_freeCount (p : PairNo) (x : Port) (s : State) :
    (s.setPort p x).freeCount = s.freeCount := rfl

/-! ### modPort -/

@[simp] theorem modPort_pending (p : PairNo) (f : Port → Port) (s : State) :
    (s.modPort p f).pending = s.pending := rfl
@[simp] theorem modPort_now (p : PairNo) (f : Port → Port) (s : State) :
    (s.modPort p f).now = s.now := rfl
@[simp] theorem modPort_mgmt (p : PairNo) (f : Port → Port) (s : State) :
    (s.modPort p f).mgmt = s.mgmt := rfl
@[simp] theorem modPort_cfg (p : PairNo) (f : Port → Port) (s : State) :
    (s.modPort p f).cfg = s.cfg := rfl
@[simp] theorem modPort_pairs (p : PairNo) (f : Port → Port) (s : State) :
    (s.modPort p f).pairs = s.pairs := rfl
@[simp] theorem modPort_cells (p : PairNo) (f : Port → Port) (s : State) :
    (s.modPort p f).cells = s.cells := rfl
@[simp] theorem modPort_rules (p : PairNo) (f : Port → Port) (s : State) :
    (s.modPort p f).rules = s.rules := rfl
@[simp] theorem modPort_classes (p : PairNo) (f : Port → Port) (s : State) :
    (s.modPort p f).classes = s.classes := rfl
@[simp] theorem modPort_nextOrder (p : PairNo) (f : Port → Port) (s : State) :
    (s.modPort p f).nextOrder = s.nextOrder := rfl
@[simp] theorem modPort_disp (p : PairNo) (f : Port → Port) (s : State) :
    (s.modPort p f).disp = s.disp := rfl
@[simp] theorem modPort_rx (p : PairNo) (f : Port → Port) (s : State) :
    (s.modPort p f).rx = s.rx := rfl
@[simp] theorem modPort_asm (p : PairNo) (f : Port → Port) (s : State) :
    (s.modPort p f).asm = s.asm := rfl
@[simp] theorem modPort_lan (p : PairNo) (f : Port → Port) (s : State) :
    (s.modPort p f).lan = s.lan := rfl
@[simp] theorem modPort_counters (p : PairNo) (f : Port → Port) (s : State) :
    (s.modPort p f).counters = s.counters := rfl
@[simp] theorem modPort_freeCount (p : PairNo) (f : Port → Port) (s : State) :
    (s.modPort p f).freeCount = s.freeCount := rfl

/-! ### setPair -/

@[simp] theorem setPair_pending (p : PairNo) (x : Pair) (s : State) :
    (s.setPair p x).pending = s.pending := rfl
@[simp] theorem setPair_now (p : PairNo) (x : Pair) (s : State) :
    (s.setPair p x).now = s.now := rfl
@[simp] theorem setPair_mgmt (p : PairNo) (x : Pair) (s : State) :
    (s.setPair p x).mgmt = s.mgmt := rfl
@[simp] theorem setPair_cfg (p : PairNo) (x : Pair) (s : State) :
    (s.setPair p x).cfg = s.cfg := rfl
@[simp] theorem setPair_ports (p : PairNo) (x : Pair) (s : State) :
    (s.setPair p x).ports = s.ports := rfl
@[simp] theorem setPair_cells (p : PairNo) (x : Pair) (s : State) :
    (s.setPair p x).cells = s.cells := rfl
@[simp] theorem setPair_rules (p : PairNo) (x : Pair) (s : State) :
    (s.setPair p x).rules = s.rules := rfl
@[simp] theorem setPair_classes (p : PairNo) (x : Pair) (s : State) :
    (s.setPair p x).classes = s.classes := rfl
@[simp] theorem setPair_nextOrder (p : PairNo) (x : Pair) (s : State) :
    (s.setPair p x).nextOrder = s.nextOrder := rfl
@[simp] theorem setPair_disp (p : PairNo) (x : Pair) (s : State) :
    (s.setPair p x).disp = s.disp := rfl
@[simp] theorem setPair_rx (p : PairNo) (x : Pair) (s : State) :
    (s.setPair p x).rx = s.rx := rfl
@[simp] theorem setPair_asm (p : PairNo) (x : Pair) (s : State) :
    (s.setPair p x).asm = s.asm := rfl
@[simp] theorem setPair_lan (p : PairNo) (x : Pair) (s : State) :
    (s.setPair p x).lan = s.lan := rfl
@[simp] theorem setPair_counters (p : PairNo) (x : Pair) (s : State) :
    (s.setPair p x).counters = s.counters := rfl
@[simp] theorem setPair_freeCount (p : PairNo) (x : Pair) (s : State) :
    (s.setPair p x).freeCount = s.freeCount := rfl

/-! ### modPair -/

@[simp] theorem modPair_pending (p : PairNo) (f : Pair → Pair) (s : State) :
    (s.modPair p f).pending = s.pending := rfl
@[simp] theorem modPair_now (p : PairNo) (f : Pair → Pair) (s : State) :
    (s.modPair p f).now = s.now := rfl
@[simp] theorem modPair_mgmt (p : PairNo) (f : Pair → Pair) (s : State) :
    (s.modPair p f).mgmt = s.mgmt := rfl
@[simp] theorem modPair_cfg (p : PairNo) (f : Pair → Pair) (s : State) :
    (s.modPair p f).cfg = s.cfg := rfl
@[simp] theorem modPair_ports (p : PairNo) (f : Pair → Pair) (s : State) :
    (s.modPair p f).ports = s.ports := rfl
@[simp] theorem modPair_cells (p : PairNo) (f : Pair → Pair) (s : State) :
    (s.modPair p f).cells = s.cells := rfl
@[simp] theorem modPair_rules (p : PairNo) (f : Pair → Pair) (s : State) :
    (s.modPair p f).rules = s.rules := rfl
@[simp] theorem modPair_classes (p : PairNo) (f : Pair → Pair) (s : State) :
    (s.modPair p f).classes = s.classes := rfl
@[simp] theorem modPair_nextOrder (p : PairNo) (f : Pair → Pair) (s : State) :
    (s.modPair p f).nextOrder = s.nextOrder := rfl
@[simp] theorem modPair_disp (p : PairNo) (f : Pair → Pair) (s : State) :
    (s.modPair p f).disp = s.disp := rfl
@[simp] theorem modPair_rx (p : PairNo) (f : Pair → Pair) (s : State) :
    (s.modPair p f).rx = s.rx := rfl
@[simp] theorem modPair_asm (p : PairNo) (f : Pair → Pair) (s : State) :
    (s.modPair p f).asm = s.asm := rfl
@[simp] theorem modPair_lan (p : PairNo) (f : Pair → Pair) (s : State) :
    (s.modPair p f).lan = s.lan := rfl
@[simp] theorem modPair_counters (p : PairNo) (f : Pair → Pair) (s : State) :
    (s.modPair p f).counters = s.counters := rfl
@[simp] theorem modPair_freeCount (p : PairNo) (f : Pair → Pair) (s : State) :
    (s.modPair p f).freeCount = s.freeCount := rfl

/-! ### setReason -/

@[simp] theorem setReason_pending (p : PairNo) (why : Reason) (s : State) :
    (setReason p why s).pending = s.pending := rfl
@[simp] theorem setReason_now (p : PairNo) (why : Reason) (s : State) :
    (setReason p why s).now = s.now := rfl
@[simp] theorem setReason_mgmt (p : PairNo) (why : Reason) (s : State) :
    (setReason p why s).mgmt = s.mgmt := rfl
@[simp] theorem setReason_cfg (p : PairNo) (why : Reason) (s : State) :
    (setReason p why s).cfg = s.cfg := rfl
@[simp] theorem setReason_ports (p : PairNo) (why : Reason) (s : State) :
    (setReason p why s).ports = s.ports := rfl
@[simp] theorem setReason_cells (p : PairNo) (why : Reason) (s : State) :
    (setReason p why s).cells = s.cells := rfl
@[simp] theorem setReason_rules (p : PairNo) (why : Reason) (s : State) :
    (setReason p why s).rules = s.rules := rfl
@[simp] theorem setReason_classes (p : PairNo) (why : Reason) (s : State) :
    (setReason p why s).classes = s.classes := rfl
@[simp] theorem setReason_nextOrder (p : PairNo) (why : Reason) (s : State) :
    (setReason p why s).nextOrder = s.nextOrder := rfl
@[simp] theorem setReason_disp (p : PairNo) (why : Reason) (s : State) :
    (setReason p why s).disp = s.disp := rfl
@[simp] theorem setReason_rx (p : PairNo) (why : Reason) (s : State) :
    (setReason p why s).rx = s.rx := rfl
@[simp] theorem setReason_asm (p : PairNo) (why : Reason) (s : State) :
    (setReason p why s).asm = s.asm := rfl
@[simp] theorem setReason_lan (p : PairNo) (why : Reason) (s : State) :
    (setReason p why s).lan = s.lan := rfl
@[simp] theorem setReason_counters (p : PairNo) (why : Reason) (s : State) :
    (setReason p why s).counters = s.counters := rfl
@[simp] theorem setReason_freeCount (p : PairNo) (why : Reason) (s : State) :
    (setReason p why s).freeCount = s.freeCount := rfl

/-! ### startTimer -/

@[simp] theorem startTimer_pending (p : PairNo) (k : StateTimer) (ms : Nat) (s : State) :
    (startTimer p k ms s).pending = s.pending := rfl
@[simp] theorem startTimer_now (p : PairNo) (k : StateTimer) (ms : Nat) (s : State) :
    (startTimer p k ms s).now = s.now := rfl
@[simp] theorem startTimer_mgmt (p : PairNo) (k : StateTimer) (ms : Nat) (s : State) :
    (startTimer p k ms s).mgmt = s.mgmt := rfl
@[simp] theorem startTimer_cfg (p : PairNo) (k : StateTimer) (ms : Nat) (s : State) :
    (startTimer p k ms s).cfg = s.cfg := rfl
@[simp] theorem startTimer_ports (p : PairNo) (k : StateTimer) (ms : Nat) (s : State) :
    (startTimer p k ms s).ports = s.ports := rfl
@[simp] theorem startTimer_cells (p : PairNo) (k : StateTimer) (ms : Nat) (s : State) :
    (startTimer p k ms s).cells = s.cells := rfl
@[simp] theorem startTimer_rules (p : PairNo) (k : StateTimer) (ms : Nat) (s : State) :
    (startTimer p k ms s).rules = s.rules := rfl
@[simp] theorem startTimer_classes (p : PairNo) (k : StateTimer) (ms : Nat) (s : State) :
    (startTimer p k ms s).classes = s.classes := rfl
@[simp] theorem startTimer_nextOrder (p : PairNo) (k : StateTimer) (ms : Nat) (s : State) :
    (startTimer p k ms s).nextOrder = s.nextOrder := rfl
@[simp] theorem startTimer_disp (p : PairNo) (k : StateTimer) (ms : Nat) (s : State) :
    (startTimer p k ms s).disp = s.disp := rfl
@[simp] theorem startTimer_rx (p : PairNo) (k : StateTimer) (ms : Nat) (s : State) :
    (startTimer p k ms s).rx = s.rx := rfl
@[simp] theorem startTimer_asm (p : PairNo) (k : StateTimer) (ms : Nat) (s : State) :
    (startTimer p k ms s).asm = s.asm := rfl
@[simp] theorem startTimer_lan (p : PairNo) (k : StateTimer) (ms : Nat) (s : State) :
    (startTimer p k ms s).lan = s.lan := rfl
@[simp] theorem startTimer_counters (p : PairNo) (k : StateTimer) (ms : Nat) (s : State) :
    (startTimer p k ms s).counters = s.counters := rfl
@[simp] theorem startTimer_freeCount (p : PairNo) (k : StateTimer) (ms : Nat) (s : State) :
    (startTimer p k ms s).freeCount = s.freeCount := rfl

/-! ### countPairBy -/

@[simp] theorem countPairBy_pending (p : PairNo) (c : PairCounter) (n : Nat) (s : State) :
    (s.countPairBy p c n).pending = s.pending := rfl
@[simp] theorem countPairBy_now (p : PairNo) (c : PairCounter) (n : Nat) (s : State) :
    (s.countPairBy p c n).now = s.now := rfl
@[simp] theorem countPairBy_mgmt (p : PairNo) (c : PairCounter) (n : Nat) (s : State) :
    (s.countPairBy p c n).mgmt = s.mgmt := rfl
@[simp] theorem countPairBy_cfg (p : PairNo) (c : PairCounter) (n : Nat) (s : State) :
    (s.countPairBy p c n).cfg = s.cfg := rfl
@[simp] theorem countPairBy_ports (p : PairNo) (c : PairCounter) (n : Nat) (s : State) :
    (s.countPairBy p c n).ports = s.ports := rfl
@[simp] theorem countPairBy_cells (p : PairNo) (c : PairCounter) (n : Nat) (s : State) :
    (s.countPairBy p c n).cells = s.cells := rfl
@[simp] theorem countPairBy_rules (p : PairNo) (c : PairCounter) (n : Nat) (s : State) :
    (s.countPairBy p c n).rules = s.rules := rfl
@[simp] theorem countPairBy_classes (p : PairNo) (c : PairCounter) (n : Nat) (s : State) :
    (s.countPairBy p c n).classes = s.classes := rfl
@[simp] theorem countPairBy_nextOrder (p : PairNo) (c : PairCounter) (n : Nat) (s : State) :
    (s.countPairBy p c n).nextOrder = s.nextOrder := rfl
@[simp] theorem countPairBy_disp (p : PairNo) (c : PairCounter) (n : Nat) (s : State) :
    (s.countPairBy p c n).disp = s.disp := rfl
@[simp] theorem countPairBy_rx (p : PairNo) (c : PairCounter) (n : Nat) (s : State) :
    (s.countPairBy p c n).rx = s.rx := rfl
@[simp] theorem countPairBy_asm (p : PairNo) (c : PairCounter) (n : Nat) (s : State) :
    (s.countPairBy p c n).asm = s.asm := rfl
@[simp] theorem countPairBy_lan (p : PairNo) (c : PairCounter) (n : Nat) (s : State) :
    (s.countPairBy p c n).lan = s.lan := rfl
@[simp] theorem countPairBy_counters (p : PairNo) (c : PairCounter) (n : Nat) (s : State) :
    (s.countPairBy p c n).counters = s.counters := rfl
@[simp] theorem countPairBy_freeCount (p : PairNo) (c : PairCounter) (n : Nat) (s : State) :
    (s.countPairBy p c n).freeCount = s.freeCount := rfl

/-! ### countPair -/

@[simp] theorem countPair_pending (p : PairNo) (c : PairCounter) (s : State) :
    (s.countPair p c).pending = s.pending := rfl
@[simp] theorem countPair_now (p : PairNo) (c : PairCounter) (s : State) :
    (s.countPair p c).now = s.now := rfl
@[simp] theorem countPair_mgmt (p : PairNo) (c : PairCounter) (s : State) :
    (s.countPair p c).mgmt = s.mgmt := rfl
@[simp] theorem countPair_cfg (p : PairNo) (c : PairCounter) (s : State) :
    (s.countPair p c).cfg = s.cfg := rfl
@[simp] theorem countPair_ports (p : PairNo) (c : PairCounter) (s : State) :
    (s.countPair p c).ports = s.ports := rfl
@[simp] theorem countPair_cells (p : PairNo) (c : PairCounter) (s : State) :
    (s.countPair p c).cells = s.cells := rfl
@[simp] theorem countPair_rules (p : PairNo) (c : PairCounter) (s : State) :
    (s.countPair p c).rules = s.rules := rfl
@[simp] theorem countPair_classes (p : PairNo) (c : PairCounter) (s : State) :
    (s.countPair p c).classes = s.classes := rfl
@[simp] theorem countPair_nextOrder (p : PairNo) (c : PairCounter) (s : State) :
    (s.countPair p c).nextOrder = s.nextOrder := rfl
@[simp] theorem countPair_disp (p : PairNo) (c : PairCounter) (s : State) :
    (s.countPair p c).disp = s.disp := rfl
@[simp] theorem countPair_rx (p : PairNo) (c : PairCounter) (s : State) :
    (s.countPair p c).rx = s.rx := rfl
@[simp] theorem countPair_asm (p : PairNo) (c : PairCounter) (s : State) :
    (s.countPair p c).asm = s.asm := rfl
@[simp] theorem countPair_lan (p : PairNo) (c : PairCounter) (s : State) :
    (s.countPair p c).lan = s.lan := rfl
@[simp] theorem countPair_counters (p : PairNo) (c : PairCounter) (s : State) :
    (s.countPair p c).counters = s.counters := rfl
@[simp] theorem countPair_freeCount (p : PairNo) (c : PairCounter) (s : State) :
    (s.countPair p c).freeCount = s.freeCount := rfl

/-! ### countBy -/

@[simp] theorem countBy_pending (c : BondCounter) (n : Nat) (s : State) :
    (s.countBy c n).pending = s.pending := rfl
@[simp] theorem countBy_now (c : BondCounter) (n : Nat) (s : State) :
    (s.countBy c n).now = s.now := rfl
@[simp] theorem countBy_mgmt (c : BondCounter) (n : Nat) (s : State) :
    (s.countBy c n).mgmt = s.mgmt := rfl
@[simp] theorem countBy_cfg (c : BondCounter) (n : Nat) (s : State) :
    (s.countBy c n).cfg = s.cfg := rfl
@[simp] theorem countBy_ports (c : BondCounter) (n : Nat) (s : State) :
    (s.countBy c n).ports = s.ports := rfl
@[simp] theorem countBy_pairs (c : BondCounter) (n : Nat) (s : State) :
    (s.countBy c n).pairs = s.pairs := rfl
@[simp] theorem countBy_cells (c : BondCounter) (n : Nat) (s : State) :
    (s.countBy c n).cells = s.cells := rfl
@[simp] theorem countBy_rules (c : BondCounter) (n : Nat) (s : State) :
    (s.countBy c n).rules = s.rules := rfl
@[simp] theorem countBy_classes (c : BondCounter) (n : Nat) (s : State) :
    (s.countBy c n).classes = s.classes := rfl
@[simp] theorem countBy_nextOrder (c : BondCounter) (n : Nat) (s : State) :
    (s.countBy c n).nextOrder = s.nextOrder := rfl
@[simp] theorem countBy_disp (c : BondCounter) (n : Nat) (s : State) :
    (s.countBy c n).disp = s.disp := rfl
@[simp] theorem countBy_rx (c : BondCounter) (n : Nat) (s : State) :
    (s.countBy c n).rx = s.rx := rfl
@[simp] theorem countBy_asm (c : BondCounter) (n : Nat) (s : State) :
    (s.countBy c n).asm = s.asm := rfl
@[simp] theorem countBy_lan (c : BondCounter) (n : Nat) (s : State) :
    (s.countBy c n).lan = s.lan := rfl
@[simp] theorem countBy_freeCount (c : BondCounter) (n : Nat) (s : State) :
    (s.countBy c n).freeCount = s.freeCount := rfl

/-! ### count -/

@[simp] theorem count_pending (c : BondCounter) (s : State) :
    (s.count c).pending = s.pending := rfl
@[simp] theorem count_now (c : BondCounter) (s : State) :
    (s.count c).now = s.now := rfl
@[simp] theorem count_mgmt (c : BondCounter) (s : State) :
    (s.count c).mgmt = s.mgmt := rfl
@[simp] theorem count_cfg (c : BondCounter) (s : State) :
    (s.count c).cfg = s.cfg := rfl
@[simp] theorem count_ports (c : BondCounter) (s : State) :
    (s.count c).ports = s.ports := rfl
@[simp] theorem count_pairs (c : BondCounter) (s : State) :
    (s.count c).pairs = s.pairs := rfl
@[simp] theorem count_cells (c : BondCounter) (s : State) :
    (s.count c).cells = s.cells := rfl
@[simp] theorem count_rules (c : BondCounter) (s : State) :
    (s.count c).rules = s.rules := rfl
@[simp] theorem count_classes (c : BondCounter) (s : State) :
    (s.count c).classes = s.classes := rfl
@[simp] theorem count_nextOrder (c : BondCounter) (s : State) :
    (s.count c).nextOrder = s.nextOrder := rfl
@[simp] theorem count_disp (c : BondCounter) (s : State) :
    (s.count c).disp = s.disp := rfl
@[simp] theorem count_rx (c : BondCounter) (s : State) :
    (s.count c).rx = s.rx := rfl
@[simp] theorem count_asm (c : BondCounter) (s : State) :
    (s.count c).asm = s.asm := rfl
@[simp] theorem count_lan (c : BondCounter) (s : State) :
    (s.count c).lan = s.lan := rfl
@[simp] theorem count_freeCount (c : BondCounter) (s : State) :
    (s.count c).freeCount = s.freeCount := rfl

/-! ### setOccurrences -/

@[simp] theorem setOccurrences_pending (i : NoticeInst) (n : Nat) (s : State) :
    (s.setOccurrences i n).pending = s.pending := rfl
@[simp] theorem setOccurrences_now (i : NoticeInst) (n : Nat) (s : State) :
    (s.setOccurrences i n).now = s.now := rfl
@[simp] theorem setOccurrences_cfg (i : NoticeInst) (n : Nat) (s : State) :
    (s.setOccurrences i n).cfg = s.cfg := rfl
@[simp] theorem setOccurrences_ports (i : NoticeInst) (n : Nat) (s : State) :
    (s.setOccurrences i n).ports = s.ports := rfl
@[simp] theorem setOccurrences_pairs (i : NoticeInst) (n : Nat) (s : State) :
    (s.setOccurrences i n).pairs = s.pairs := rfl
@[simp] theorem setOccurrences_cells (i : NoticeInst) (n : Nat) (s : State) :
    (s.setOccurrences i n).cells = s.cells := rfl
@[simp] theorem setOccurrences_rules (i : NoticeInst) (n : Nat) (s : State) :
    (s.setOccurrences i n).rules = s.rules := rfl
@[simp] theorem setOccurrences_classes (i : NoticeInst) (n : Nat) (s : State) :
    (s.setOccurrences i n).classes = s.classes := rfl
@[simp] theorem setOccurrences_nextOrder (i : NoticeInst) (n : Nat) (s : State) :
    (s.setOccurrences i n).nextOrder = s.nextOrder := rfl
@[simp] theorem setOccurrences_disp (i : NoticeInst) (n : Nat) (s : State) :
    (s.setOccurrences i n).disp = s.disp := rfl
@[simp] theorem setOccurrences_rx (i : NoticeInst) (n : Nat) (s : State) :
    (s.setOccurrences i n).rx = s.rx := rfl
@[simp] theorem setOccurrences_asm (i : NoticeInst) (n : Nat) (s : State) :
    (s.setOccurrences i n).asm = s.asm := rfl
@[simp] theorem setOccurrences_lan (i : NoticeInst) (n : Nat) (s : State) :
    (s.setOccurrences i n).lan = s.lan := rfl
@[simp] theorem setOccurrences_counters (i : NoticeInst) (n : Nat) (s : State) :
    (s.setOccurrences i n).counters = s.counters := rfl
@[simp] theorem setOccurrences_freeCount (i : NoticeInst) (n : Nat) (s : State) :
    (s.setOccurrences i n).freeCount = s.freeCount := rfl

/-! ### setMark -/

@[simp] theorem setMark_pending (p : PairNo) (m : Option Seq) (s : State) :
    (s.setMark p m).pending = s.pending := rfl
@[simp] theorem setMark_now (p : PairNo) (m : Option Seq) (s : State) :
    (s.setMark p m).now = s.now := rfl
@[simp] theorem setMark_mgmt (p : PairNo) (m : Option Seq) (s : State) :
    (s.setMark p m).mgmt = s.mgmt := rfl
@[simp] theorem setMark_cfg (p : PairNo) (m : Option Seq) (s : State) :
    (s.setMark p m).cfg = s.cfg := rfl
@[simp] theorem setMark_ports (p : PairNo) (m : Option Seq) (s : State) :
    (s.setMark p m).ports = s.ports := rfl
@[simp] theorem setMark_pairs (p : PairNo) (m : Option Seq) (s : State) :
    (s.setMark p m).pairs = s.pairs := rfl
@[simp] theorem setMark_cells (p : PairNo) (m : Option Seq) (s : State) :
    (s.setMark p m).cells = s.cells := rfl
@[simp] theorem setMark_rules (p : PairNo) (m : Option Seq) (s : State) :
    (s.setMark p m).rules = s.rules := rfl
@[simp] theorem setMark_classes (p : PairNo) (m : Option Seq) (s : State) :
    (s.setMark p m).classes = s.classes := rfl
@[simp] theorem setMark_nextOrder (p : PairNo) (m : Option Seq) (s : State) :
    (s.setMark p m).nextOrder = s.nextOrder := rfl
@[simp] theorem setMark_disp (p : PairNo) (m : Option Seq) (s : State) :
    (s.setMark p m).disp = s.disp := rfl
@[simp] theorem setMark_asm (p : PairNo) (m : Option Seq) (s : State) :
    (s.setMark p m).asm = s.asm := rfl
@[simp] theorem setMark_lan (p : PairNo) (m : Option Seq) (s : State) :
    (s.setMark p m).lan = s.lan := rfl
@[simp] theorem setMark_counters (p : PairNo) (m : Option Seq) (s : State) :
    (s.setMark p m).counters = s.counters := rfl
@[simp] theorem setMark_freeCount (p : PairNo) (m : Option Seq) (s : State) :
    (s.setMark p m).freeCount = s.freeCount := rfl

/-! ### modRx -/

@[simp] theorem modRx_pending (f : Receiver → Receiver) (s : State) :
    (s.modRx f).pending = s.pending := rfl
@[simp] theorem modRx_now (f : Receiver → Receiver) (s : State) :
    (s.modRx f).now = s.now := rfl
@[simp] theorem modRx_mgmt (f : Receiver → Receiver) (s : State) :
    (s.modRx f).mgmt = s.mgmt := rfl
@[simp] theorem modRx_cfg (f : Receiver → Receiver) (s : State) :
    (s.modRx f).cfg = s.cfg := rfl
@[simp] theorem modRx_ports (f : Receiver → Receiver) (s : State) :
    (s.modRx f).ports = s.ports := rfl
@[simp] theorem modRx_pairs (f : Receiver → Receiver) (s : State) :
    (s.modRx f).pairs = s.pairs := rfl
@[simp] theorem modRx_cells (f : Receiver → Receiver) (s : State) :
    (s.modRx f).cells = s.cells := rfl
@[simp] theorem modRx_rules (f : Receiver → Receiver) (s : State) :
    (s.modRx f).rules = s.rules := rfl
@[simp] theorem modRx_classes (f : Receiver → Receiver) (s : State) :
    (s.modRx f).classes = s.classes := rfl
@[simp] theorem modRx_nextOrder (f : Receiver → Receiver) (s : State) :
    (s.modRx f).nextOrder = s.nextOrder := rfl
@[simp] theorem modRx_disp (f : Receiver → Receiver) (s : State) :
    (s.modRx f).disp = s.disp := rfl
@[simp] theorem modRx_asm (f : Receiver → Receiver) (s : State) :
    (s.modRx f).asm = s.asm := rfl
@[simp] theorem modRx_lan (f : Receiver → Receiver) (s : State) :
    (s.modRx f).lan = s.lan := rfl
@[simp] theorem modRx_counters (f : Receiver → Receiver) (s : State) :
    (s.modRx f).counters = s.counters := rfl
@[simp] theorem modRx_freeCount (f : Receiver → Receiver) (s : State) :
    (s.modRx f).freeCount = s.freeCount := rfl

/-! ### setNes -/

@[simp] theorem setNes_pending (q : Seq) (s : State) :
    (s.setNes q).pending = s.pending := rfl
@[simp] theorem setNes_now (q : Seq) (s : State) :
    (s.setNes q).now = s.now := rfl
@[simp] theorem setNes_mgmt (q : Seq) (s : State) :
    (s.setNes q).mgmt = s.mgmt := rfl
@[simp] theorem setNes_cfg (q : Seq) (s : State) :
    (s.setNes q).cfg = s.cfg := rfl
@[simp] theorem setNes_ports (q : Seq) (s : State) :
    (s.setNes q).ports = s.ports := rfl
@[simp] theorem setNes_pairs (q : Seq) (s : State) :
    (s.setNes q).pairs = s.pairs := rfl
@[simp] theorem setNes_cells (q : Seq) (s : State) :
    (s.setNes q).cells = s.cells := rfl
@[simp] theorem setNes_rules (q : Seq) (s : State) :
    (s.setNes q).rules = s.rules := rfl
@[simp] theorem setNes_classes (q : Seq) (s : State) :
    (s.setNes q).classes = s.classes := rfl
@[simp] theorem setNes_nextOrder (q : Seq) (s : State) :
    (s.setNes q).nextOrder = s.nextOrder := rfl
@[simp] theorem setNes_disp (q : Seq) (s : State) :
    (s.setNes q).disp = s.disp := rfl
@[simp] theorem setNes_asm (q : Seq) (s : State) :
    (s.setNes q).asm = s.asm := rfl
@[simp] theorem setNes_lan (q : Seq) (s : State) :
    (s.setNes q).lan = s.lan := rfl
@[simp] theorem setNes_counters (q : Seq) (s : State) :
    (s.setNes q).counters = s.counters := rfl
@[simp] theorem setNes_freeCount (q : Seq) (s : State) :
    (s.setNes q).freeCount = s.freeCount := rfl

/-! ### setAsm -/

@[simp] theorem setAsm_pending (a : Assembler) (s : State) :
    (s.setAsm a).pending = s.pending := rfl
@[simp] theorem setAsm_now (a : Assembler) (s : State) :
    (s.setAsm a).now = s.now := rfl
@[simp] theorem setAsm_mgmt (a : Assembler) (s : State) :
    (s.setAsm a).mgmt = s.mgmt := rfl
@[simp] theorem setAsm_cfg (a : Assembler) (s : State) :
    (s.setAsm a).cfg = s.cfg := rfl
@[simp] theorem setAsm_ports (a : Assembler) (s : State) :
    (s.setAsm a).ports = s.ports := rfl
@[simp] theorem setAsm_pairs (a : Assembler) (s : State) :
    (s.setAsm a).pairs = s.pairs := rfl
@[simp] theorem setAsm_cells (a : Assembler) (s : State) :
    (s.setAsm a).cells = s.cells := rfl
@[simp] theorem setAsm_rules (a : Assembler) (s : State) :
    (s.setAsm a).rules = s.rules := rfl
@[simp] theorem setAsm_classes (a : Assembler) (s : State) :
    (s.setAsm a).classes = s.classes := rfl
@[simp] theorem setAsm_nextOrder (a : Assembler) (s : State) :
    (s.setAsm a).nextOrder = s.nextOrder := rfl
@[simp] theorem setAsm_disp (a : Assembler) (s : State) :
    (s.setAsm a).disp = s.disp := rfl
@[simp] theorem setAsm_rx (a : Assembler) (s : State) :
    (s.setAsm a).rx = s.rx := rfl
@[simp] theorem setAsm_lan (a : Assembler) (s : State) :
    (s.setAsm a).lan = s.lan := rfl
@[simp] theorem setAsm_counters (a : Assembler) (s : State) :
    (s.setAsm a).counters = s.counters := rfl
@[simp] theorem setAsm_freeCount (a : Assembler) (s : State) :
    (s.setAsm a).freeCount = s.freeCount := rfl

/-! ### modDisp -/

@[simp] theorem modDisp_pending (f : Dispatcher → Dispatcher) (s : State) :
    (s.modDisp f).pending = s.pending := rfl
@[simp] theorem modDisp_now (f : Dispatcher → Dispatcher) (s : State) :
    (s.modDisp f).now = s.now := rfl
@[simp] theorem modDisp_mgmt (f : Dispatcher → Dispatcher) (s : State) :
    (s.modDisp f).mgmt = s.mgmt := rfl
@[simp] theorem modDisp_cfg (f : Dispatcher → Dispatcher) (s : State) :
    (s.modDisp f).cfg = s.cfg := rfl
@[simp] theorem modDisp_ports (f : Dispatcher → Dispatcher) (s : State) :
    (s.modDisp f).ports = s.ports := rfl
@[simp] theorem modDisp_pairs (f : Dispatcher → Dispatcher) (s : State) :
    (s.modDisp f).pairs = s.pairs := rfl
@[simp] theorem modDisp_cells (f : Dispatcher → Dispatcher) (s : State) :
    (s.modDisp f).cells = s.cells := rfl
@[simp] theorem modDisp_rules (f : Dispatcher → Dispatcher) (s : State) :
    (s.modDisp f).rules = s.rules := rfl
@[simp] theorem modDisp_classes (f : Dispatcher → Dispatcher) (s : State) :
    (s.modDisp f).classes = s.classes := rfl
@[simp] theorem modDisp_nextOrder (f : Dispatcher → Dispatcher) (s : State) :
    (s.modDisp f).nextOrder = s.nextOrder := rfl
@[simp] theorem modDisp_rx (f : Dispatcher → Dispatcher) (s : State) :
    (s.modDisp f).rx = s.rx := rfl
@[simp] theorem modDisp_asm (f : Dispatcher → Dispatcher) (s : State) :
    (s.modDisp f).asm = s.asm := rfl
@[simp] theorem modDisp_lan (f : Dispatcher → Dispatcher) (s : State) :
    (s.modDisp f).lan = s.lan := rfl
@[simp] theorem modDisp_counters (f : Dispatcher → Dispatcher) (s : State) :
    (s.modDisp f).counters = s.counters := rfl
@[simp] theorem modDisp_freeCount (f : Dispatcher → Dispatcher) (s : State) :
    (s.modDisp f).freeCount = s.freeCount := rfl

/-! ### modMgmt -/

@[simp] theorem modMgmt_pending (f : Mgmt → Mgmt) (s : State) :
    (s.modMgmt f).pending = s.pending := rfl
@[simp] theorem modMgmt_now (f : Mgmt → Mgmt) (s : State) :
    (s.modMgmt f).now = s.now := rfl
@[simp] theorem modMgmt_cfg (f : Mgmt → Mgmt) (s : State) :
    (s.modMgmt f).cfg = s.cfg := rfl
@[simp] theorem modMgmt_ports (f : Mgmt → Mgmt) (s : State) :
    (s.modMgmt f).ports = s.ports := rfl
@[simp] theorem modMgmt_pairs (f : Mgmt → Mgmt) (s : State) :
    (s.modMgmt f).pairs = s.pairs := rfl
@[simp] theorem modMgmt_cells (f : Mgmt → Mgmt) (s : State) :
    (s.modMgmt f).cells = s.cells := rfl
@[simp] theorem modMgmt_rules (f : Mgmt → Mgmt) (s : State) :
    (s.modMgmt f).rules = s.rules := rfl
@[simp] theorem modMgmt_classes (f : Mgmt → Mgmt) (s : State) :
    (s.modMgmt f).classes = s.classes := rfl
@[simp] theorem modMgmt_nextOrder (f : Mgmt → Mgmt) (s : State) :
    (s.modMgmt f).nextOrder = s.nextOrder := rfl
@[simp] theorem modMgmt_disp (f : Mgmt → Mgmt) (s : State) :
    (s.modMgmt f).disp = s.disp := rfl
@[simp] theorem modMgmt_rx (f : Mgmt → Mgmt) (s : State) :
    (s.modMgmt f).rx = s.rx := rfl
@[simp] theorem modMgmt_asm (f : Mgmt → Mgmt) (s : State) :
    (s.modMgmt f).asm = s.asm := rfl
@[simp] theorem modMgmt_lan (f : Mgmt → Mgmt) (s : State) :
    (s.modMgmt f).lan = s.lan := rfl
@[simp] theorem modMgmt_counters (f : Mgmt → Mgmt) (s : State) :
    (s.modMgmt f).counters = s.counters := rfl
@[simp] theorem modMgmt_freeCount (f : Mgmt → Mgmt) (s : State) :
    (s.modMgmt f).freeCount = s.freeCount := rfl

/-! ### setFramer -/

@[simp] theorem setFramer_pending (x : Framer) (s : State) :
    (s.setFramer x).pending = s.pending := rfl
@[simp] theorem setFramer_now (x : Framer) (s : State) :
    (s.setFramer x).now = s.now := rfl
@[simp] theorem setFramer_cfg (x : Framer) (s : State) :
    (s.setFramer x).cfg = s.cfg := rfl
@[simp] theorem setFramer_ports (x : Framer) (s : State) :
    (s.setFramer x).ports = s.ports := rfl
@[simp] theorem setFramer_pairs (x : Framer) (s : State) :
    (s.setFramer x).pairs = s.pairs := rfl
@[simp] theorem setFramer_cells (x : Framer) (s : State) :
    (s.setFramer x).cells = s.cells := rfl
@[simp] theorem setFramer_rules (x : Framer) (s : State) :
    (s.setFramer x).rules = s.rules := rfl
@[simp] theorem setFramer_classes (x : Framer) (s : State) :
    (s.setFramer x).classes = s.classes := rfl
@[simp] theorem setFramer_nextOrder (x : Framer) (s : State) :
    (s.setFramer x).nextOrder = s.nextOrder := rfl
@[simp] theorem setFramer_disp (x : Framer) (s : State) :
    (s.setFramer x).disp = s.disp := rfl
@[simp] theorem setFramer_rx (x : Framer) (s : State) :
    (s.setFramer x).rx = s.rx := rfl
@[simp] theorem setFramer_asm (x : Framer) (s : State) :
    (s.setFramer x).asm = s.asm := rfl
@[simp] theorem setFramer_lan (x : Framer) (s : State) :
    (s.setFramer x).lan = s.lan := rfl
@[simp] theorem setFramer_counters (x : Framer) (s : State) :
    (s.setFramer x).counters = s.counters := rfl
@[simp] theorem setFramer_freeCount (x : Framer) (s : State) :
    (s.setFramer x).freeCount = s.freeCount := rfl

/-! ### setRule -/

@[simp] theorem setRule_pending (i : Fin 64) (r : Rule) (s : State) :
    (s.setRule i r).pending = s.pending := rfl
@[simp] theorem setRule_now (i : Fin 64) (r : Rule) (s : State) :
    (s.setRule i r).now = s.now := rfl
@[simp] theorem setRule_mgmt (i : Fin 64) (r : Rule) (s : State) :
    (s.setRule i r).mgmt = s.mgmt := rfl
@[simp] theorem setRule_cfg (i : Fin 64) (r : Rule) (s : State) :
    (s.setRule i r).cfg = s.cfg := rfl
@[simp] theorem setRule_ports (i : Fin 64) (r : Rule) (s : State) :
    (s.setRule i r).ports = s.ports := rfl
@[simp] theorem setRule_pairs (i : Fin 64) (r : Rule) (s : State) :
    (s.setRule i r).pairs = s.pairs := rfl
@[simp] theorem setRule_cells (i : Fin 64) (r : Rule) (s : State) :
    (s.setRule i r).cells = s.cells := rfl
@[simp] theorem setRule_classes (i : Fin 64) (r : Rule) (s : State) :
    (s.setRule i r).classes = s.classes := rfl
@[simp] theorem setRule_nextOrder (i : Fin 64) (r : Rule) (s : State) :
    (s.setRule i r).nextOrder = s.nextOrder := rfl
@[simp] theorem setRule_disp (i : Fin 64) (r : Rule) (s : State) :
    (s.setRule i r).disp = s.disp := rfl
@[simp] theorem setRule_rx (i : Fin 64) (r : Rule) (s : State) :
    (s.setRule i r).rx = s.rx := rfl
@[simp] theorem setRule_asm (i : Fin 64) (r : Rule) (s : State) :
    (s.setRule i r).asm = s.asm := rfl
@[simp] theorem setRule_lan (i : Fin 64) (r : Rule) (s : State) :
    (s.setRule i r).lan = s.lan := rfl
@[simp] theorem setRule_counters (i : Fin 64) (r : Rule) (s : State) :
    (s.setRule i r).counters = s.counters := rfl
@[simp] theorem setRule_freeCount (i : Fin 64) (r : Rule) (s : State) :
    (s.setRule i r).freeCount = s.freeCount := rfl

/-! ### setCls -/

@[simp] theorem setCls_pending (c : Fin 4) (q : ClassQueue) (s : State) :
    (s.setCls c q).pending = s.pending := rfl
@[simp] theorem setCls_now (c : Fin 4) (q : ClassQueue) (s : State) :
    (s.setCls c q).now = s.now := rfl
@[simp] theorem setCls_mgmt (c : Fin 4) (q : ClassQueue) (s : State) :
    (s.setCls c q).mgmt = s.mgmt := rfl
@[simp] theorem setCls_cfg (c : Fin 4) (q : ClassQueue) (s : State) :
    (s.setCls c q).cfg = s.cfg := rfl
@[simp] theorem setCls_ports (c : Fin 4) (q : ClassQueue) (s : State) :
    (s.setCls c q).ports = s.ports := rfl
@[simp] theorem setCls_pairs (c : Fin 4) (q : ClassQueue) (s : State) :
    (s.setCls c q).pairs = s.pairs := rfl
@[simp] theorem setCls_cells (c : Fin 4) (q : ClassQueue) (s : State) :
    (s.setCls c q).cells = s.cells := rfl
@[simp] theorem setCls_rules (c : Fin 4) (q : ClassQueue) (s : State) :
    (s.setCls c q).rules = s.rules := rfl
@[simp] theorem setCls_nextOrder (c : Fin 4) (q : ClassQueue) (s : State) :
    (s.setCls c q).nextOrder = s.nextOrder := rfl
@[simp] theorem setCls_disp (c : Fin 4) (q : ClassQueue) (s : State) :
    (s.setCls c q).disp = s.disp := rfl
@[simp] theorem setCls_rx (c : Fin 4) (q : ClassQueue) (s : State) :
    (s.setCls c q).rx = s.rx := rfl
@[simp] theorem setCls_asm (c : Fin 4) (q : ClassQueue) (s : State) :
    (s.setCls c q).asm = s.asm := rfl
@[simp] theorem setCls_lan (c : Fin 4) (q : ClassQueue) (s : State) :
    (s.setCls c q).lan = s.lan := rfl
@[simp] theorem setCls_counters (c : Fin 4) (q : ClassQueue) (s : State) :
    (s.setCls c q).counters = s.counters := rfl
@[simp] theorem setCls_freeCount (c : Fin 4) (q : ClassQueue) (s : State) :
    (s.setCls c q).freeCount = s.freeCount := rfl

/-! ### pushOut -/

@[simp] theorem pushOut_pending (m : Message) (s : State) :
    (pushOut m s).pending = s.pending := rfl
@[simp] theorem pushOut_now (m : Message) (s : State) :
    (pushOut m s).now = s.now := rfl
@[simp] theorem pushOut_cfg (m : Message) (s : State) :
    (pushOut m s).cfg = s.cfg := rfl
@[simp] theorem pushOut_ports (m : Message) (s : State) :
    (pushOut m s).ports = s.ports := rfl
@[simp] theorem pushOut_pairs (m : Message) (s : State) :
    (pushOut m s).pairs = s.pairs := rfl
@[simp] theorem pushOut_cells (m : Message) (s : State) :
    (pushOut m s).cells = s.cells := rfl
@[simp] theorem pushOut_rules (m : Message) (s : State) :
    (pushOut m s).rules = s.rules := rfl
@[simp] theorem pushOut_classes (m : Message) (s : State) :
    (pushOut m s).classes = s.classes := rfl
@[simp] theorem pushOut_nextOrder (m : Message) (s : State) :
    (pushOut m s).nextOrder = s.nextOrder := rfl
@[simp] theorem pushOut_disp (m : Message) (s : State) :
    (pushOut m s).disp = s.disp := rfl
@[simp] theorem pushOut_rx (m : Message) (s : State) :
    (pushOut m s).rx = s.rx := rfl
@[simp] theorem pushOut_asm (m : Message) (s : State) :
    (pushOut m s).asm = s.asm := rfl
@[simp] theorem pushOut_lan (m : Message) (s : State) :
    (pushOut m s).lan = s.lan := rfl
@[simp] theorem pushOut_counters (m : Message) (s : State) :
    (pushOut m s).counters = s.counters := rfl
@[simp] theorem pushOut_freeCount (m : Message) (s : State) :
    (pushOut m s).freeCount = s.freeCount := rfl

/-! ### removeHead -/

@[simp] theorem removeHead_pending (s : State) :
    (removeHead s).pending = s.pending := rfl
@[simp] theorem removeHead_now (s : State) :
    (removeHead s).now = s.now := rfl
@[simp] theorem removeHead_cfg (s : State) :
    (removeHead s).cfg = s.cfg := rfl
@[simp] theorem removeHead_ports (s : State) :
    (removeHead s).ports = s.ports := rfl
@[simp] theorem removeHead_pairs (s : State) :
    (removeHead s).pairs = s.pairs := rfl
@[simp] theorem removeHead_cells (s : State) :
    (removeHead s).cells = s.cells := rfl
@[simp] theorem removeHead_rules (s : State) :
    (removeHead s).rules = s.rules := rfl
@[simp] theorem removeHead_classes (s : State) :
    (removeHead s).classes = s.classes := rfl
@[simp] theorem removeHead_nextOrder (s : State) :
    (removeHead s).nextOrder = s.nextOrder := rfl
@[simp] theorem removeHead_disp (s : State) :
    (removeHead s).disp = s.disp := rfl
@[simp] theorem removeHead_rx (s : State) :
    (removeHead s).rx = s.rx := rfl
@[simp] theorem removeHead_asm (s : State) :
    (removeHead s).asm = s.asm := rfl
@[simp] theorem removeHead_lan (s : State) :
    (removeHead s).lan = s.lan := rfl
@[simp] theorem removeHead_counters (s : State) :
    (removeHead s).counters = s.counters := rfl
@[simp] theorem removeHead_freeCount (s : State) :
    (removeHead s).freeCount = s.freeCount := rfl

/-! ### raise -/

@[simp] theorem raise_pending (i : NoticeInst) (s : State) :
    (s.raise i).pending = s.pending := by
  unfold State.raise; split <;> rfl
@[simp] theorem raise_now (i : NoticeInst) (s : State) :
    (s.raise i).now = s.now := by
  unfold State.raise; split <;> rfl
@[simp] theorem raise_cfg (i : NoticeInst) (s : State) :
    (s.raise i).cfg = s.cfg := by
  unfold State.raise; split <;> rfl
@[simp] theorem raise_ports (i : NoticeInst) (s : State) :
    (s.raise i).ports = s.ports := by
  unfold State.raise; split <;> rfl
@[simp] theorem raise_pairs (i : NoticeInst) (s : State) :
    (s.raise i).pairs = s.pairs := by
  unfold State.raise; split <;> rfl
@[simp] theorem raise_cells (i : NoticeInst) (s : State) :
    (s.raise i).cells = s.cells := by
  unfold State.raise; split <;> rfl
@[simp] theorem raise_rules (i : NoticeInst) (s : State) :
    (s.raise i).rules = s.rules := by
  unfold State.raise; split <;> rfl
@[simp] theorem raise_classes (i : NoticeInst) (s : State) :
    (s.raise i).classes = s.classes := by
  unfold State.raise; split <;> rfl
@[simp] theorem raise_nextOrder (i : NoticeInst) (s : State) :
    (s.raise i).nextOrder = s.nextOrder := by
  unfold State.raise; split <;> rfl
@[simp] theorem raise_disp (i : NoticeInst) (s : State) :
    (s.raise i).disp = s.disp := by
  unfold State.raise; split <;> rfl
@[simp] theorem raise_rx (i : NoticeInst) (s : State) :
    (s.raise i).rx = s.rx := by
  unfold State.raise; split <;> rfl
@[simp] theorem raise_asm (i : NoticeInst) (s : State) :
    (s.raise i).asm = s.asm := by
  unfold State.raise; split <;> rfl
@[simp] theorem raise_lan (i : NoticeInst) (s : State) :
    (s.raise i).lan = s.lan := by
  unfold State.raise; split <;> rfl
@[simp] theorem raise_counters (i : NoticeInst) (s : State) :
    (s.raise i).counters = s.counters := by
  unfold State.raise; split <;> rfl
@[simp] theorem raise_freeCount (i : NoticeInst) (s : State) :
    (s.raise i).freeCount = s.freeCount := by
  unfold State.raise; split <;> rfl
/-! ### race -/

@[simp] theorem race_pending (s : State) :
    s.race.2.pending = s.pending := rfl
@[simp] theorem race_now (s : State) :
    s.race.2.now = s.now := rfl
@[simp] theorem race_mgmt (s : State) :
    s.race.2.mgmt = s.mgmt := rfl
@[simp] theorem race_cfg (s : State) :
    s.race.2.cfg = s.cfg := rfl
@[simp] theorem race_ports (s : State) :
    s.race.2.ports = s.ports := rfl
@[simp] theorem race_pairs (s : State) :
    s.race.2.pairs = s.pairs := rfl
@[simp] theorem race_cells (s : State) :
    s.race.2.cells = s.cells := rfl
@[simp] theorem race_rules (s : State) :
    s.race.2.rules = s.rules := rfl
@[simp] theorem race_classes (s : State) :
    s.race.2.classes = s.classes := rfl
@[simp] theorem race_nextOrder (s : State) :
    s.race.2.nextOrder = s.nextOrder := rfl
@[simp] theorem race_disp (s : State) :
    s.race.2.disp = s.disp := rfl
@[simp] theorem race_rx (s : State) :
    s.race.2.rx = s.rx := rfl
@[simp] theorem race_asm (s : State) :
    s.race.2.asm = s.asm := rfl
@[simp] theorem race_lan (s : State) :
    s.race.2.lan = s.lan := rfl
@[simp] theorem race_counters (s : State) :
    s.race.2.counters = s.counters := rfl

end Sys2Proof.Machine
end

