-- ==== Sys2Proof/Laws/Ops.lean ====
section
/-! SUPPORT. Reads after updates: ports, pairs, marks, counters, notice counts; sequence distances. -/

namespace Sys2Proof.Machine

/-! ### Ports and pairs -/

@[simp] theorem port_setPort (p : PairNo) (x : Port) (s : State) : (s.setPort p x).port p = x := by
  simp [State.port, State.setPort]

theorem port_setPort_ne {p q : PairNo} (h : q ≠ p) (x : Port) (s : State) : (s.setPort p x).port q = s.port q := by
  have : p.val ≠ q.val := fun e => h (Fin.ext e.symm)
  simp [State.port, State.setPort, this]

@[simp] theorem port_modPort (p : PairNo) (f : Port → Port) (s : State) : (s.modPort p f).port p = f (s.port p) := by
  simp [State.modPort]

theorem port_modPort_ne {p q : PairNo} (h : q ≠ p) (f : Port → Port) (s : State) :
    (s.modPort p f).port q = s.port q := port_setPort_ne h _ _

@[simp] theorem pair_setPair (p : PairNo) (x : Pair) (s : State) : (s.setPair p x).pair p = x := by
  simp [State.pair, State.setPair]

theorem pair_setPair_ne {p q : PairNo} (h : q ≠ p) (x : Pair) (s : State) : (s.setPair p x).pair q = s.pair q := by
  have : p.val ≠ q.val := fun e => h (Fin.ext e.symm)
  simp [State.pair, State.setPair, this]

@[simp] theorem pair_modPair (p : PairNo) (f : Pair → Pair) (s : State) : (s.modPair p f).pair p = f (s.pair p) := by
  simp [State.modPair]

theorem pair_modPair_ne {p q : PairNo} (h : q ≠ p) (f : Pair → Pair) (s : State) :
    (s.modPair p f).pair q = s.pair q := pair_setPair_ne h _ _

/-- Equal vectors of ports give equal ports. -/
theorem port_congr {s t : State} (h : t.ports = s.ports) (p : PairNo) : t.port p = s.port p := by
  simp [State.port, h]

/-- Equal vectors of pairs give equal pairs. -/
theorem pair_congr {s t : State} (h : t.pairs = s.pairs) (p : PairNo) : t.pair p = s.pair p := by
  simp [State.pair, h]

@[simp] theorem port_setPair (p q : PairNo) (x : Pair) (s : State) : (s.setPair p x).port q = s.port q := rfl
@[simp] theorem port_modPair (p q : PairNo) (f : Pair → Pair) (s : State) : (s.modPair p f).port q = s.port q := rfl
@[simp] theorem pair_setPort (p q : PairNo) (x : Port) (s : State) : (s.setPort p x).pair q = s.pair q := rfl
@[simp] theorem pair_modPort (p q : PairNo) (f : Port → Port) (s : State) : (s.modPort p f).pair q = s.pair q := rfl
@[simp] theorem pair_modRx (f : Receiver → Receiver) (q : PairNo) (s : State) : (s.modRx f).pair q = s.pair q := rfl
@[simp] theorem port_modRx (f : Receiver → Receiver) (q : PairNo) (s : State) : (s.modRx f).port q = s.port q := rfl
@[simp] theorem pair_count (c : BondCounter) (q : PairNo) (s : State) : (s.count c).pair q = s.pair q := rfl
@[simp] theorem port_count (c : BondCounter) (q : PairNo) (s : State) : (s.count c).port q = s.port q := rfl
@[simp] theorem pair_raise (i : NoticeInst) (q : PairNo) (s : State) : (s.raise i).pair q = s.pair q :=
  pair_congr (raise_pairs i s) q
@[simp] theorem port_raise (i : NoticeInst) (q : PairNo) (s : State) : (s.raise i).port q = s.port q :=
  port_congr (raise_ports i s) q
@[simp] theorem pair_reach (d : Nat) (q : PairNo) (s : State) : (s.reach d).pair q = s.pair q := rfl
@[simp] theorem port_reach (d : Nat) (q : PairNo) (s : State) : (s.reach d).port q = s.port q := rfl

/-! ### Marks -/

@[simp] theorem mark_setMark (p : PairNo) (m : Option Seq) (s : State) : (s.setMark p m).mark p = m := by
  simp [State.mark, State.setMark]

theorem mark_setMark_ne {p q : PairNo} (h : q ≠ p) (m : Option Seq) (s : State) :
    (s.setMark p m).mark q = s.mark q := by
  have : p.val ≠ q.val := fun e => h (Fin.ext e.symm)
  simp [State.mark, State.setMark, this]

/-! ### Counters -/

@[simp] theorem counter_countBy (c : BondCounter) (n : Nat) (s : State) :
    (s.countBy c n).counter c = countUp (s.counter c) n := by
  simp [State.counter, State.countBy]

theorem counter_countBy_ne {c d : BondCounter} (h : d.place ≠ c.place) (n : Nat) (s : State) :
    (s.countBy c n).counter d = s.counter d := by
  have : c.place.val ≠ d.place.val := fun e => h (Fin.ext e.symm)
  simp [State.counter, State.countBy, this]

@[simp] theorem pair_counter_countBy (c : PairCounter) (n : Nat) (r : Pair) :
    (r.countBy c n).counter c = countUp (r.counter c) n := by
  simp [Pair.counter, Pair.countBy]

/-- A counter never passes its largest value. -/
theorem countUp_le (c n : Nat) : countUp c n ≤ Config.counterMax := Nat.min_le_right _ _

/-! ### Notice counts -/

@[simp] theorem occurrences_setOccurrences (i : NoticeInst) (n : Nat) (s : State) :
    (s.setOccurrences i n).occurrences i = n := by
  simp [State.occurrences, State.setOccurrences]

theorem occurrences_setOccurrences_ne {i j : NoticeInst} (h : j.place ≠ i.place) (n : Nat) (s : State) :
    (s.setOccurrences i n).occurrences j = s.occurrences j := by
  have : i.place.val ≠ j.place.val := fun e => h (Fin.ext e.symm)
  simp [State.occurrences, State.setOccurrences, this]

/-- What `raise` can do: pending notice counts of the management link change, nothing else. -/
theorem raise_mgmt (i : NoticeInst) (s : State) :
    (s.raise i).mgmt = { s.mgmt with notices := (s.raise i).mgmt.notices } := by
  unfold State.raise; split <;> rfl

/-- A masked occurrence is ignored (R186). -/
theorem raise_masked {i : NoticeInst} {s : State} (h : s.isMasked i = true) : s.raise i = s := by
  simp [State.raise, h]

/-- An unmasked occurrence is counted up to 255 (R187). -/
theorem raise_unmasked {i : NoticeInst} {s : State} (h : s.isMasked i = false) :
    (s.raise i).occurrences i = min (s.occurrences i + 1) 255 := by
  simp [State.raise, h]

/-! ### Sequence numbers -/

/-- A distance is below 16384. -/
theorem dist_lt (a b : Seq) : dist a b < 16384 := (a - b).isLt

@[simp] theorem dist_self (a : Seq) : dist a a = 0 := by simp [dist]

/-- A number is its reference moved by its distance. -/
theorem add_dist (a b : Seq) : b + BitVec.ofNat 14 (dist a b) = a := by
  have : BitVec.ofNat 14 (dist a b) = a - b := BitVec.eq_of_toNat_eq (by simp [dist])
  rw [this]
  bv_omega

/-! ### Running through pairs -/

/-- A property kept by the act for each pair is kept by the run through all. -/
theorem forPairs_induct {f : PairNo → State → State} {P : State → Prop} (hf : ∀ p s, P s → P (f p s)) (s : State)
    (h : P s) : P (forPairs f s) := by
  unfold forPairs
  suffices ∀ (l : List PairNo) (s : State), P s → P (l.foldl (fun s p => f p s) s) from this allPairs s h
  intro l
  induction l with
  | nil => exact fun s h => h
  | cons p l ih => exact fun s h => ih _ (hf p s h)

end Sys2Proof.Machine
end

