-- ==== Sys2Proof/Laws/Frames.lean ====
section
/-! SUPPORT. The frames are reflexive and transitive, and the frame of each operation of the Cell Memory, the Frame
Assembler and the Reorder Engine. -/

namespace Sys2Proof.Machine

/-! ### Frames as relations -/

theorem CellsFrame.refl (s : State) : CellsFrame s s := by constructor <;> rfl

theorem CellsFrame.trans {s t u : State} (h : CellsFrame s t) (k : CellsFrame t u) : CellsFrame s u := by
  constructor
  · exact k.pending.trans h.pending
  · exact k.now.trans h.now
  · rw [k.mgmt, h.mgmt]
  · exact k.cfg.trans h.cfg
  · exact k.ports.trans h.ports
  · exact k.pairs.trans h.pairs
  · exact k.rules.trans h.rules
  · exact k.classes.trans h.classes
  · exact k.nextOrder.trans h.nextOrder
  · exact k.disp.trans h.disp
  · exact k.rx.trans h.rx
  · exact k.asm.trans h.asm
  · exact k.lan.trans h.lan
  · exact k.freeCount.trans h.freeCount

theorem CellsFrame.inbound {s t : State} (h : CellsFrame s t) : InboundFrame s t := by
  constructor
  · exact h.pending
  · exact h.now
  · exact h.mgmt
  · exact h.cfg
  · exact h.ports
  · exact h.pairs
  · exact h.rules
  · exact h.classes
  · exact h.nextOrder
  · exact h.disp
  · rw [h.lan]
  · exact h.freeCount

theorem InboundFrame.refl (s : State) : InboundFrame s s := by constructor <;> rfl

theorem InboundFrame.trans {s t u : State} (h : InboundFrame s t) (k : InboundFrame t u) : InboundFrame s u := by
  constructor
  · exact k.pending.trans h.pending
  · exact k.now.trans h.now
  · rw [k.mgmt, h.mgmt]
  · exact k.cfg.trans h.cfg
  · exact k.ports.trans h.ports
  · exact k.pairs.trans h.pairs
  · exact k.rules.trans h.rules
  · exact k.classes.trans h.classes
  · exact k.nextOrder.trans h.nextOrder
  · exact k.disp.trans h.disp
  · rw [k.lan, h.lan]
  · exact k.freeCount.trans h.freeCount

theorem EventFrame.refl (s : State) : EventFrame s s := by constructor <;> rfl

theorem EventFrame.trans {s t u : State} (h : EventFrame s t) (k : EventFrame t u) : EventFrame s u := by
  constructor
  · exact k.pending.trans h.pending
  · rw [k.mgmt, h.mgmt]
  · exact k.cfg.trans h.cfg
  · exact k.rules.trans h.rules
  · exact k.nextOrder.trans h.nextOrder
  · rw [k.lan, h.lan]

theorem InboundFrame.event {s t : State} (h : InboundFrame s t) : EventFrame s t :=
  ⟨h.pending, h.mgmt, h.cfg, h.rules, h.nextOrder, h.lan⟩

/-! ### Counters and notices -/

theorem countBy_frame (c : BondCounter) (n : Nat) (s : State) : CellsFrame s (s.countBy c n) := by constructor <;> rfl

theorem count_frame (c : BondCounter) (s : State) : CellsFrame s (s.count c) := countBy_frame c 1 s

theorem raise_frame (i : NoticeInst) (s : State) : CellsFrame s (s.raise i) := by
  unfold State.raise
  split
  · exact CellsFrame.refl s
  · constructor <;> rfl

/-! ### Cell Memory -/

theorem evalPressure_frame (s : State) : CellsFrame s (evalPressure s) := by
  unfold evalPressure
  split
  · exact CellsFrame.refl s
  · constructor <;> (dsimp only; split <;> rfl)

theorem evalLevel_frame (s : State) : CellsFrame s (evalLevel s) := by
  unfold evalLevel
  split
  · exact CellsFrame.refl s
  · refine (raise_frame .storeLevel s).trans ?_
    constructor <;> rfl

/-- What the evaluation of R79 and R80 can do. -/
theorem evaluate_frame (s : State) : CellsFrame s (evaluate s) :=
  (evalPressure_frame s).trans (evalLevel_frame _)

theorem evalPressure_usedIn (s : State) : (evalPressure s).cells.usedIn = s.cells.usedIn := by
  unfold evalPressure
  split
  · rfl
  · dsimp only; split <;> rfl

theorem evalPressure_usedOut (s : State) : (evalPressure s).cells.usedOut = s.cells.usedOut := by
  unfold evalPressure
  split
  · rfl
  · dsimp only; split <;> rfl

theorem evalLevel_usedIn (s : State) : (evalLevel s).cells.usedIn = s.cells.usedIn := by
  unfold evalLevel
  split
  · rfl
  · simp

theorem evalLevel_usedOut (s : State) : (evalLevel s).cells.usedOut = s.cells.usedOut := by
  unfold evalLevel
  split
  · rfl
  · simp

@[simp] theorem evaluate_usedIn (s : State) : (evaluate s).cells.usedIn = s.cells.usedIn := by
  rw [evaluate, evalLevel_usedIn, evalPressure_usedIn]

@[simp] theorem evaluate_usedOut (s : State) : (evaluate s).cells.usedOut = s.cells.usedOut := by
  rw [evaluate, evalLevel_usedOut, evalPressure_usedOut]

/-- What a return can do (R74): the use count of its side falls, and what the evaluation does. -/
theorem returnCells_frame (side : Side) (n : Nat) (s : State) : CellsFrame s (returnCells side n s) := by
  refine CellsFrame.trans ?_ (evaluate_frame _)
  constructor <;> rfl

theorem returnCells_usedOut (n : Nat) (s : State) :
    (returnCells .outbound n s).cells.usedOut = s.cells.usedOut - n := by
  simp [returnCells, Cells.setUsed, Cells.used]

theorem returnCells_usedIn (n : Nat) (s : State) : (returnCells .inbound n s).cells.usedIn = s.cells.usedIn - n := by
  simp [returnCells, Cells.setUsed, Cells.used]

/-- What a granted request can do (R74). -/
theorem requestCells_frame {side : Side} {n : Nat} {s t : State} (h : requestCells side n s = some t) :
    n ≤ s.cells.avail side ∧ CellsFrame s t := by
  unfold requestCells at h
  split at h
  · injection h with h
    subst h
    refine ⟨‹_›, CellsFrame.trans ?_ (evaluate_frame _)⟩
    constructor <;> rfl
  · cases h

/-- A request fails exactly when it is beyond what its side can still allocate (R74). -/
theorem requestCells_none {side : Side} {n : Nat} {s : State} :
    requestCells side n s = none ↔ s.cells.avail side < n := by
  unfold requestCells
  split <;> simp <;> omega

/-! ### Frame Assembler -/

theorem setAsm_frame (a : Assembler) (s : State) : InboundFrame s (s.setAsm a) := by constructor <;> rfl

theorem modRx_frame (f : Receiver → Receiver) (s : State) : InboundFrame s (s.modRx f) := by constructor <;> rfl

theorem setNes_frame (q : Seq) (s : State) : InboundFrame s (s.setNes q) := by constructor <;> rfl

theorem setMark_frame (p : PairNo) (m : Option Seq) (s : State) : InboundFrame s (s.setMark p m) := by
  constructor <;> rfl

theorem lanAccept_frame (f : LanFrame) (s : State) : InboundFrame s (lanAccept f s) := by
  unfold lanAccept
  split
  · split
    · exact ((count_frame _ _).trans (returnCells_frame _ _ _)).inbound
    · constructor <;> rfl
  · exact ((count_frame _ _).trans (returnCells_frame _ _ _)).inbound

theorem asmComplete_frame (octets : List Octet) (n : Nat) (s : State) : InboundFrame s (asmComplete octets n s) := by
  unfold asmComplete
  split
  · exact (setAsm_frame _ s).trans ((count_frame _ _).trans (returnCells_frame _ _ _)).inbound
  · exact ((setAsm_frame _ s).trans (count_frame _ _).inbound).trans (lanAccept_frame _ _)

theorem asmKeep_frame (soFar : List Octet) (held : Nat) (r : FragRecord) (s : State) :
    InboundFrame s (asmKeep soFar held r s) := by
  unfold asmKeep
  dsimp only
  split
  · exact (setAsm_frame _ s).trans
      (((count_frame _ _).trans (returnCells_frame _ _ _)).trans (returnCells_frame _ _ _)).inbound
  · split
    · exact (setAsm_frame _ s).trans
        (((returnCells_frame _ _ _).trans (returnCells_frame _ _ _)).trans (count_frame _ _)).inbound
    · rename_i s' h
      have h' : InboundFrame s s' := by
        split at h
        · injection h with h
          exact h ▸ InboundFrame.refl s
        · exact (requestCells_frame h).2.inbound
      split
      · exact ((h'.trans (setAsm_frame _ _)).trans (returnCells_frame _ _ _).inbound).trans (asmComplete_frame _ _ _)
      · exact (h'.trans (setAsm_frame _ _)).trans (returnCells_frame _ _ _).inbound

theorem asmDiscard_frame (c : BondCounter) (s : State) : CellsFrame s (asmDiscard c s) := by
  unfold asmDiscard
  split
  · exact (count_frame _ _).trans (returnCells_frame _ _ _)
  · exact CellsFrame.refl s

/-- What the Frame Assembler can do with a fragment (R161). -/
theorem asmTake_frame (r : FragRecord) (s : State) : InboundFrame s (asmTake r s) := by
  unfold asmTake
  split
  · exact (asmDiscard_frame _ s).inbound.trans (asmKeep_frame _ _ _ _)
  · exact ((count_frame _ _).trans (returnCells_frame _ _ _)).inbound
  · exact asmKeep_frame _ _ _ _
  · dsimp only
    refine InboundFrame.trans (InboundFrame.trans ?_ (setAsm_frame _ _)) (returnCells_frame _ _ _).inbound
    split
    · exact InboundFrame.refl s
    · exact (count_frame _ _).inbound

theorem asmLoss_frame (s : State) : InboundFrame s (asmLoss s) := by
  unfold asmLoss
  split
  · exact setAsm_frame _ s
  · exact (asmDiscard_frame _ s).inbound.trans (setAsm_frame _ _)
  · exact InboundFrame.refl s

theorem asmResync_frame (s : State) : InboundFrame s (asmResync s) :=
  (asmDiscard_frame _ s).inbound.trans (setAsm_frame _ _)

/-! ### Reorder Engine -/

theorem recordGap_frame (g : GapRecord) (s : State) : InboundFrame s (recordGap g s) := by
  unfold recordGap
  split
  · split
    · exact modRx_frame _ s
    · split
      · exact modRx_frame _ s
      · exact (count_frame _ _).inbound
  · exact (modRx_frame _ s).trans (raise_frame _ _).inbound

/-- What a declaration of loss can do (R150). -/
theorem declare_frame (f : Seq) (n : Nat) (cause : LossCause) (live : BitVec 8) (s : State) :
    InboundFrame s (declare f n cause live s) :=
  ((asmLoss_frame s).trans (recordGap_frame _ _)).trans (countBy_frame _ _ _).inbound

theorem declareTo_frame (q : Seq) (cause : LossCause) (s : State) : InboundFrame s (declareTo q cause s) :=
  (declare_frame _ _ _ _ s).trans (setNes_frame _ _)

theorem handOn_frame (r : FragRecord) (s : State) : InboundFrame s (handOn r s) := by
  unfold handOn
  exact ((asmTake_frame r s).trans (modRx_frame _ _)).trans (setNes_frame _ _)

theorem gapMove_frame {s t : State} (h : gapMove s = some t) : InboundFrame s t := by
  unfold gapMove at h
  split at h
  · cases h
  · split at h
    · injection h with h
      subst h
      split
      · exact modRx_frame _ s
      · exact handOn_frame _ s
    · split at h
      · injection h with h
        subst h
        exact declareTo_frame _ _ s
      · cases h

theorem gapMoves_frame (n : Nat) (s : State) : InboundFrame s (gapMoves n s) := by
  induction n generalizing s with
  | zero => exact InboundFrame.refl s
  | succ n ih =>
    unfold gapMoves
    split
    · exact InboundFrame.refl s
    · exact (gapMove_frame ‹_›).trans (ih _)

theorem gapTimerStep_frame (s : State) : InboundFrame s (gapTimerStep s) := by
  unfold gapTimerStep
  split
  · split
    · exact modRx_frame _ s
    · exact InboundFrame.refl s
  · exact modRx_frame _ s

theorem flushStep_frame (s : State) : InboundFrame s (flushStep s) := by
  unfold flushStep
  split
  · split
    · exact (modRx_frame _ s).trans (raise_frame _ _).inbound
    · exact InboundFrame.refl s
  · exact InboundFrame.refl s

theorem unsyncStep_frame (s : State) : InboundFrame s (unsyncStep s) := by
  unfold unsyncStep
  split
  · exact (modRx_frame _ s).trans (asmResync_frame _)
  · exact InboundFrame.refl s

/-- What a gap step can do (R149). -/
theorem gapStep_frame (s : State) : InboundFrame s (gapStep s) :=
  (((gapMoves_frame _ s).trans (gapTimerStep_frame _)).trans (flushStep_frame _)).trans (unsyncStep_frame _)

theorem takeTells_frame (n : Nat) (s : State) : InboundFrame s (takeTells n s) := by
  induction n generalizing s with
  | zero => exact InboundFrame.refl s
  | succ n ih =>
    unfold takeTells
    split
    · exact InboundFrame.refl s
    · refine InboundFrame.trans (InboundFrame.trans ?_ (gapStep_frame _)) (ih _)
      constructor <;> rfl

theorem drainTells_frame (s : State) : InboundFrame s (drainTells s) := takeTells_frame _ s

/-- With no pressure event told, there is nothing to take. -/
theorem drainTells_of_nil {s : State} (h : s.cells.tells = []) : drainTells s = s := by
  unfold drainTells
  rw [h]
  generalize ([] : List Bool).length + 16 * (s.rx.window.length + 1) = n
  cases n with
  | zero => rfl
  | succ n => simp [takeTells, h]

theorem rxFollow_frame (s : State) : InboundFrame s (rxFollow s) := (gapStep_frame s).trans (drainTells_frame _)

theorem recomputeT_frame (s : State) : InboundFrame s (recomputeT s) := by
  unfold recomputeT
  split
  · exact InboundFrame.refl s
  · exact modRx_frame _ s

theorem membershipFollow_frame (s : State) : InboundFrame s (membershipFollow s) :=
  ((gapStep_frame s).trans (recomputeT_frame _)).trans (drainTells_frame _)

/-- What accepting a JOIN can do at the receiver (R127, R130). -/
theorem rxJoin_frame (p : PairNo) (m : Seq) (e : BitVec 8) (s : State) : InboundFrame s (rxJoin p m e s) := by
  unfold rxJoin
  split
  · split
    · exact (setMark_frame _ _ s).trans (membershipFollow_frame _)
    · exact (setMark_frame _ _ s).trans (rxFollow_frame _)
  · exact (((modRx_frame _ s).trans (setMark_frame _ _ _)).trans (count_frame _ _).inbound).trans
      (membershipFollow_frame _)

/-- What a leave or a drop can do at the receiver (R133, R134). -/
theorem rxRemove_frame (p : PairNo) (s : State) : InboundFrame s (rxRemove p s) := by
  unfold rxRemove
  split
  · exact (setMark_frame _ _ s).trans (membershipFollow_frame _)
  · exact InboundFrame.refl s

theorem advanceMark_frame (p : PairNo) (m : Seq) (s : State) : InboundFrame s (advanceMark p m s) := by
  unfold advanceMark
  split
  · split
    · exact setMark_frame _ _ s
    · exact InboundFrame.refl s
  · exact InboundFrame.refl s

/-- What a PROGRESS can do at the receiver (R132). -/
theorem rxProgress_frame (p : PairNo) (m : Seq) (s : State) : InboundFrame s (rxProgress p m s) := by
  unfold rxProgress
  split
  · split
    · exact (setMark_frame _ _ s).trans (rxFollow_frame _)
    · exact InboundFrame.refl s
  · exact InboundFrame.refl s

theorem storeData_frame (q : Seq) (a b : Bool) (l : List Octet) (s : State) : InboundFrame s (storeData q a b l s) := by
  unfold storeData
  dsimp only
  split
  · exact (requestCells_frame ‹_›).2.inbound.trans (modRx_frame _ _)
  · exact (count_frame _ _).inbound

theorem slideWalk_frame (n : Nat) (t : Seq) (s : State) : InboundFrame s (slideWalk n t s) := by
  induction n generalizing s with
  | zero => exact InboundFrame.refl s
  | succ n ih =>
    unfold slideWalk
    split
    · exact InboundFrame.refl s
    · split
      · split
        · split
          · exact (handOn_frame _ s).trans (ih _)
          · exact (declareTo_frame _ _ s).trans (ih _)
        · exact declareTo_frame _ _ s
      · exact declareTo_frame _ _ s

theorem slideTo_frame (t : Seq) (s : State) : InboundFrame s (slideTo t s) :=
  (slideWalk_frame _ t s).trans (modRx_frame _ _)

/-- What the arrival of DATA can do at the receiver (R136). -/
theorem rxData_frame (p : PairNo) (a b : Bool) (q : Seq) (l : List Octet) (s : State) :
    InboundFrame s (rxData p a b q l s) := by
  have h0 : InboundFrame s (s.count .dataArrived) := (count_frame _ s).inbound
  unfold rxData
  dsimp only
  split
  · have h1 := h0.trans (advanceMark_frame p (q + 1) (s.count .dataArrived))
    split
    · split
      · exact (h1.trans (storeData_frame _ _ _ _ _)).trans (rxFollow_frame _)
      · exact (h1.trans (count_frame _ _).inbound).trans (rxFollow_frame _)
    · split
      · exact (((h1.trans (slideTo_frame _ _)).trans (storeData_frame _ _ _ _ _)).trans
          (count_frame _ _).inbound).trans (rxFollow_frame _)
      · exact (h1.trans (count_frame _ _).inbound).trans (rxFollow_frame _)
  · exact h0.trans (count_frame _ _).inbound

theorem dropStore_frame (c : Option BondCounter) (n : Nat) (s : State) : InboundFrame s (dropStore c n s) := by
  induction n generalizing s with
  | zero => exact InboundFrame.refl s
  | succ n ih =>
    unfold dropStore
    split
    · exact InboundFrame.refl s
    · refine InboundFrame.trans (InboundFrame.trans ?_ (returnCells_frame _ _ _).inbound) (ih _)
      split
      · exact (modRx_frame _ s).trans (count_frame _ _).inbound
      · exact modRx_frame _ s

theorem endFlush_frame (s : State) : InboundFrame s (endFlush s) := by
  unfold endFlush
  split
  · exact (modRx_frame _ s).trans (raise_frame _ _).inbound
  · exact InboundFrame.refl s

/-- What a peer restart can do at the receiver (R143). -/
theorem rxPeerRestart_frame (s : State) : InboundFrame s (rxPeerRestart s) := by
  unfold rxPeerRestart
  dsimp only
  refine InboundFrame.trans ?_ (drainTells_frame _)
  refine InboundFrame.trans ?_ (endFlush_frame _)
  refine InboundFrame.trans ?_ (modRx_frame _ _)
  refine InboundFrame.trans ?_ (asmResync_frame _)
  refine InboundFrame.trans ?_ (modRx_frame _ _)
  split
  · exact ((modRx_frame _ s).trans (dropStore_frame _ _ _)).trans (declare_frame _ _ _ _ _)
  · exact modRx_frame _ s

theorem rxResetBond_frame (s : State) : InboundFrame s (rxResetBond s) :=
  (modRx_frame _ s).trans (endFlush_frame _)

theorem rxLanFreed_frame (s : State) : InboundFrame s (rxLanFreed s) := (modRx_frame _ s).trans (rxFollow_frame _)

theorem rxReport_frame (p : PairNo) (s : State) : InboundFrame s (rxReport p s) := by
  unfold rxReport
  split
  · exact (recomputeT_frame s).trans (rxFollow_frame _)
  · exact InboundFrame.refl s

/-- What the expiry of the gap timer can do (R154). -/
theorem rxGapTimeout_frame (s : State) : InboundFrame s (rxGapTimeout s) := by
  unfold rxGapTimeout
  split
  · split
    · exact ((count_frame _ s).inbound.trans (declareTo_frame _ _ _)).trans (rxFollow_frame _)
    · exact InboundFrame.refl s
  · exact modRx_frame _ s

theorem rxFlush_frame (q : Seq) (s : State) : InboundFrame s (rxFlush q s) := by
  unfold rxFlush
  exact ((modRx_frame _ s).trans (count_frame _ _).inbound).trans (rxFollow_frame _)

end Sys2Proof.Machine
end

