-- ==== Sys2Proof/Laws/Window.lean ====
section
/-! SUPPORT. The reorder window: every operation on it keeps its canonical form, and reads after writes. -/

namespace Sys2Proof.Machine

/-- A slot is below 1024 (R125). -/
theorem slotOf_lt (q : Seq) : slotOf q < 1024 := Nat.mod_lt _ (by decide)

/-- The reset window is in canonical form. -/
theorem window_wf_nil : Window.wf [] := List.Pairwise.nil

/-- The records of a window after one has been placed are that one and the records before. -/
theorem mem_insertRecord {r x : FragRecord} {w : List FragRecord} (h : x ∈ insertRecord r w) : x = r ∨ x ∈ w := by
  induction w with
  | nil => simpa [insertRecord] using h
  | cons q rest ih =>
    unfold insertRecord at h
    split at h
    · exact List.mem_cons.mp h
    · split at h
      · rcases List.mem_cons.mp h with h | h
        · exact .inl h
        · exact .inr (List.mem_cons_of_mem _ h)
      · rcases List.mem_cons.mp h with h | h
        · exact .inr (h ▸ List.mem_cons_self)
        · rcases ih h with h | h
          · exact .inl h
          · exact .inr (List.mem_cons_of_mem _ h)

/-- The slots of a window after a record has been placed are the slots before and the record's own. -/
theorem slot_mem_insertRecord {r : FragRecord} {w : List FragRecord} {n : Nat}
    (h : n ∈ (insertRecord r w).map fun x => slotOf x.seq) : n = slotOf r.seq ∨ n ∈ w.map fun x => slotOf x.seq := by
  obtain ⟨x, hx, rfl⟩ := List.mem_map.mp h
  rcases mem_insertRecord hx with rfl | hx
  · exact .inl rfl
  · exact .inr (List.mem_map_of_mem hx)

/-- Placing a record keeps the canonical form (R125). -/
theorem insertRecord_wf {r : FragRecord} {w : List FragRecord} (h : Window.wf w) : Window.wf (insertRecord r w) := by
  induction w with
  | nil => simp [Window.wf, insertRecord]
  | cons q rest ih =>
    have hq := List.pairwise_cons.mp h
    unfold insertRecord
    split
    · rename_i hlt
      refine List.pairwise_cons.mpr ⟨?_, h⟩
      intro n hn
      rcases List.mem_cons.mp hn with rfl | hn
      · exact hlt
      · exact Nat.lt_trans hlt (hq.1 n hn)
    · split
      · rename_i heq
        refine List.pairwise_cons.mpr ⟨?_, hq.2⟩
        intro n hn
        show slotOf r.seq < n
        rw [heq]
        exact hq.1 n hn
      · rename_i h1 h2
        refine List.pairwise_cons.mpr ⟨?_, ih hq.2⟩
        intro n hn
        rcases slot_mem_insertRecord hn with rfl | hn
        · show slotOf q.seq < slotOf r.seq
          omega
        · exact hq.1 n hn

/-- Emptying a slot keeps the canonical form (R125). -/
theorem eraseSlot_wf {n : Nat} {w : List FragRecord} (h : Window.wf w) : Window.wf (eraseSlot n w) :=
  List.Pairwise.sublist (List.Sublist.map _ List.filter_sublist) h

/-- An emptied slot reads as empty. -/
theorem lookup_eraseSlot (n : Nat) (w : List FragRecord) : lookup n (eraseSlot n w) = none := by
  simp [lookup, eraseSlot, List.find?_eq_none]

/-- Emptying a slot leaves every other slot alone. -/
theorem lookup_eraseSlot_ne {n m : Nat} (h : m ≠ n) (w : List FragRecord) :
    lookup m (eraseSlot n w) = lookup m w := by
  unfold lookup eraseSlot
  induction w with
  | nil => rfl
  | cons q rest ih =>
    by_cases hq : slotOf q.seq = n
    · have : (slotOf q.seq == m) = false := by simp [hq, Ne.symm h]
      simp [hq, ih, Ne.symm h]
    · simp only [bne_iff_ne, ne_eq, hq, not_false_eq_true, List.filter_cons_of_pos, List.find?_cons, ih]

/-- A record placed is found in its slot. -/
theorem lookup_insertRecord {r : FragRecord} {w : List FragRecord} (h : Window.wf w) :
    lookup (slotOf r.seq) (insertRecord r w) = some r := by
  induction w with
  | nil => simp [lookup, insertRecord]
  | cons q rest ih =>
    have hq := List.pairwise_cons.mp h
    unfold insertRecord
    split
    · simp [lookup]
    · split
      · simp [lookup]
      · rename_i h1 h2
        have : (slotOf q.seq == slotOf r.seq) = false := by simp [Ne.symm h2]
        simpa [lookup, List.find?_cons, this] using ih hq.2

/-- Placing a record leaves every other slot alone. -/
theorem lookup_insertRecord_ne {r : FragRecord} {w : List FragRecord} {m : Nat} (h : m ≠ slotOf r.seq) :
    lookup m (insertRecord r w) = lookup m w := by
  have hr : (slotOf r.seq == m) = false := by simp [Ne.symm h]
  induction w with
  | nil => simp [lookup, insertRecord, hr]
  | cons q rest ih =>
    unfold insertRecord
    split
    · simp [lookup, List.find?_cons, hr]
    · split
      · rename_i heq
        have : (slotOf q.seq == m) = false := by rw [← heq]; exact hr
        simp [lookup, hr, this]
      · unfold lookup at ih ⊢
        simp only [List.find?_cons, ih]

/-- A window in canonical form holds at most 1024 records (R125). -/
theorem window_length_le {w : List FragRecord} (h : Window.wf w) : w.length ≤ 1024 := by
  have hn : (w.map fun r => slotOf r.seq).Nodup := List.Pairwise.imp (fun h => Nat.ne_of_lt h) h
  have hs : (w.map fun r => slotOf r.seq) ⊆ List.range 1024 := by
    intro n hn
    obtain ⟨r, -, rfl⟩ := List.mem_map.mp hn
    exact List.mem_range.mpr (slotOf_lt r.seq)
  simpa using (List.Nodup.subperm hn hs).length_le

/-- The lowest stored sequence is that of a stored record. -/
theorem lowestStored_mem {nes : Seq} {w : List FragRecord} {r : FragRecord} (h : lowestStored nes w = some r) :
    r ∈ w := by
  cases w with
  | nil => cases h
  | cons q rest =>
    injection h with h
    subst h
    suffices ∀ (l : List FragRecord) (a : FragRecord), l.foldl (nearer nes) a ∈ a :: l from this rest q
    intro l
    induction l with
    | nil => intro a; simp
    | cons b l ih =>
      intro a
      rcases List.mem_cons.mp (ih (nearer nes a b)) with h | h
      · rw [List.foldl_cons, h]
        unfold nearer
        split <;> simp
      · exact List.mem_cons_of_mem _ (List.mem_cons_of_mem _ h)

/-- The highest stored sequence is that of a stored record. -/
theorem highestStored_mem {nes : Seq} {w : List FragRecord} {r : FragRecord} (h : highestStored nes w = some r) :
    r ∈ w := by
  cases w with
  | nil => cases h
  | cons q rest =>
    injection h with h
    subst h
    suffices ∀ (l : List FragRecord) (a : FragRecord), l.foldl (further nes) a ∈ a :: l from this rest q
    intro l
    induction l with
    | nil => intro a; simp
    | cons b l ih =>
      intro a
      rcases List.mem_cons.mp (ih (further nes a b)) with h | h
      · rw [List.foldl_cons, h]
        unfold further
        split <;> simp
      · exact List.mem_cons_of_mem _ (List.mem_cons_of_mem _ h)

/-- Emptying the slot of a stored record makes the store smaller. -/
theorem eraseSlot_length_lt {w : List FragRecord} {r : FragRecord} (h : r ∈ w) :
    (eraseSlot (slotOf r.seq) w).length < w.length := by
  unfold eraseSlot
  exact List.length_filter_lt_length_iff_exists.mpr ⟨r, h, by simp⟩

/-! ### Delivery at rest (R147, R149) -/

/-- No record is stored just when no record is the lowest. -/
theorem lowestStored_none {nes : Seq} {w : List FragRecord} : lowestStored nes w = none ↔ w = [] := by
  cases w <;> simp [lowestStored]

/-- When neither delivery nor resolution goes on. -/
theorem gapMove_none {s : State} : gapMove s = none ↔
    s.rx.synced = false ∨ s.rx.paused = true ∨
      (lookup (slotOf s.rx.nes) s.rx.window = none ∧ (s.rx.window = [] ∨ resolution s = none)) := by
  unfold gapMove
  cases s.rx.synced <;> cases s.rx.paused <;> simp
  cases lookup (slotOf s.rx.nes) s.rx.window with
  | some r => simp
  | none =>
    rw [← lowestStored_none (nes := s.rx.nes)]
    cases lowestStored s.rx.nes s.rx.window <;> cases resolution s <;> simp

/-- A gap step of a receiver that makes no move hands on nothing and declares nothing. -/
theorem gapStep_of_gapMove_none {s : State} (h : gapMove s = none) :
    gapStep s = unsyncStep (flushStep (gapTimerStep s)) := by
  unfold gapStep
  rw [gapMoves, h]

end Sys2Proof.Machine
end

