-- ==== Sys2Proof/Laws/Pairs.lean ====
section
/-! SUPPORT. Port and pair operations: what each leaves alone, and what entry to a state makes of the pair's record. -/

namespace Sys2Proof.Machine

/-! ### The frame of an act at one pair -/

/-- What an act at pair `p` leaves alone: the other pairs and ports, the time, the next sequence number, and what no
event changes. -/
structure PairFrame (p : PairNo) (s t : State) : Prop where
  event : EventFrame s t
  now : t.now = s.now
  next : t.disp.next = s.disp.next
  pairs : ∀ q, q ≠ p → t.pair q = s.pair q
  ports : ∀ q, q ≠ p → t.port q = s.port q

theorem PairFrame.refl (p : PairNo) (s : State) : PairFrame p s s :=
  ⟨EventFrame.refl s, rfl, rfl, fun _ _ => rfl, fun _ _ => rfl⟩

theorem PairFrame.trans {p : PairNo} {s t u : State} (h : PairFrame p s t) (k : PairFrame p t u) : PairFrame p s u :=
  ⟨h.event.trans k.event, k.now.trans h.now, k.next.trans h.next,
    fun q hq => (k.pairs q hq).trans (h.pairs q hq), fun q hq => (k.ports q hq).trans (h.ports q hq)⟩

theorem InboundFrame.pairFrame {s t : State} (h : InboundFrame s t) (p : PairNo) : PairFrame p s t :=
  ⟨h.event, h.now, by rw [h.disp], fun q _ => pair_congr h.pairs q, fun q _ => port_congr h.ports q⟩

theorem modPort_frame (p : PairNo) (f : Port → Port) (s : State) : PairFrame p s (s.modPort p f) :=
  ⟨by constructor <;> rfl, rfl, rfl, fun _ _ => rfl, fun _ hq => port_modPort_ne hq f s⟩

theorem setPort_frame (p : PairNo) (x : Port) (s : State) : PairFrame p s (s.setPort p x) :=
  ⟨by constructor <;> rfl, rfl, rfl, fun _ _ => rfl, fun _ hq => port_setPort_ne hq x s⟩

theorem modPair_frame (p : PairNo) (f : Pair → Pair) (s : State) : PairFrame p s (s.modPair p f) :=
  ⟨by constructor <;> rfl, rfl, rfl, fun _ hq => pair_modPair_ne hq f s, fun _ _ => rfl⟩

theorem countPairBy_frame (p : PairNo) (c : PairCounter) (n : Nat) (s : State) : PairFrame p s (s.countPairBy p c n) :=
  modPair_frame p _ s

theorem countPair_frame (p : PairNo) (c : PairCounter) (s : State) : PairFrame p s (s.countPair p c) :=
  modPair_frame p _ s

/-! ### Pair Port -/

/-- What the handover test can do (R27). -/
theorem handover_frame (p : PairNo) (s : State) : PairFrame p s (handover p s) := by
  unfold handover
  split
  · exact modPort_frame p _ s
  · exact PairFrame.refl p s

/-- The handover test changes no pair record. -/
theorem handover_pair (p q : PairNo) (s : State) : (handover p s).pair q = s.pair q := by
  unfold handover
  split <;> rfl

/-- What a placement can do (R25, R54, R8, R27). -/
theorem stage_frame (p : PairNo) (f : Fragment) (s : State) : PairFrame p s (stage p f s) :=
  ((modPort_frame p _ s).trans (modPair_frame p _ _)).trans (handover_frame p _)

/-- What a placement makes of the pair's record (R54, R8). -/
theorem stage_pair (p : PairNo) (f : Fragment) (s : State) :
    (stage p f s).pair p =
      { s.pair p with progressTimer := none, outRef := f.reference.orElse fun _ => (s.pair p).outRef } := by
  unfold stage
  rw [handover_pair]
  simp

theorem sendOrder_frame (p : PairNo) (s : State) : PairFrame p s (sendOrder p s) := modPort_frame p _ s

@[simp] theorem sendOrder_pair (p q : PairNo) (s : State) : (sendOrder p s).pair q = s.pair q := rfl

theorem setOrder_frame (p : PairNo) (o : Order) (s : State) : PairFrame p s (setOrder p o s) := by
  unfold setOrder
  split
  · exact PairFrame.refl p s
  · exact (modPort_frame p _ s).trans (sendOrder_frame p _)

@[simp] theorem setOrder_pair (p q : PairNo) (o : Order) (s : State) : (setOrder p o s).pair q = s.pair q := by
  unfold setOrder
  split <;> rfl

/-- After an order is set, it is the order (R19). -/
theorem setOrder_order (p : PairNo) (o : Order) (s : State) : ((setOrder p o s).port p).order = o := by
  unfold setOrder
  split
  · assumption
  · cases o <;> simp [sendOrder]

/-- Setting an order leaves the line queue alone. -/
theorem setOrder_queue (p : PairNo) (o : Order) (s : State) : ((setOrder p o s).port p).queue = (s.port p).queue := by
  unfold setOrder
  split
  · rfl
  · cases o <;> simp [sendOrder]

theorem emptyQueue_frame (p : PairNo) (s : State) : PairFrame p s (emptyQueue p s) :=
  (setPort_frame p _ s).trans (countPairBy_frame p _ _ _)

/-- After an emptying the queue is empty (R31). -/
theorem emptyQueue_queue (p : PairNo) (s : State) : ((emptyQueue p s).port p).queue = [] := by
  simp [emptyQueue, State.countPairBy]

/-- An emptying leaves the order alone. -/
theorem emptyQueue_order (p : PairNo) (s : State) : ((emptyQueue p s).port p).order = (s.port p).order := by
  simp [emptyQueue, State.countPairBy]

/-- What an emptying makes of the pair's record: LOST-ON-DROP grows by the DATA entries removed (R31). -/
theorem emptyQueue_pair (p : PairNo) (s : State) :
    (emptyQueue p s).pair p = (s.pair p).countBy .lostOnDrop (dataCount (s.port p).queue) := by
  simp [emptyQueue, State.countPairBy]

theorem withdraw_frame (p : PairNo) (s : State) : PairFrame p s (withdraw p s) :=
  (setPort_frame p _ s).trans (countPairBy_frame p _ _ _)

theorem applyTaken_frame (p : PairNo) (n : Nat) (s : State) : PairFrame p s (applyTaken p n s).1 := by
  unfold applyTaken
  dsimp only
  split
  · exact ((setPort_frame p _ s).trans (countPairBy_frame p _ _ _)).trans (countPairBy_frame p _ _ _)
  · exact (((setPort_frame p _ s).trans (countPairBy_frame p _ _ _)).trans (countPairBy_frame p _ _ _)).trans
      (countPair_frame p _ _)

theorem keepReport_frame (p : PairNo) (r : Report) (s : State) : PairFrame p s (keepReport p r s) :=
  (modPort_frame p _ s).trans (handover_frame p _)

@[simp] theorem keepReport_pair (p q : PairNo) (r : Report) (s : State) :
    (keepReport p r s).pair q = s.pair q := by
  unfold keepReport
  rw [handover_pair]
  rfl

/-! ### Class Queues and purge -/

/-- What emptying the outbound half and the purge can do (R101, R102). -/
structure PurgeFrame (s t : State) : Prop where
  event : EventFrame s t
  now : t.now = s.now
  next : t.disp.next = s.disp.next
  pairs : t.pairs = s.pairs
  ports : t.ports = s.ports

theorem PurgeFrame.refl (s : State) : PurgeFrame s s := ⟨EventFrame.refl s, rfl, rfl, rfl, rfl⟩

theorem PurgeFrame.trans {s t u : State} (h : PurgeFrame s t) (k : PurgeFrame t u) : PurgeFrame s u :=
  ⟨h.event.trans k.event, k.now.trans h.now, k.next.trans h.next, k.pairs.trans h.pairs, k.ports.trans h.ports⟩

theorem InboundFrame.purgeFrame {s t : State} (h : InboundFrame s t) : PurgeFrame s t :=
  ⟨h.event, h.now, by rw [h.disp], h.pairs, h.ports⟩

theorem PurgeFrame.pairFrame {s t : State} (h : PurgeFrame s t) (p : PairNo) : PairFrame p s t :=
  ⟨h.event, h.now, h.next, fun q _ => pair_congr h.pairs q, fun q _ => port_congr h.ports q⟩

theorem returnFrames_frame (fs : List OutFrame) (s : State) : CellsFrame s (returnFrames fs s) := by
  induction fs generalizing s with
  | nil => exact CellsFrame.refl s
  | cons f fs ih => exact (returnCells_frame _ _ s).trans (ih _)

theorem emptyOutbound_frame (s : State) : PurgeFrame s (emptyOutbound s) := by
  have h1 : PurgeFrame s { s with classes := s.classes.map ClassQueue.emptied } :=
    ⟨by constructor <;> rfl, rfl, rfl, rfl, rfl⟩
  have h2 := h1.trans (returnFrames_frame s.queued _).inbound.purgeFrame
  unfold emptyOutbound
  dsimp only
  split
  · refine PurgeFrame.trans (PurgeFrame.trans h2 ?_) (returnCells_frame _ _ _).inbound.purgeFrame
    exact ⟨by constructor <;> rfl, rfl, rfl, rfl, rfl⟩
  · refine h2.trans ?_
    exact ⟨by constructor <;> rfl, rfl, rfl, rfl, rfl⟩

theorem purge_frame {during : State → State} (hd : ∀ x, PurgeFrame x (during x)) (s : State) :
    PurgeFrame s (purge during s) :=
  (((countBy_frame _ _ s).inbound.purgeFrame.trans (emptyOutbound_frame _)).trans (hd _)).trans
    (drainTells_frame _).purgeFrame

theorem activeChanged_frame {during : State → State} (hd : ∀ x, PurgeFrame x (during x)) (n : Nat) (s : State) :
    PurgeFrame s (activeChanged during n s) := by
  unfold activeChanged
  split
  · split
    · exact PurgeFrame.refl s
    · exact (raise_frame _ s).inbound.purgeFrame
  · split
    · exact (raise_frame _ s).inbound.purgeFrame.trans (purge_frame hd _)
    · exact PurgeFrame.refl s

/-! ### State entry (R39) -/

/-- A free choice uses up one free value and changes nothing else. -/
theorem race_purgeFrame (s : State) : PurgeFrame s s.race.2 :=
  ⟨by constructor <;> rfl, rfl, rfl, rfl, rfl⟩

/-- Whatever the order of removal and purge (R75), the act is made once, on a state that differs from the one before in
nothing a purge leaves alone, and what is done during its purge leaves the same alone. -/
theorem withRemoval_cases (p : PairNo) (act : (State → State) → State → State) (s : State) :
    ∃ during u, (∀ x, PurgeFrame x (during x)) ∧ PurgeFrame s u ∧ withRemoval p act s = act during u := by
  have hr : ∀ x, PurgeFrame x (rxRemove p x) := fun x => (rxRemove_frame p x).purgeFrame
  have h2 : PurgeFrame s s.race.2.race.2 := (race_purgeFrame s).trans (race_purgeFrame _)
  unfold withRemoval
  split
  · dsimp only
    split
    · refine ⟨_, _, fun x => ?_, h2, rfl⟩
      split
      · exact (drainTells_frame x).purgeFrame.trans (hr _)
      · exact hr x
    · exact ⟨id, _, PurgeFrame.refl, h2.trans (hr _), rfl⟩
  · exact ⟨id, _, PurgeFrame.refl, hr s, rfl⟩

/-- Entry to a state is the entry of R39 on a state that differs from the one before in nothing a purge leaves alone. -/
theorem enter_cases (p : PairNo) (new : PairState) (why : Reason) (s : State) :
    ∃ during u, (∀ x, PurgeFrame x (during x)) ∧ PurgeFrame s u ∧ enter p new why s = entering during p new why u := by
  unfold enter
  split
  · exact withRemoval_cases p _ s
  · exact ⟨id, s, PurgeFrame.refl, PurgeFrame.refl s, rfl⟩

/-- What the entry of R39 can do. -/
theorem entering_frame {during : State → State} (hd : ∀ x, PurgeFrame x (during x)) (p : PairNo) (new : PairState)
    (why : Reason) (s : State) : PairFrame p s (entering during p new why s) := by
  unfold entering
  dsimp only
  refine PairFrame.trans ?_ ((activeChanged_frame hd _ _).pairFrame p)
  refine PairFrame.trans ?_ ((raise_frame _ _).inbound.pairFrame p)
  refine PairFrame.trans ?_ (handover_frame p _)
  have h := (modPair_frame p (fun r => r.entered new why) s).trans (setOrder_frame p new.order _)
  split
  · exact h.trans (emptyQueue_frame p _)
  · exact h

/-- What entry to a state can do (R39). -/
theorem enter_frame (p : PairNo) (new : PairState) (why : Reason) (s : State) : PairFrame p s (enter p new why s) := by
  obtain ⟨during, u, hd, hu, h⟩ := enter_cases p new why s
  rw [h]
  exact (hu.pairFrame p).trans (entering_frame hd p new why u)

/-- What entry to a state makes of the pair's record (R39): the entered record, and LOST-ON-DROP by the emptying. -/
theorem enter_pair (p : PairNo) (new : PairState) (why : Reason) (s : State) :
    (enter p new why s).pair p =
      if entryEmpties (s.pair p).state new then
        ((s.pair p).entered new why).countBy .lostOnDrop (dataCount (s.port p).queue)
      else (s.pair p).entered new why := by
  obtain ⟨during, u, hd, hu, h⟩ := enter_cases p new why s
  rw [h]
  unfold entering
  dsimp only
  rw [pair_congr (activeChanged_frame hd _ _).pairs p, pair_raise, handover_pair, pair_congr hu.pairs p]
  split
  · rw [emptyQueue_pair, setOrder_pair, setOrder_queue, pair_modPair, pair_congr hu.pairs p, port_modPair,
      port_congr hu.ports p]
  · rw [setOrder_pair, pair_modPair, pair_congr hu.pairs p]

/-- After entry the pair is in the state, with the reason (R39). -/
theorem enter_state (p : PairNo) (new : PairState) (why : Reason) (s : State) :
    ((enter p new why s).pair p).state = new ∧ ((enter p new why s).pair p).reason = why := by
  rw [enter_pair]
  split <;> exact ⟨rfl, rfl⟩

/-- A closed gate hands nothing over. -/
theorem handover_of_closed {p : PairNo} {s : State} (h : (s.pair p).state.gateOpen = false) : handover p s = s := by
  simp [handover, h]

/-- The handover test leaves the order alone. -/
theorem handover_order (p : PairNo) (s : State) : ((handover p s).port p).order = (s.port p).order := by
  unfold handover
  split
  · simp only [port_modPort]
    unfold Port.handOne
    repeat (first | split | rfl)
  · rfl

/-- After entry the port is under the state's order (R39). -/
theorem enter_order (p : PairNo) (new : PairState) (why : Reason) (s : State) :
    ((enter p new why s).port p).order = new.order := by
  obtain ⟨during, u, hd, -, h⟩ := enter_cases p new why s
  rw [h]
  unfold entering
  dsimp only
  rw [port_congr (activeChanged_frame hd _ _).ports p, port_raise, handover_order]
  split
  · rw [emptyQueue_order, setOrder_order]
  · rw [setOrder_order]

/-- Entry to a state with a closed gate leaves the line queue empty (R39). -/
theorem enter_closed_queue (p : PairNo) (new : PairState) (why : Reason) (s : State) (h : new.gateOpen = false) :
    ((enter p new why s).port p).queue = [] := by
  obtain ⟨during, u, hd, -, hu⟩ := enter_cases p new why s
  have he : entryEmpties (u.pair p).state new = true := by cases new <;> first | rfl | cases h
  rw [hu]
  unfold entering
  dsimp only
  rw [port_congr (activeChanged_frame hd _ _).ports p, port_raise, if_pos he]
  rw [handover_of_closed, emptyQueue_queue]
  rw [emptyQueue_pair, setOrder_pair, pair_modPair]
  exact h

end Sys2Proof.Machine
end

