-- ==== Sys2Proof/Laws/Dispatcher.lean ====
section
/-! SUPPORT. The Fragment Dispatcher: what a run and a re-decision leave alone, and what a choice is; what room at the LAN
Port brings. -/

namespace Sys2Proof.Machine

/-! ### The frame of a run -/

/-- What a run of the dispatcher leaves alone: every pair but its progress timer, outbound reference and pending
renewal; every port but its line queue and what it sent; every pair and port that is not ACTIVE; the time; what no
event changes. -/
structure DispatchFrame (s t : State) : Prop where
  event : EventFrame s t
  now : t.now = s.now
  pairs : ∀ q, t.pair q = { s.pair q with
    progressTimer := (t.pair q).progressTimer, outRef := (t.pair q).outRef, renewal := (t.pair q).renewal }
  ports : ∀ q, t.port q = { s.port q with queue := (t.port q).queue, sent := (t.port q).sent }
  idle : ∀ q, s.isActive q = false → t.pair q = s.pair q ∧ t.port q = s.port q

theorem DispatchFrame.refl (s : State) : DispatchFrame s s :=
  ⟨EventFrame.refl s, rfl, fun _ => rfl, fun _ => rfl, fun _ _ => ⟨rfl, rfl⟩⟩

theorem DispatchFrame.isActive {s t : State} (h : DispatchFrame s t) (q : PairNo) : t.isActive q = s.isActive q := by
  unfold State.isActive
  rw [h.pairs q]

theorem DispatchFrame.trans {s t u : State} (h : DispatchFrame s t) (k : DispatchFrame t u) : DispatchFrame s u :=
  ⟨h.event.trans k.event, k.now.trans h.now, fun q => by rw [k.pairs q, h.pairs q],
    fun q => by rw [k.ports q, h.ports q],
    fun q hq => ⟨(k.idle q ((h.isActive q).trans hq)).1.trans (h.idle q hq).1,
      (k.idle q ((h.isActive q).trans hq)).2.trans (h.idle q hq).2⟩⟩

theorem PurgeFrame.dispatchFrame {s t : State} (h : PurgeFrame s t) : DispatchFrame s t :=
  ⟨h.event, h.now, fun q => by rw [pair_congr h.pairs q], fun q => by rw [port_congr h.ports q],
    fun q _ => ⟨pair_congr h.pairs q, port_congr h.ports q⟩⟩

theorem modDisp_frame (f : Dispatcher → Dispatcher) (s : State) : DispatchFrame s (s.modDisp f) :=
  ⟨by constructor <;> rfl, rfl, fun _ => rfl, fun _ => rfl, fun _ _ => ⟨rfl, rfl⟩⟩

theorem race_frame (s : State) : DispatchFrame s s.race.2 :=
  ⟨by constructor <;> rfl, rfl, fun _ => rfl, fun _ => rfl, fun _ _ => ⟨rfl, rfl⟩⟩

/-- A handover changes only the line queue and what was sent. -/
theorem handOne_frame (x : Port) : x.handOne = { x with queue := x.handOne.queue, sent := x.handOne.sent } := by
  unfold Port.handOne
  split
  · split <;> rfl
  · rfl

theorem handover_port (p q : PairNo) (s : State) :
    (handover p s).port q =
      { s.port q with queue := ((handover p s).port q).queue, sent := ((handover p s).port q).sent } := by
  by_cases h : q = p
  · subst h
    unfold handover
    split
    · rw [port_modPort, handOne_frame (s.port q).handOne, handOne_frame (s.port q)]
    · rfl
  · rw [(handover_frame p s).ports q h]

/-- A pair that is not ACTIVE is another pair than one that is. -/
theorem ne_of_isActive {s : State} {p q : PairNo} (hp : s.isActive p = true) (hq : s.isActive q = false) : q ≠ p := by
  rintro rfl
  rw [hp] at hq
  cases hq

theorem stage_dispatchFrame {p : PairNo} {s : State} (hp : s.isActive p = true) (f : Fragment) :
    DispatchFrame s (stage p f s) := by
  refine ⟨(stage_frame p f s).event, (stage_frame p f s).now, fun q => ?_, fun q => ?_, fun q hq => ?_⟩
  · by_cases h : q = p
    · subst h
      rw [stage_pair]
    · rw [(stage_frame p f s).pairs q h]
  · by_cases h : q = p
    · subst h
      unfold stage
      rw [handover_port, port_modPair, port_modPort]
    · rw [(stage_frame p f s).ports q h]
  · exact ⟨(stage_frame p f s).pairs q (ne_of_isActive hp hq), (stage_frame p f s).ports q (ne_of_isActive hp hq)⟩

theorem modPair_renewal_frame {p : PairNo} {s : State} (hp : s.isActive p = true) (b : Bool) :
    DispatchFrame s (s.modPair p fun r => { r with renewal := b }) := by
  refine ⟨(modPair_frame p _ s).event, rfl, fun q => ?_, fun _ => rfl, fun q hq => ⟨?_, rfl⟩⟩
  · by_cases h : q = p
    · subst h
      rw [pair_modPair]
    · rw [pair_modPair_ne h]
  · exact pair_modPair_ne (ne_of_isActive hp hq) _ s

/-! ### Control fragments -/

theorem place_frame {p : PairNo} {f : Fragment} {s t : State} (h : place p f s = some t) :
    (s.port p).hasRoom f.size = true ∧ t = stage p f s := by
  unfold place at h
  split at h
  · injection h with h
    exact ⟨‹_›, h.symm⟩
  · cases h

theorem placeProgress_frame {p : PairNo} {s : State} (hp : s.isActive p = true) :
    DispatchFrame s (placeProgress p s) := by
  unfold placeProgress
  split
  · obtain ⟨-, rfl⟩ := place_frame ‹_›
    have h := stage_dispatchFrame hp (.progress s.disp.next)
    exact h.trans (modPair_renewal_frame ((h.isActive p).trans hp) _)
  · exact DispatchFrame.refl s

theorem renewalTest_frame (p : PairNo) (s : State) : DispatchFrame s (renewalTest p s) := by
  unfold renewalTest
  split
  · rename_i hp
    have hp := (Bool.and_eq_true_iff.mp hp).1
    have h := modPair_renewal_frame hp true
    exact h.trans (placeProgress_frame ((h.isActive p).trans hp))
  · exact DispatchFrame.refl s

theorem renewalTests_frame (s : State) : DispatchFrame s (renewalTests s) :=
  forPairs_induct (P := DispatchFrame s) (fun p _ h => h.trans (renewalTest_frame p _)) s (DispatchFrame.refl s)

/-! ### The choice (R113) -/

/-- The pair chosen is eligible. -/
theorem choose_eligible {s : State} {c : Nat} {p : PairNo} (h : choose s c = some p) : s.eligible c p = true := by
  unfold choose at h
  split at h
  · cases h
  · rename_i a rest hl
    injection h with h
    have key : ∀ (l : List PairNo) (b : PairNo), l.foldl (s.sooner c) b ∈ b :: l := by
      intro l
      induction l with
      | nil => intro b; simp
      | cons x l ih =>
        intro b
        rcases List.mem_cons.mp (ih (s.sooner c b x)) with h | h
        · rw [List.foldl_cons, h]
          unfold State.sooner
          split <;> simp
        · exact List.mem_cons_of_mem _ (List.mem_cons_of_mem _ h)
    have := key rest a
    rw [h, ← hl] at this
    exact (List.mem_filter.mp this).2

/-- No pair is chosen exactly when none is eligible (R113, R117). -/
theorem choose_none {s : State} {c : Nat} : choose s c = none ↔ ∀ p ∈ allPairs, s.eligible c p = false := by
  unfold choose
  split
  · rename_i h
    simpa [List.filter_eq_nil_iff] using h
  · rename_i a rest hl
    simp only [reduceCtorEq, false_iff, not_forall]
    have : a ∈ allPairs.filter (s.eligible c) := hl ▸ List.mem_cons_self
    obtain ⟨h1, h2⟩ := List.mem_filter.mp this
    exact ⟨a, h1, by simp [h2]⟩

/-- A pair chosen is ACTIVE (R111). -/
theorem choose_isActive {s : State} {c : Nat} {p : PairNo} (h : choose s c = some p) : s.isActive p = true := by
  have := choose_eligible h
  unfold State.eligible at this
  simp only [Bool.and_eq_true] at this
  exact this.1.1.1

/-! ### Moves and runs -/

theorem selectFrame_frame {f : OutFrame} {s t : State} (h : selectFrame s = some (f, t)) : DispatchFrame s t := by
  unfold selectFrame at h
  split at h
  · cases h
  · dsimp only at h
    split at h
    · cases h
    · injection h with h
      injection h with h1 h2
      subst h2
      split
      · exact ⟨by constructor <;> rfl, rfl, fun _ => rfl, fun _ => rfl, fun _ _ => ⟨rfl, rfl⟩⟩
      · exact ⟨by constructor <;> rfl, rfl, fun _ => rfl, fun _ => rfl, fun _ _ => ⟨rfl, rfl⟩⟩

theorem placeFragment_frame {p : PairNo} {s : State} (hp : s.isActive p = true) (plan : SplitPlan) :
    DispatchFrame s (placeFragment p plan s) := by
  unfold placeFragment
  have hm := modDisp_frame
    (fun d => { d with next := d.next + 1, split := some plan.advance, held := false, midRun := false }) s
  have h := hm.trans (stage_dispatchFrame ((hm.isActive p).trans hp) (plan.fragment s.disp.next))
  exact (h.trans (modPair_renewal_frame ((h.isActive p).trans hp) _)).trans
    (count_frame _ _).inbound.purgeFrame.dispatchFrame

theorem finishFrame_frame (plan : SplitPlan) (s : State) : DispatchFrame s (finishFrame plan s) :=
  ((modDisp_frame _ s).trans (count_frame _ _).inbound.purgeFrame.dispatchFrame).trans
    (returnCells_frame _ _ _).inbound.purgeFrame.dispatchFrame

theorem dispatchMove_frame {s t : State} {b : Bool} (h : dispatchMove s = some (t, b)) : DispatchFrame s t := by
  unfold dispatchMove at h
  split at h
  · split at h
    · injection h with h
      injection h with h1 h2
      subst h1
      exact (selectFrame_frame ‹_›).trans (modDisp_frame _ _)
    · split at h
      · cases h
      · injection h with h
        injection h with h1 h2
        subst h1
        exact modDisp_frame _ s
  · split at h
    · dsimp only at h
      injection h with h
      injection h with h1 h2
      subst h1
      split
      · exact (placeFragment_frame (choose_isActive ‹_›) _).trans (finishFrame_frame _ _)
      · exact placeFragment_frame (choose_isActive ‹_›) _
    · split at h
      · cases h
      · injection h with h
        injection h with h1 h2
        subst h1
        exact (modDisp_frame _ s).trans (count_frame _ _).inbound.purgeFrame.dispatchFrame

theorem dispatchRun_frame (n : Nat) (owed : Bool) (s : State) : DispatchFrame s (dispatchRun n owed s) := by
  induction n generalizing owed s with
  | zero =>
    unfold dispatchRun
    split
    · exact renewalTests_frame s
    · exact DispatchFrame.refl s
  | succ n ih =>
    cases owed with
    | true =>
      unfold dispatchRun
      have hr : DispatchFrame s (if s.renewalWanted then s.race else (false, s)).2 := by
        split
        · exact race_frame s
        · exact DispatchFrame.refl s
      revert hr
      generalize (if s.renewalWanted then s.race else (false, s)) = b
      obtain ⟨b, t⟩ := b
      intro hr
      dsimp only at hr ⊢
      split
      · split
        · exact (hr.trans (dispatchMove_frame ‹_›)).trans (ih _ _)
        · exact (hr.trans (renewalTests_frame t)).trans (ih _ _)
      · exact (hr.trans (renewalTests_frame t)).trans (ih _ _)
    | false =>
      unfold dispatchRun
      have hr : DispatchFrame s (if s.mayStop then s.race else (false, s)).2 := by
        split
        · exact race_frame s
        · exact DispatchFrame.refl s
      revert hr
      generalize (if s.mayStop then s.race else (false, s)) = b
      obtain ⟨b, t⟩ := b
      intro hr
      dsimp only at hr ⊢
      split
      · exact hr.trans (modDisp_frame _ t)
      · split
        · exact (hr.trans (dispatchMove_frame ‹_›)).trans (ih _ _)
        · exact hr

/-- What a run of the dispatcher can do (R104 to R117). -/
theorem dispatch_frame (s : State) : DispatchFrame s (dispatch s) :=
  (dispatchRun_frame _ _ s).trans (drainTells_frame _).purgeFrame.dispatchFrame

/-- What a re-decision can do (R118). -/
theorem redecide_frame (s : State) : DispatchFrame s (redecide s) := by
  unfold redecide
  split
  · exact dispatch_frame s
  · exact DispatchFrame.refl s

/-- Without an event at a pair that waits, no run stops between two fragments (R114). -/
theorem mayStop_of_no_event {s : State} (h : s.eventWaits = false) : s.mayStop = false := by
  simp [State.mayStop, h]

/-- No event waits when no command does. -/
theorem eventWaits_of_nil {s : State} (h : s.pending = []) : s.eventWaits = false := by
  simp [State.eventWaits, h]

/-- What the end of a stopped run can do. -/
theorem resume_frame (p : PairNo) (s : State) : DispatchFrame s (resume p s) := by
  unfold resume
  split
  · exact dispatch_frame s
  · exact DispatchFrame.refl s

/-- A stopped run leaves the pair it is told of alone, where that pair takes no DATA. -/
theorem resume_pair (p : PairNo) (s : State) : (resume p s).pair p = s.pair p ∧ (resume p s).port p = s.port p := by
  unfold resume
  split
  · rename_i h
    simp only [Bool.and_eq_true, Bool.not_eq_true'] at h
    exact (dispatch_frame s).idle p h.2
  · exact ⟨rfl, rfl⟩

/-- An EMPTY dispatcher has nothing to decide again. -/
theorem redecide_of_not_held {s : State} (h : s.disp.held = false) : redecide s = s := by
  simp [redecide, h]

/-! ### Room at the LAN Port (R163, R164) -/

/-- Room told after a LAN event is taken on the state as it stands, or, where a pressure event waits, one free value later
with that event before it or after it (R163, R164) [34]. -/
theorem lanFreed_cases (s : State) :
    lanFreed s = rxLanFreed s ∨ lanFreed s = rxLanFreed s.race.2 ∨ lanFreed s = rxLanFreed (drainTells s.race.2) := by
  unfold lanFreed
  cases s.cells.tells.isEmpty with
  | true => exact .inl rfl
  | false =>
    cases h : s.race.1 with
    | true => exact .inr (.inl (by simp [h]))
    | false => exact .inr (.inr (by simp [h]))

/-- What the Reorder Engine does with the room leaves all but the inbound path and the free values alone. -/
theorem lanFreed_frame (s : State) : InboundFrame { s with freeCount := (lanFreed s).freeCount } (lanFreed s) := by
  rcases lanFreed_cases s with h | h | h <;> rw [h]
  · have f := rxLanFreed_frame s
    rw [f.freeCount]
    exact f
  · have f := rxLanFreed_frame s.race.2
    rw [f.freeCount]
    exact f
  · have f := (drainTells_frame s.race.2).trans (rxLanFreed_frame _)
    rw [f.freeCount]
    exact f

/-! ### The sizes of a split (R107) -/

/-- The parts of a balanced split are at most the payload the plan latched. -/
theorem ceilDiv_ceilDiv_le (n p : Nat) : ceilDiv n (ceilDiv n p) ≤ p := by
  unfold ceilDiv
  rcases Nat.eq_zero_or_pos p with rfl | hp
  · simp
  · rcases Nat.eq_zero_or_pos ((n + p - 1) / p) with h | h
    · rw [h]; simp
    · have hk : n ≤ (n + p - 1) / p * p := by
        have := Nat.div_add_mod (n + p - 1) p
        have hm := Nat.mod_lt (n + p - 1) hp
        rw [Nat.mul_comm] at this
        omega
      generalize (n + p - 1) / p = k at h hk
      rw [Nat.div_le_iff_le_mul_add_pred h, Nat.mul_comm k p, Nat.mul_comm p k]
      omega

theorem planOf_large_le (pMax : Nat) (f : OutFrame) : (planOf pMax f).large ≤ pMax := ceilDiv_ceilDiv_le _ _

theorem planOf_small_le (pMax : Nat) (f : OutFrame) : (planOf pMax f).small ≤ pMax := by
  refine Nat.le_trans ?_ (planOf_large_le pMax f)
  show f.octets.length / ceilDiv f.octets.length pMax ≤ ceilDiv f.octets.length (ceilDiv f.octets.length pMax)
  rcases Nat.eq_zero_or_pos (ceilDiv f.octets.length pMax) with h | h
  · rw [h]; simp
  · exact Nat.div_le_div_right (by omega)

@[simp] theorem advance_large (plan : SplitPlan) : plan.advance.large = plan.large := rfl

@[simp] theorem advance_small (plan : SplitPlan) : plan.advance.small = plan.small := rfl

/-- The fragment placed is no larger than the two part sizes of its plan allow. -/
theorem fragment_size_le {plan : SplitPlan} {n : Nat} (h : plan.large ≤ n ∧ plan.small ≤ n) (seq : Seq) :
    (plan.fragment seq).size ≤ n + 8 := by
  have : plan.payloadLength ≤ n := by unfold SplitPlan.payloadLength; split <;> omega
  have := List.length_take_le plan.payloadLength (plan.octets.drop plan.offset)
  show ((plan.octets.drop plan.offset).take plan.payloadLength).length + 8 ≤ n + 8
  omega

end Sys2Proof.Machine
end

