-- ==== Sys2Proof/Laws/Handover.lean ====
section
/-! SUPPORT. What the handover test makes of a line queue (R26, R27), and what an emptying leaves (R31). -/

namespace Sys2Proof.Machine

/-- An entry as it stands once handed over. -/
def Entry.hand (e : Entry) : Entry := { e with handed := true }

@[simp] theorem Entry.hand_frag (e : Entry) : e.hand.frag = e.frag := rfl
@[simp] theorem Entry.hand_handed (e : Entry) : e.hand.handed = true := rfl

/-- The first STAGED fragment behind HANDED entries. -/
theorem firstStaged_append {handed : List Entry} (hh : ∀ e ∈ handed, e.handed = true) (staged : List Entry) :
    firstStaged (handed ++ staged) = firstStaged staged := by
  have h : handed.find? (fun e => !e.handed) = none := by simpa using hh
  simp [firstStaged, List.find?_append, h]

/-- The entry that a handover marks stands behind the HANDED ones. -/
theorem handFirst_append {handed : List Entry} (hh : ∀ e ∈ handed, e.handed = true) (staged : List Entry) :
    handFirst (handed ++ staged) = handed ++ handFirst staged := by
  induction handed with
  | nil => rfl
  | cons e rest ih =>
    simp [handFirst, hh e (by simp), ih fun x hx => hh x (by simp [hx])]

/-- HANDED entries in front are all that counts as HANDED. -/
theorem countP_handed_append {handed staged : List Entry} (hh : ∀ e ∈ handed, e.handed = true)
    (hs : ∀ e ∈ staged, e.handed = false) : (handed ++ staged).countP (·.handed) = handed.length := by
  rw [List.countP_append, List.countP_eq_length.2 hh, List.countP_eq_zero.2 fun e he => by simp [hs e he], Nat.add_zero]

/-- What is STAGED behind HANDED entries. -/
theorem filter_staged_append {handed staged : List Entry} (hh : ∀ e ∈ handed, e.handed = true)
    (hs : ∀ e ∈ staged, e.handed = false) : (handed ++ staged).filter (fun e => !e.handed) = staged := by
  rw [List.filter_append, List.filter_eq_nil_iff.2 fun e he => by simp [hh e he],
    List.filter_eq_self.2 fun e he => by simp [hs e he], List.nil_append]

/-- The marks of a queue whose HANDED entries come first. -/
theorem map_handed_append {handed staged : List Entry} (hh : ∀ e ∈ handed, e.handed = true)
    (hs : ∀ e ∈ staged, e.handed = false) :
    (handed ++ staged).map (·.handed) =
      (List.range (handed ++ staged).length).map fun i => decide (i < handed.length) := by
  refine List.ext_getElem (by simp) fun i h1 h2 => ?_
  simp only [List.getElem_map, List.getElem_range, List.getElem_append]
  split
  · exact (hh _ (List.getElem_mem _)).trans (decide_eq_true ‹_›).symm
  · exact (hs _ (List.getElem_mem _)).trans (decide_eq_false ‹_›).symm

/-- One handover with the gate open, of a queue whose HANDED entries come first (R27). -/
theorem handOne_append {x : Port} {handed staged : List Entry} (hq : x.queue = handed ++ staged)
    (hh : ∀ e ∈ handed, e.handed = true) (hs : ∀ e ∈ staged, e.handed = false) :
    x.handOne = { x with
      queue := handed ++ (staged.take (min 1 (2 - handed.length - x.residue.length))).map Entry.hand
        ++ staged.drop (min 1 (2 - handed.length - x.residue.length)),
      sent := x.sent ++ (staged.take (min 1 (2 - handed.length - x.residue.length))).map fun e => .fragment e.frag } := by
  have hc : x.freeCredit = 2 - handed.length - x.residue.length := by
    simp [Port.freeCredit, Port.handedCount, hq, countP_handed_append hh hs, Config.credit]
  cases staged with
  | nil =>
    have hf : firstStaged x.queue = none := by rw [hq, firstStaged_append hh]; rfl
    simp [Port.handOne, hf, ← hq.trans (List.append_nil handed)]
  | cons e rest =>
    have he : e.handed = false := hs e (by simp)
    have hf : firstStaged x.queue = some e.frag := by rw [hq, firstStaged_append hh]; simp [firstStaged, he]
    by_cases h : 1 ≤ x.freeCredit
    · have h1 : min 1 (2 - handed.length - x.residue.length) = 1 := by omega
      simp [Port.handOne, hf, h, h1, hq ▸ handFirst_append hh (e :: rest), handFirst, he, Entry.hand]
    · have h0 : min 1 (2 - handed.length - x.residue.length) = 0 := by omega
      simp [Port.handOne, hf, h, h0, ← hq]

/-- Two handovers with the gate open hand over all that the credit of two allows (R27). -/
theorem handOne_handOne {x : Port} {handed staged : List Entry} (hq : x.queue = handed ++ staged)
    (hh : ∀ e ∈ handed, e.handed = true) (hs : ∀ e ∈ staged, e.handed = false) :
    let n := min staged.length (2 - handed.length - x.residue.length)
    x.handOne.handOne = { x with
      queue := handed ++ (staged.take n).map Entry.hand ++ staged.drop n,
      sent := x.sent ++ (staged.take n).map fun e => .fragment e.frag } := by
  intro n
  rw [handOne_append hq hh hs]
  generalize hm : min 1 (2 - handed.length - x.residue.length) = m
  rw [handOne_append (handed := handed ++ (staged.take m).map Entry.hand) (staged := staged.drop m) rfl
    (fun e he => (List.mem_append.1 he).elim (hh e) fun h => by
      obtain ⟨y, -, rfl⟩ := List.mem_map.1 h; rfl)
    fun e he => hs e (List.mem_of_mem_drop he)]
  generalize hk : min 1 (2 - (handed ++ (staged.take m).map Entry.hand).length - x.residue.length) = k
  have hn : staged.take n = staged.take m ++ (staged.drop m).take k ∧ staged.drop n = (staged.drop m).drop k := by
    have : staged.take n = staged.take (m + k) ∧ staged.drop n = staged.drop (m + k) := by
      simp only [List.length_append, List.length_map, List.length_take] at hk
      by_cases h : staged.length ≤ m + k
      · by_cases h' : staged.length ≤ n
        · simp [List.take_of_length_le h, List.take_of_length_le h', h, h']
        · omega
      · have : n = m + k := by omega
        rw [this]; exact ⟨rfl, rfl⟩
    rw [this.1, this.2, List.take_add, List.drop_drop]; exact ⟨rfl, rfl⟩
  rw [hn.1, hn.2]
  simp [List.append_assoc]

/-- What the handover test makes of a lawful port: under an open gate and a closed one (R26, R27). -/
theorem handover_handedOver {p : PairNo} {s : State} {handed staged : List Entry}
    (hq : (s.port p).queue = handed ++ staged) (hh : ∀ e ∈ handed, e.handed = true)
    (hs : ∀ e ∈ staged, e.handed = false) :
    HandedOver (s.pair p).state.gateOpen (s.port p).sent (s.port p).queue (s.port p).residue ((handover p s).port p) := by
  simp only [HandedOver, hq, countP_handed_append hh hs, filter_staged_append hh hs]
  cases hg : (s.pair p).state.gateOpen with
  | false =>
    have h := map_handed_append hh hs
    simp_all [handover]
  | true =>
    simp only [handover, hg, if_true, port_modPort, handOne_handOne hq hh hs]
    generalize hm : min staged.length (2 - handed.length - (s.port p).residue.length) = n
    have hn : (staged.take n).length = n := by simp; omega
    refine ⟨?_, ?_, trivial⟩
    · have h : (staged.take n).map (Entry.frag ∘ Entry.hand) = (staged.take n).map Entry.frag := rfl
      simp only [List.append_assoc, List.map_append, List.map_map, h]
      rw [← List.map_append, List.take_append_drop]
    · rw [map_handed_append (fun e he => (List.mem_append.1 he).elim (hh e) fun h => by
          obtain ⟨y, -, rfl⟩ := List.mem_map.1 h; rfl) fun e he => hs e (List.mem_of_mem_drop he)]
      simp only [List.length_append, List.length_map, hn, List.length_drop]
      congr 2; omega

/-- An emptying counts the DATA of the queue LOST-ON-DROP (R31). -/
theorem emptyQueue_lostOnDrop (p : PairNo) (s : State) : LostOnDrop p s (emptyQueue p s) := by
  rw [LostOnDrop, emptyQueue_pair]
  simp [Pair.countBy, Pair.counter, dataCount]

/-- The octets that an emptying can keep as residue, in the words of statements (R31). -/
theorem untaken_eq_uncovered (x : Port) : untaken x.takenFromHead x.queue = x.uncovered := rfl

/-- Under order TRAIN in SHOWTIME the octets not covered join the residue, and nothing else does (R31). -/
theorem emptyQueue_residue (p : PairNo) (s : State) : ((emptyQueue p s).port p).residue = (s.port p).residue ++
    if (s.port p).order = .train ∧ (s.port p).report.line = .showtime then (s.port p).uncovered else [] := by
  simp only [emptyQueue, State.countPairBy, port_modPair, port_setPort, untaken_eq_uncovered]

end Sys2Proof.Machine
end

