-- ==== Sys2Proof/Laws/Lifecycle.lean ====
section
/-! SUPPORT. The Pair Controller: the frame of each move of a pair and of each event at a pair. -/

namespace Sys2Proof.Machine

theorem LifeFrame.refl (p : PairNo) (s : State) : LifeFrame p s s :=
  ⟨EventFrame.refl s, fun _ _ => rfl, fun _ _ => rfl⟩

theorem LifeFrame.trans {p : PairNo} {s t u : State} (h : LifeFrame p s t) (k : LifeFrame p t u) : LifeFrame p s u :=
  ⟨h.event.trans k.event, fun q hq => by rw [k.pairs q hq, h.pairs q hq],
    fun q hq => by rw [k.ports q hq, h.ports q hq]⟩

theorem PairFrame.life {p : PairNo} {s t : State} (h : PairFrame p s t) : LifeFrame p s t :=
  ⟨h.event, fun q hq => by rw [h.pairs q hq], fun q hq => by rw [h.ports q hq]⟩

theorem DispatchFrame.life {s t : State} (h : DispatchFrame s t) (p : PairNo) : LifeFrame p s t :=
  ⟨h.event, fun q _ => h.pairs q, fun q _ => h.ports q⟩

theorem InboundFrame.life {s t : State} (h : InboundFrame s t) (p : PairNo) : LifeFrame p s t :=
  (h.pairFrame p).life

theorem reach_frame (p : PairNo) (d : Nat) (s : State) : LifeFrame p s (s.reach d) :=
  ⟨by constructor <;> rfl, fun _ _ => rfl, fun _ _ => rfl⟩

theorem redecide_life (p : PairNo) (s : State) : LifeFrame p s (redecide s) := (redecide_frame s).life p

/-! ### Moves (each keeps PairFrame but where a re-decision is made inside) -/

theorem setReason_frame (p : PairNo) (why : Reason) (s : State) : PairFrame p s (setReason p why s) :=
  modPair_frame p _ s

theorem startTimer_frame (p : PairNo) (k : StateTimer) (ms : Nat) (s : State) : PairFrame p s (startTimer p k ms s) :=
  modPair_frame p _ s

theorem park_frame (p : PairNo) (s : State) : PairFrame p s (park p s) := enter_frame p _ _ s

theorem hostDone_frame (p : PairNo) (s : State) : PairFrame p s (hostDone p s) := by
  unfold hostDone
  split
  · exact (modPair_frame p _ s).trans ((raise_frame _ _).inbound.pairFrame p)
  · exact PairFrame.refl p s

theorem startParked_frame (p : PairNo) (s : State) : PairFrame p s (startParked p s) := by
  unfold startParked
  split
  · split
    · exact enter_frame p _ _ s
    · exact enter_frame p _ _ s
  · exact setReason_frame p _ s

theorem restart_frame (p : PairNo) (s : State) : PairFrame p s (restart p s) := by
  unfold restart
  split
  · exact enter_frame p _ _ s
  · exact park_frame p s

theorem place_pairFrame {p : PairNo} {f : Fragment} {s t : State} (h : place p f s = some t) : PairFrame p s t := by
  obtain ⟨-, rfl⟩ := place_frame h
  exact stage_frame p f s

theorem placeJoin_frame (p : PairNo) (s : State) : PairFrame p s (placeJoin p s) := by
  unfold placeJoin
  split
  · exact (place_pairFrame ‹_›).trans (modPair_frame p _ _)
  · exact modPair_frame p _ s

theorem placeAck_frame (p echo : PairNo) (r : JoinResult) (s : State) : PairFrame p s (placeAck p echo r s) := by
  unfold placeAck
  split
  · exact (place_pairFrame ‹_›).trans (modPair_frame p _ _)
  · exact modPair_frame p _ s

theorem placeLeave_frame (p : PairNo) (why : LeaveReason) (s : State) : PairFrame p s (placeLeave p why s) := by
  unfold placeLeave
  split
  · exact (place_pairFrame ‹_›).trans (modPair_frame p _ _)
  · exact modPair_frame p _ s

theorem placeProgress_pairFrame (p : PairNo) (s : State) : PairFrame p s (placeProgress p s) := by
  unfold placeProgress
  split
  · exact (place_pairFrame ‹_›).trans (modPair_frame p _ _)
  · exact PairFrame.refl p s

theorem renewalTest_pairFrame (p : PairNo) (s : State) : PairFrame p s (renewalTest p s) := by
  unfold renewalTest
  split
  · exact (modPair_frame p _ s).trans (placeProgress_pairFrame p _)
  · exact PairFrame.refl p s

theorem pairRoom_frame (p : PairNo) (s : State) : PairFrame p s (pairRoom p s) := by
  have h1 : ∀ s, PairFrame p s (tryAck p s) := fun s => by
    unfold tryAck
    split
    · exact placeAck_frame p _ _ s
    · exact PairFrame.refl p s
  have h2 : ∀ s, PairFrame p s (tryJoin p s) := fun s => by
    unfold tryJoin
    split
    · exact placeJoin_frame p s
    · exact PairFrame.refl p s
  have h3 : ∀ s, PairFrame p s (tryLeave p s) := fun s => by
    unfold tryLeave
    split
    · exact placeLeave_frame p _ s
    · exact PairFrame.refl p s
  have h4 : ∀ s, PairFrame p s (tryRenewal p s) := fun s => by
    unfold tryRenewal
    split
    · exact placeProgress_pairFrame p s
    · exact PairFrame.refl p s
  exact (((h1 s).trans (h2 _)).trans (h3 _)).trans (h4 _)

theorem startProgress_frame (p : PairNo) (s : State) : PairFrame p s (startProgress p s) := by
  unfold startProgress
  split
  · exact modPair_frame p _ s
  · exact PairFrame.refl p s

theorem enterLeaving_frame {during : State → State} (hd : ∀ x, PurgeFrame x (during x)) (p : PairNo) (why : Reason)
    (form : LeaveForm) (s : State) : PairFrame p s (enterLeaving during p why form s) :=
  ((entering_frame hd p _ _ s).trans (modPair_frame p _ _)).trans (startTimer_frame p _ _ _)

theorem gracefulLeave_frame (p : PairNo) (why : Reason) (s : State) : PairFrame p s (gracefulLeave p why s) := by
  unfold gracefulLeave
  dsimp only
  refine PairFrame.trans ?_ (placeLeave_frame p _ _)
  split
  · exact (enterLeaving_frame PurgeFrame.refl p _ _ s).trans (modPair_frame p _ _)
  · exact enterLeaving_frame PurgeFrame.refl p _ _ s

theorem abortLeave_frame (p : PairNo) (s : State) : PairFrame p s (abortLeave p s) :=
  (((enterLeaving_frame PurgeFrame.refl p _ _ s).trans (modPair_frame p _ _)).trans (withdraw_frame p _)).trans
    (placeLeave_frame p _ _)

theorem upgradeLeave_frame (p : PairNo) (s : State) : PairFrame p s (upgradeLeave p s) := by
  unfold upgradeLeave
  dsimp only
  refine PairFrame.trans ?_ (pairRoom_frame p _)
  have h : ∀ f : Pair → Pair, PairFrame p s (withdraw p ((hostCause p s).modPair p f)) := fun f =>
    ((modPair_frame p _ s).trans (modPair_frame p f _)).trans (withdraw_frame p _)
  split
  · exact h _
  · exact (h _).trans (placeLeave_frame p _ _)

theorem completeLeave_frame (p : PairNo) (s : State) : PairFrame p s (completeLeave p s) := by
  unfold completeLeave
  split
  · exact (park_frame p s).trans (hostDone_frame p _)
  · exact (enter_frame p _ _ s).trans (startTimer_frame p _ _ _)

theorem completionTest_frame (p : PairNo) (s : State) : PairFrame p s (completionTest p s) := by
  unfold completionTest
  split
  · exact completeLeave_frame p s
  · exact PairFrame.refl p s

theorem leaveRetired_frame (p : PairNo) (s : State) : PairFrame p s (leaveRetired p s) := by
  unfold leaveRetired
  split
  · exact (modPair_frame p _ s).trans (completionTest_frame p _)
  · exact PairFrame.refl p s

theorem quarantine_frame (p : PairNo) (why : Reason) (s : State) : PairFrame p s (quarantine p why s) :=
  (((enter_frame p _ _ s).trans (modPair_frame p _ _)).trans (countPair_frame p _ _)).trans (startTimer_frame p _ _ _)

theorem countRetrain_frame (p : PairNo) (s : State) : PairFrame p s (countRetrain p s) :=
  (countPair_frame p _ s).trans (modPair_frame p _ _)

theorem afterRetrain_frame (p : PairNo) (s : State) : PairFrame p s (afterRetrain p s) := by
  unfold afterRetrain
  split
  · exact quarantine_frame p _ s
  · exact enter_frame p _ _ s

theorem lineDrop_frame (p : PairNo) (s : State) : PairFrame p s (lineDrop p s) := by
  unfold lineDrop
  dsimp only
  have h := ((emptyQueue_frame p s).trans ((rxRemove_frame p _).pairFrame p)).trans (countRetrain_frame p _)
  split
  · exact (h.trans (park_frame p _)).trans (hostDone_frame p _)
  · exact h.trans (afterRetrain_frame p _)

theorem guardActive_frame (p : PairNo) (s : State) : PairFrame p s (guardActive p s) := by
  unfold guardActive
  split
  · exact PairFrame.refl p s
  · exact ((enter_frame p _ _ s).trans (countPair_frame p _ _)).trans (hostDone_frame p _)

theorem guardClear_frame (p : PairNo) (s : State) : PairFrame p s (guardClear p s) := by
  unfold guardClear
  split
  · exact restart_frame p s
  · exact PairFrame.refl p s

theorem enterJoining_frame (p : PairNo) (why : Reason) (s : State) : PairFrame p s (enterJoining p why s) :=
  (((enter_frame p _ _ s).trans (startTimer_frame p _ _ _)).trans (placeJoin_frame p _)).trans (modPair_frame p _ _)

theorem settlingRateTest_frame (p : PairNo) (s : State) : PairFrame p s (settlingRateTest p s) := by
  unfold settlingRateTest
  split
  · exact enterJoining_frame p _ s
  · exact setReason_frame p _ s

theorem activeRateTest_frame (p : PairNo) (s : State) : PairFrame p s (activeRateTest p s) := by
  unfold activeRateTest
  split
  · exact PairFrame.refl p s
  · exact gracefulLeave_frame p _ s

theorem rateTest_frame (p : PairNo) (s : State) : PairFrame p s (rateTest p s) := by
  unfold rateTest
  split
  · split
    · exact settlingRateTest_frame p s
    · exact PairFrame.refl p s
  · exact activeRateTest_frame p s
  · exact PairFrame.refl p s

/-- What entry to ACTIVE can do (R53). -/
theorem enterActive_frame (p : PairNo) (s : State) : LifeFrame p s (enterActive p s) := by
  unfold enterActive
  dsimp only
  have h := ((enter_frame p .active (s.pair p).reason s).trans (activeRateTest_frame p _)).life
  split
  · refine LifeFrame.trans ?_ ((renewalTest_pairFrame p _).trans (startProgress_frame p _)).life
    refine h.trans ?_
    generalize activeRateTest p (enter p .active (s.pair p).reason s) = u
    have hr : LifeFrame p u (if u.disp.held && u.renewalDue p then u.race else (false, u)).2 := by
      split
      · exact (race_frame u).life p
      · exact LifeFrame.refl p u
    revert hr
    generalize (if u.disp.held && u.renewalDue p then u.race else (false, u)) = b
    intro hr
    split
    · exact hr.trans (redecide_life p _)
    · exact hr
  · exact h

theorem activeTest_frame (p : PairNo) (s : State) : LifeFrame p s (activeTest p s) := by
  unfold activeTest
  split
  · exact enterActive_frame p s
  · exact LifeFrame.refl p s

theorem becamePresent_frame (p : PairNo) (s : State) : PairFrame p s (becamePresent p s) := by
  unfold becamePresent
  dsimp only
  split
  · exact (park_frame p s).trans (enter_frame p _ _ _)
  · split
    · exact (park_frame p s).trans (enter_frame p _ _ _)
    · exact park_frame p s

theorem becameAbsent_frame (p : PairNo) (s : State) : PairFrame p s (becameAbsent p s) :=
  (enter_frame p _ _ s).trans (hostDone_frame p _)

/-- What a REPORT can do at the Pair Controller (R44 to R46, R55, R61). -/
theorem pairReport_frame (p : PairNo) (line : LineState) (s : State) : PairFrame p s (pairReport p line s) := by
  unfold pairReport
  split
  · split
    · exact (enter_frame p _ _ s).trans (startTimer_frame p _ _ _)
    · exact PairFrame.refl p s
  · split
    · exact rateTest_frame p s
    · exact (countRetrain_frame p s).trans (afterRetrain_frame p _)
  · split
    · exact PairFrame.refl p s
    · exact lineDrop_frame p s
  · split
    · exact PairFrame.refl p s
    · exact lineDrop_frame p s
  · split
    · exact activeRateTest_frame p s
    · exact lineDrop_frame p s
  all_goals exact PairFrame.refl p s

/-! ### Control fragments -/

/-- What a JOIN-ACK can do (R49). -/
theorem takeJoinAck_frame (p : PairNo) (b : BitVec 16) (r : JoinResult) (s : State) :
    LifeFrame p s (takeJoinAck p b r s) := by
  unfold takeJoinAck
  split
  · split
    · split
      · exact LifeFrame.refl p s
      · exact (modPair_frame p _ s).life.trans (activeTest_frame p _)
    · exact (startTimer_frame p _ _ s).life
    · exact (quarantine_frame p _ s).life
  · exact LifeFrame.refl p s

theorem acceptJoin_frame (p echo : PairNo) (m : Seq) (e : BitVec 8) (s : State) :
    LifeFrame p s (acceptJoin p echo m e s) :=
  ((placeAck_frame p _ _ s).life.trans ((rxJoin_frame p m e _).life p)).trans (activeTest_frame p _)

theorem rejoin_frame (p echo : PairNo) (m : Seq) (e : BitVec 8) (s : State) : LifeFrame p s (rejoin p echo m e s) := by
  unfold rejoin
  split
  · exact ((park_frame p s).trans (hostDone_frame p _)).life
  · exact (enterJoining_frame p _ s).life.trans (acceptJoin_frame p _ _ _ _)

theorem restartPair_frame (p : PairNo) (s : State) : PairFrame p s (restartPair p s) := by
  unfold restartPair
  split
  · exact enterJoining_frame p _ s
  · exact enterJoining_frame p _ s
  · split
    · exact (park_frame p s).trans (hostDone_frame p _)
    · exact enterJoining_frame p _ s
  · exact PairFrame.refl p s

/-- What a peer restart leaves alone (R65). -/
theorem peerRestart_frame (p echo : PairNo) (m : Seq) (e : BitVec 8) (s : State) :
    EventFrame s (peerRestart p echo m e s) := by
  unfold peerRestart
  dsimp only
  have h : EventFrame s (forPairs restartPair ((rxPeerRestart s).count .peerRestarts)) :=
    forPairs_induct (P := EventFrame s) (fun q _ h => h.trans (restartPair_frame q _).event) _
      ((rxPeerRestart_frame s).event.trans (count_frame _ _).inbound.event)
  split
  · exact h.trans (acceptJoin_frame p _ _ _ _).event
  · exact h

/-- What a JOIN leaves alone (R50, R51, R60, R65). -/
theorem takeJoin_frame (p echo : PairNo) (m : Seq) (b : BitVec 16) (e : BitVec 8) (s : State) :
    EventFrame s (takeJoin p echo m b e s) := by
  unfold takeJoin
  dsimp only
  split
  · exact (placeAck_frame p _ _ s).event
  · split
    · split
      · exact peerRestart_frame p _ _ _ s
      · exact (acceptJoin_frame p _ _ _ s).event
    · exact (placeAck_frame p _ _ s).event
  · split
    · split
      · exact peerRestart_frame p _ _ _ s
      · exact (rejoin_frame p _ _ _ s).event
    · exact (placeAck_frame p _ _ s).event
  · split
    · split
      · exact peerRestart_frame p _ _ _ s
      · exact (rejoin_frame p _ _ _ s).event
    · exact (placeAck_frame p _ _ s).event
  all_goals exact EventFrame.refl s

/-- What a LEAVE can do (R58). -/
theorem takeLeave_frame (p : PairNo) (s : State) : PairFrame p s (takeLeave p s) := by
  unfold takeLeave
  split
  · exact (rxRemove_frame p s).pairFrame p
  · obtain ⟨during, u, hd, hu, h⟩ := withRemoval_cases p (peerLeaves p) s
    rw [h]
    exact (((hu.pairFrame p).trans (enterLeaving_frame hd p _ _ u)).trans (modPair_frame p _ _)).trans
      (placeLeave_frame p _ _)
  · exact ((modPair_frame p _ s).trans ((rxRemove_frame p _).pairFrame p)).trans (completionTest_frame p _)
  · exact PairFrame.refl p s

end Sys2Proof.Machine
end

