-- ==== Sys2Proof/Laws/Link.lean ====
section
/-! SUPPORT. The Management Link: intake, refusals, framing and the output queue. -/

namespace Sys2Proof.Machine

/-- A message that can be taken is judged on the state without it, and its reply is placed (R173). -/
theorem intake_of_takeable {m : Message} {judge : State → Answer} {s : State} (h : takeable m s = true) :
    intake m judge s = pushOut (replyTo m (judge (removeHead s))) (judge (removeHead s)).state := by
  simp [intake, h]

/-- A message that cannot be taken waits [4]. -/
theorem intake_of_not_takeable {m : Message} {judge : State → Answer} {s : State} (h : takeable m s = false) :
    intake m judge s = s := by
  simp [intake, h]

/-- A message is taken exactly when a place is free and nothing stands before it (R173). -/
theorem takeable_iff {m : Message} {s : State} :
    takeable m s = true ↔ s.mgmt.outbox.length < 8 ∧ (s.mgmt.inbox = [] ∨ s.mgmt.inbox.head? = some m) := by
  simp only [takeable, Bool.and_eq_true, decide_eq_true_eq, Bool.or_eq_true, List.isEmpty_iff, beq_iff_eq]
  exact Iff.rfl

/-- A body of the wrong length is refused (R174, step 2). -/
theorem withLength_ne {n : Nat} {body : List Octet} {judge : State → Answer} {s : State} (h : body.length ≠ n) :
    withLength n body judge s = refuse .refusedLength s := by
  simp [withLength, h]

/-- A body of the right length is judged on (R174). -/
theorem withLength_eq {n : Nat} {body : List Octet} {judge : State → Answer} {s : State} (h : body.length = n) :
    withLength n body judge s = judge s := by
  simp [withLength, h]

@[simp] theorem pushOut_outbox (m : Message) (s : State) : (pushOut m s).mgmt.outbox = s.mgmt.outbox ++ [m] := rfl
@[simp] theorem pushOut_inbox (m : Message) (s : State) : (pushOut m s).mgmt.inbox = s.mgmt.inbox := rfl
@[simp] theorem removeHead_outbox (s : State) : (removeHead s).mgmt.outbox = s.mgmt.outbox := rfl
@[simp] theorem removeHead_inbox (s : State) : (removeHead s).mgmt.inbox = s.mgmt.inbox.drop 1 := rfl
@[simp] theorem setFramer_framer (x : Framer) (s : State) : (s.setFramer x).mgmt.framer = x := rfl
@[simp] theorem setFramer_inbox (x : Framer) (s : State) : (s.setFramer x).mgmt.inbox = s.mgmt.inbox := rfl
@[simp] theorem setFramer_outbox (x : Framer) (s : State) : (s.setFramer x).mgmt.outbox = s.mgmt.outbox := rfl

/-- Without a complete frame a test does nothing. -/
theorem testFrame_of_hunt {s : State} (h : s.mgmt.framer = .hunt) : testFrame s = s := by
  simp [testFrame, h]

/-- Without a complete frame a test does nothing. -/
theorem testFrame_of_length {s : State} (h : s.mgmt.framer = .length) : testFrame s = s := by
  simp [testFrame, h]

/-- Without a complete frame a test does nothing. -/
theorem testFrame_of_short {s : State} {n : Nat} {kept : List Octet} (h : s.mgmt.framer = .collect n kept)
    (hk : kept.length ≠ n + 2) : testFrame s = s := by
  simp [testFrame, h, hk]

/-- The input buffer stays within its bound (R172). -/
theorem acceptMessage_bound {m : Message} {s : State} (h : s.mgmt.inbox.length ≤ 4) :
    (acceptMessage m s).mgmt.inbox.length ≤ 4 := by
  unfold acceptMessage
  split
  · rename_i hlt
    simpa [State.modMgmt, Config.inboxMessages] using hlt
  · exact h

/-! ### The output queue (R169) -/

@[simp] theorem Mgmt.dropHead_outbox (m : Mgmt) : m.dropHead.outbox = m.outbox.drop 1 := rfl
@[simp] theorem Mgmt.dropHead_sentOctets (m : Mgmt) : m.dropHead.sentOctets = 0 := rfl
@[simp] theorem Mgmt.dropHead_linkOut (m : Mgmt) : m.dropHead.linkOut = m.linkOut := rfl

/-- With nothing to send, an octet 0x00 is clocked out (R169). -/
theorem Mgmt.clockOut_of_nil {m : Mgmt} (h : m.outbox = []) : m.clockOut = { m with linkOut := m.linkOut ++ [0] } := by
  unfold Mgmt.clockOut
  rw [h]

/-- An octet that is not the head's last leaves the head in its place (R169). -/
theorem Mgmt.clockOut_of_more {m : Mgmt} {x : Message} {rest : List Message} (h : m.outbox = x :: rest)
    (hm : m.sentOctets + 1 < x.octets.length) :
    m.clockOut = { m with
      linkOut := m.linkOut ++ [x.octets.getD m.sentOctets 0], sentOctets := m.sentOctets + 1 } := by
  unfold Mgmt.clockOut
  rw [h]
  simp [Nat.not_le.mpr hm]

/-- The head leaves the output queue with its last octet (R169). -/
theorem Mgmt.clockOut_of_last {m : Mgmt} {x : Message} {rest : List Message} (h : m.outbox = x :: rest)
    (hm : m.sentOctets + 1 = x.octets.length) :
    m.clockOut = { m with
      outbox := rest, linkOut := m.linkOut ++ [x.octets.getD m.sentOctets 0], sentOctets := 0 } := by
  unfold Mgmt.clockOut
  rw [h]
  simp [Mgmt.dropHead, hm]

/-- Every message has an octet to send (R184). -/
theorem Message.octets_pos (m : Message) : 0 < m.octets.length := by
  simp [Message.octets]

/-- A head that stays has an octet to clock out, before and after one is clocked out (R169). -/
theorem Mgmt.clockOut_clocked {m : Mgmt}
    (h : match m.outbox with | [] => m.sentOctets = 0 | x :: _ => m.sentOctets < x.octets.length) :
    match m.clockOut.outbox with
    | [] => m.clockOut.sentOctets = 0
    | x :: _ => m.clockOut.sentOctets < x.octets.length := by
  cases hq : m.outbox with
  | nil =>
    rw [hq] at h
    rw [Mgmt.clockOut_of_nil hq]
    simpa [hq] using h
  | cons x rest =>
    rw [hq] at h
    rcases Nat.lt_or_eq_of_le (Nat.succ_le_of_lt h) with hm | hm
    · rw [Mgmt.clockOut_of_more hq hm]
      simpa [hq] using hm
    · rw [Mgmt.clockOut_of_last hq hm]
      cases rest with
      | nil => rfl
      | cons y _ => exact y.octets_pos

end Sys2Proof.Machine
end

