-- ==== Sys2Proof/Laws/Wire.lean ====
section
/-! SUPPORT. Octet fields: what was written is read back. -/

namespace Sys2Proof.Machine

@[simp] theorem be1_length (n : Nat) : (be1 n).length = 1 := rfl
@[simp] theorem be2_length (n : Nat) : (be2 n).length = 2 := rfl
@[simp] theorem be4_length (n : Nat) : (be4 n).length = 4 := rfl
@[simp] theorem be6_length (n : Nat) : (be6 n).length = 6 := rfl

theorem fromBe_be1 {n : Nat} (h : n < 256) : fromBe (be1 n) = n := by
  simp [fromBe, be1]; omega

theorem fromBe_be2 {n : Nat} (h : n < 65536) : fromBe (be2 n) = n := by
  simp [fromBe, be2]; omega

theorem fromBe_be4 {n : Nat} (h : n < 4294967296) : fromBe (be4 n) = n := by
  simp [fromBe, be4, be2]; omega

/-- A field that stands behind a run of known length reads as it was written. -/
theorem field_append (a b c : List Octet) : field (a ++ b ++ c) a.length b.length = fromBe b := by
  simp [field, List.append_assoc]

/-- The size of a fragment is that of its octets (R1). -/
theorem fragment_octets_length (f : Fragment) : f.octets.length = f.size := by
  simp [Fragment.octets, Fragment.headAndPayload, Fragment.size, be1, be2]

end Sys2Proof.Machine
end

