-- ==== Sys2Proof/Tests/Slice0.lean ====
section
/-! SUPPORT. Small tests: ill-formed commands refused, the spec's worked figures, one step of each command, and for every
statement a state and operands that meet its hypotheses. Expected results are the spec's own figures, or worked out from
its rules by hand; each test names the rule. -/

namespace Sys2Proof.Tests

set_option Elab.async false

open Sys2Proof Sys2Proof.Machine

/-! ### WellFormed refuses ill-formed commands -/

theorem test_long_body_refused : WellFormed (.identify 0 (List.replicate 247 0)) = false := by decide +kernel
theorem test_longest_body_allowed : WellFormed (.identify 0 (List.replicate 246 0)) = true := by decide +kernel
theorem test_known_kind_is_not_unknown : WellFormed (.unknownRequest 0x33 0 []) = false := by decide
theorem test_taken_of_nothing_refused : WellFormed (.taken 0 0) = false := by decide

/-! ### Check words, by their published check values over the octets of "123456789" -/

/-- R1: generator 0x1021, preset all ones, no inversion: check value 0x29B1. -/
theorem test_crc16_check : crc16 [0x31, 0x32, 0x33, 0x34, 0x35, 0x36, 0x37, 0x38, 0x39] = 0x29B1 := by decide +kernel

/-- R84: the Ethernet FCS: check value 0xCBF43926. -/
theorem test_crc32_check : crc32 [0x31, 0x32, 0x33, 0x34, 0x35, 0x36, 0x37, 0x38, 0x39] = 0xCBF43926 := by decide +kernel

/-! ### States -/

/-- The state that an outcome goes on with. -/
def after (o : Host.Outcome State Fault Refusal) : State :=
  match o with
  | .next t => t
  | _ => State.reset

/-- A pair in a state, enabled, its outbound reference 0. -/
def pairIn (x : PairState) : Pair := { Pair.reset true true with state := x, reason := .host, outRef := some 0 }

/-- A port whose transceiver is present and in SHOWTIME: 2000 kbit/s and 4 ms each way. -/
def portUnder (o : Order) : Port :=
  { Port.reset with
    order := o, present := true, silence := some 500,
    report := { line := .showtime, upRate := 2000, downRate := 2000, upDelay := 4, downDelay := 4 } }

/-- A released part, SYNCED at 0, with pair 0 as given and live where `mark` says so. -/
def part (r : Pair) (x : Port) (mark : Option Seq) : State :=
  { State.reset with
    mgmt := { State.reset.mgmt with released := true }, pairs := State.reset.pairs.set 0 r,
    ports := State.reset.ports.set 0 x,
    rx := { State.reset.rx with synced := true, live := State.reset.rx.live.set 0 mark } }

/-- Pair 0 in a state under the order that the state gives. -/
def at0 (x : PairState) : State := part (pairIn x) (portUnder x.order) none

/-- Pair 0 ACTIVE and live. -/
def active0 : State := part (pairIn .active) (portUnder .train) (some 0)

/-- A DATA entry of a size. -/
def dataEntry (size : Nat) (handed : Bool) : Entry :=
  { frag := .data false false 0 (List.replicate (size - 8) 0), handed := handed }

/-- A line queue of one HANDED entry, 10 of its 40 octets taken, and two STAGED ones, beside a residue of 5 octets: no credit
is free. -/
def lined (x : PairState) : Port :=
  { portUnder x.order with
    queue := [dataEntry 40 true, dataEntry 20 false, dataEntry 30 false], takenFromHead := 10, residue := [5] }

/-- That line queue keeps its law, under any order. -/
theorem lined_law (x : PairState) : LineQueueLaw (lined x) :=
  ⟨⟨[dataEntry 40 true], [dataEntry 20 false, dataEntry 30 false], rfl, by decide +kernel, by decide +kernel⟩,
   show 1 + 1 ≤ 2 by decide, show 3 ≤ 4 by decide, show queueSize (lined .active).queue - 10 ≤ 3072 by decide +kernel,
   show ∀ e ∈ (lined .active).queue, e.frag.size ≤ 520 by decide +kernel,
   show 10 < (dataEntry 40 true).frag.size by decide +kernel, show ∀ c ∈ [5], 0 < c by decide⟩

/-- Pair 0 in a state, its line queue as above. -/
def lined0 (x : PairState) : State := part (pairIn x) (lined x) (some 0)

/-- The whole frame of 600 octets that is split: its last fragment, held while pair 0 has room. -/
def held0 (midRun : Bool) : State :=
  let plan := planOf 256 { octets := List.replicate 600 6, cells := 5, admitted := 0, order := 0 }
  { active0 with
    disp := { next := 7, split := some plan.advance.advance, held := true, midRun := midRun, standing := false },
    cells := { active0.cells with usedOut := 5 } }

/-- A frame of `n` octets that is not IPv4. -/
def frame (n : Nat) : List Octet := List.replicate 12 1 ++ [0x08, 0x06] ++ List.replicate (n - 14) 0x77

/-- A frame as it comes from the PHY. -/
def run (n : Nat) : List Octet := frame n ++ fcsOctets (frame n)

/-- A whole frame's worth of DATA. -/
def whole (seq : Seq) (n : Nat) : Fragment := .data true true seq (List.replicate n 5)

/-- A stored fragment of one cell. -/
def record (seq : Seq) : FragRecord := { seq := seq, start := true, fin := true, cells := 1, payload := List.replicate 100 5 }

/-- A rule that matches every frame. -/
def anyRule (a : Action) (least : Option Nat) : Rule :=
  { inUse := true, selector := .any, value := 0, mask := 0, minLength := least, action := a, hits := 0 }

/-- The part with its receive framer as given, in UART or SPI mode. -/
def framing (f : Framer) (spi : Bool) : State :=
  { State.reset with mgmt := { State.reset.mgmt with framer := f, spi := spi } }

/-- An IDENTIFY message. -/
def ident : Message := { kind := 0x01, tag := 7, body := [] }

/-- The part with messages in its two buffers. -/
def buffered (inbox outbox : List Message) : State :=
  { State.reset with mgmt := { State.reset.mgmt with inbox := inbox, outbox := outbox } }

/-- Any message can be taken by a part with empty buffers. -/
theorem ready_part (r : Pair) (x : Port) (k : Option Seq) (m : Message) : ReadyFor m (part r x k) :=
  ⟨Nat.zero_lt_succ 7, .inl rfl⟩

/-! ### Worked figures of the spec -/

/-- Chapter 6, three pairs and a sequence wrap: pairs 0, 1 and 2 as its table gives them. -/
def threePairs : State :=
  let port (up delay : Nat) (queue : List Entry) : Port :=
    { portUnder .train with
      report := { line := .showtime, upRate := up, downRate := 2000, upDelay := delay, downDelay := 4 }, queue := queue }
  let pair (derate : Nat) : Pair := { pairIn .active with derate := derate, outRef := some 16382 }
  { part (pair 90) (port 2600 8 []) (some 0) with
    pairs := ((State.reset.pairs.set 0 (pair 90)).set 1 (pair 100)).set 2 (pair 100),
    ports := ((State.reset.ports.set 0 (port 2600 8 [])).set 1 (port 960 2 [])).set 2
      (port 5200 24 [dataEntry 260 true, dataEntry 260 true]),
    disp := { State.reset.disp with next := 16382 } }

/-- R112: the nine estimates of the example's first, second and third fragments for pair 0 and the first for the others. -/
theorem test_estimates_of_chapter_6 :
    threePairs.estimate 242 0 = 8828 ∧ threePairs.estimate 242 1 = 4017 ∧ threePairs.estimate 242 2 = 25173 ∧
    threePairs.estimate 241 0 = 8824 := by decide +kernel

/-- R113, R115: all three fragments of the 700-octet frame go to pair 1, next wraps to 1 and B_1 is 724. -/
theorem test_three_pairs_of_chapter_6 :
    let t := dispatch (beginSplit { octets := List.replicate 700 7, cells := 0, admitted := 0, order := 0 } threePairs)
    ((t.port 1).backlog, (t.pair 1).outRef, t.disp.next, (t.port 0).queue, t.cells.usedOut) = (724, some 1, 1, [], 0) := by
  decide +kernel

/-- R155: the four lines of the worked example. -/
theorem test_t_reorder_of_chapter_8 :
    let r (delay rate : Nat) : Report := { line := .showtime, upRate := 0, downRate := rate, upDelay := 0, downDelay := delay }
    tReorderOf 5 (r 4 1200) [r 12 768, r 31 2400] = 38 ∧ tReorderOf 5 (r 0 40) [] = 70 ∧
    tReorderOf 1 (r 10 16000) [r 10 16000] = 2 ∧ tReorderOf 50 (r 0 64) [r 63 8000] = 178 := by decide +kernel

/-- R106, R107: 65 octets at P_max 64 split as 33 and 32, 1518 octets at 64 into 24 fragments with six of 64. -/
theorem test_split_of_chapter_6 :
    let plan (n p : Nat) := planOf p { octets := List.replicate n 0, cells := 0, admitted := 0, order := 0 }
    ((plan 65 64).k, (plan 65 64).large, (plan 65 64).small, (plan 65 64).largeCount) = (2, 33, 32, 1) ∧
    ((plan 1518 64).k, (plan 1518 64).large, (plan 1518 64).small, (plan 1518 64).largeCount) = (24, 64, 63, 6) := by
  decide +kernel

/-- R28, R29: the TAKEN accounting of chapter 2: B after each report, and the counters at the end. -/
theorem test_taken_of_chapter_2 :
    let s := part (pairIn .active) { portUnder .train with queue :=
      [dataEntry 261 true, dataEntry 261 true, { frag := .progress 0, handed := false }, dataEntry 108 false] } (some 0)
    let s1 := after (exec (.taken 0 200) s)
    let s2 := after (exec (.taken 0 100) s1)
    let s3 := after (exec (.taken 0 300) s2)
    ((s1.port 0).backlog, (s2.port 0).backlog, (s3.port 0).backlog, (s3.port 0).handedCount,
      (s3.pair 0).counter .fragmentsSent, (s3.pair 0).counter .octetsSent, (s3.pair 0).counter .takenExcess) =
      (438, 338, 108, 1, 3, 530, 1) := by decide +kernel

/-! ### Witnesses: for every statement, a state and operands that meet its hypotheses -/

theorem test_witness_StepRunsFrontCommand :
    ({ State.reset with pending := [.noticeBuild] } : State).pending = .noticeBuild :: [] ∧ State.reset.pending = [] :=
  ⟨rfl, rfl⟩

theorem test_witness_ReceiveFramerFollowsItsTable :
    (framing .length false).mgmt.spi = false ∧ (framing .length false).mgmt.framer = .length ∧
    (2 ≤ (2 : Octet).toNat ∧ (248 : Octet).toNat ≤ 248) ∧ ((1 : Octet).toNat < 2 ∧ 248 < (249 : Octet).toNat) ∧
    (framing (.collect 2 [1]) false).mgmt.framer = .collect 2 [1] ∧ ([1] : List Octet).length ≠ 2 + 2 ∧
    (framing (.collect 2 [1]) true).mgmt.spi = true ∧ State.reset.mgmt.framer = .hunt ∧ State.reset.mgmt.spi = false ∧
    (framing .hunt true).mgmt.framer = .hunt ∧ (framing .length true).mgmt.framer = .length := by decide +kernel

theorem test_witness_CompleteFrameIsTestedOnce :
    let good : List Octet := ident.octets.drop 2
    let bad : List Octet := [1, 7, 0, 0]
    (framing (.collect 2 good) false).mgmt.framer = .collect 2 good ∧ good.length = 2 + 2 ∧
    (crc16 (be1 2 ++ good.take 2)).toNat = field good 2 2 ∧ (framing (.collect 2 good) false).mgmt.inbox.length < 4 ∧
    4 ≤ (buffered [ident, ident, ident, ident] []).mgmt.inbox.length ∧
    bad.length = 2 + 2 ∧ (crc16 (be1 2 ++ bad.take 2)).toNat ≠ field bad 2 2 ∧ (2 : Nat) ≠ 0xA5 ∧ 0xA5 ∉ bad := by
  decide +kernel

/-- R170: a frame whose check differs holds a whole frame behind a further sync octet; the rescan finds it. -/
theorem test_rescan :
    let t := after (exec .mgmtFrameComplete (framing (.collect 8 (ident.octets ++ [0, 0, 0, 0])) false))
    (t.mgmt.inbox, t.mgmt.framer, t.counter .mgmtBadCheck) = ([ident], .hunt, 1) := by decide +kernel

theorem test_witness_SentMessageIsReceived :
    State.reset.mgmt.spi = false ∧ State.reset.mgmt.framer = .hunt ∧
    (buffered [ident, ident, ident] []).mgmt.inbox.length < 4 ∧
    ({ kind := 0x02, tag := 0, body := List.replicate 246 0 } : Message).body.length ≤ 246 := by decide +kernel

/-- A part in SPI mode with an IDENTIFY to send, of which octets have been clocked out. -/
def clocking (sent : Nat) : State :=
  { State.reset with mgmt := { State.reset.mgmt with spi := true, outbox := [ident, ident], sentOctets := sent } }

theorem test_witness_OutputQueueGoesOutInOrder :
    (framing .hunt true).mgmt.spi = true ∧ (framing .hunt true).mgmt.outbox = [] ∧ (clocking 0).mgmt.spi = true ∧
    (clocking 4).mgmt.outbox = ident :: [ident] ∧ (clocking 4).mgmt.sentOctets + 1 < ident.octets.length ∧
    (clocking 5).mgmt.sentOctets + 1 = ident.octets.length ∧ (clocking 5).mgmt.sentOctets < ident.octets.length ∧
    (buffered [] [ident]).mgmt.outbox = ident :: [] ∧ (buffered [] [ident]).mgmt.spi = false := by decide +kernel

/-- R169: the head leaves the output queue with its last octet, and MSG_WAIT falls with the last message. -/
theorem test_last_octet_clocked_out :
    let t := after (exec (.mgmtOctetReceived 0 true) (clocking 5))
    let u := (List.range 6).foldl (fun s _ => after (exec (.mgmtOctetReceived 0 true) s)) t
    (t.mgmt.outbox, t.mgmt.sentOctets, t.mgmt.linkOut, t.msgWait) = ([ident], 0, [ident.octets.getD 5 0], true) ∧
    (u.mgmt.outbox, u.msgWait, after (exec .messageSent (clocking 5))) = ([], false, clocking 5) := by decide +kernel

theorem test_witness_LowestPendingNoticeIsBuilt :
    let s := State.reset.raise .lanLink
    s.occurrences .lanLink ≠ 0 ∧ (∀ i ∈ allInstances, i.place < NoticeInst.lanLink.place → s.occurrences i = 0) ∧
    s.mgmt.outbox.length < 8 ∧ s.mgmt.outbox.countP Message.isNotice < 7 ∧
    (∀ i ∈ allInstances, State.reset.occurrences i = 0) ∧
    8 ≤ (buffered [] (List.replicate 8 ident)).mgmt.outbox.length ∧
    7 ≤ (buffered [] (List.replicate 7 (noticeOf .lanLink s))).mgmt.outbox.countP Message.isNotice := by decide +kernel

/-- Every instance is one of the 25, so that the quantifiers over `allInstances` run over all of them (R185). -/
theorem mem_allInstances (i : NoticeInst) : i ∈ allInstances := by
  cases i with
  | pairState p => revert p; decide
  | commandDone p => revert p; decide
  | queueFull c => revert c; decide
  | _ => decide

theorem test_witness_NoticesAreMaskedAndCounted :
    let masked : State := { State.reset with mgmt := { State.reset.mgmt with mask := 64 } }
    masked.mgmt.mask.getLsbD (NoticeInst.lanLink.cause - 1) = true ∧
    State.reset.mgmt.mask.getLsbD (NoticeInst.lanLink.cause - 1) = false ∧ State.reset.occurrences .lanLink < 255 ∧
    (State.reset.setOccurrences .lanLink 255).occurrences .lanLink = 255 ∧ 128 ≤ (128 : Octet).toNat ∧
    (127 : Octet).toNat < 128 := by decide +kernel

theorem test_witness_RequestsAreRefusedOrWait :
    (0x34 : Octet) ∉ requestKinds ∧ (0x00 : Octet) ∉ requestKinds ∧ requestRows.length = 19 ∧
    requestRows.map (·.1) = requestKinds ∧ ([0] : List Octet).length ≠ 0 ∧
    8 ≤ (buffered [] (List.replicate 8 ident)).mgmt.outbox.length ∧
    (buffered [ident] []).mgmt.inbox = ident :: [] ∧ ident ≠ ⟨0x32, 7, []⟩ := by decide +kernel

/-- A message can be taken with empty buffers, and from the head of the input buffer with one place left. -/
theorem test_witness_ready (m : Message) :
    ReadyFor m State.reset ∧ ReadyFor m (buffered [m, ident] (List.replicate 7 ident)) :=
  ⟨⟨Nat.zero_lt_succ 7, .inl rfl⟩, ⟨Nat.lt_succ_self 7, .inr rfl⟩⟩

/-- R171, R172, R174: a check that fails changes nothing but its counter. -/
theorem test_message_received :
    let s := ident.octets.foldl (fun s o => after (exec (.mgmtOctetReceived o true) s)) State.reset
    (after (exec .mgmtFrameComplete s)).mgmt.inbox = [ident] := by decide +kernel

theorem test_witness_ReadRuleReturnsTheRecord : (0 : Fin 64).val = 0 ∧ 63 < (64 : Octet).toNat ∧ 63 < (255 : Octet).toNat := by
  decide

theorem test_witness_ReadPairReturnsTheStatusRecord : 7 < (8 : Octet).toNat ∧ (7 : PairNo).val = 7 := by decide

theorem test_witness_ProbePairGivesTheVerdicts :
    (∀ x : PairState, ((at0 x).pair 0).state = x ∧ ((at0 x).pair 0).reason = .host ∧ (0 : PairNo).val < (at0 x).mgmt.fitted) ∧
    (part { pairIn .leaving with leaveForm := .graceful } (portUnder .train) none).pair 0 =
      { pairIn .leaving with leaveForm := .graceful } ∧
    ((part { pairIn .quarantine with stateTimer := some (.penalty, 41250) } (portUnder .quiet) none).pair 0).stateTimer =
      some (.penalty, 41250) ∧
    (State.resetWith { fitted := 3, spi := false, autostart := false }).mgmt.fitted ≤ (4 : PairNo).val ∧
    7 < (8 : Octet).toNat ∧ (3 : Octet) ≠ 1 ∧ (3 : Octet) ≠ 2 := by
  refine ⟨fun x => ?_, ?_⟩
  · cases x <;> decide +kernel
  · decide +kernel

/-- R69, the worked example: 41250 ms of penalty read as 42 s, and the verdicts QUARANTINED and WOULD-PARK. -/
theorem test_probe_of_chapter_3 :
    (after (exec (.probePair 9 [0, 1])
      (part { pairIn .quarantine with stateTimer := some (.penalty, 41250) } (portUnder .quiet) none))).mgmt.outbox =
      [{ kind := 0x80, tag := 9, body := [0x13, 0, 6, 9, 0, 42] }] := by decide +kernel

/-- A described header: EtherType 0x0806, no tag, no IPv4, 64 octets. -/
def described (length : Nat) (tagField : Octet) : List Octet :=
  be2 0x0806 ++ [tagField, 0] ++ be2 0 ++ be6 0x010101010101 ++ [0, 0, 0] ++ be2 length

theorem test_witness_TryClassifyNamesTheFirstMatch :
    (described 64 0).length = 17 ∧ field (described 64 2) 2 1 = 2 ∧ field (described 64 0) 2 1 = 0 ∧
    60 ≤ (frame 60).length ∧
    ((State.reset.setRule 5 (anyRule .discard (some 65))).rule 5).matchesHeader (headerOf (frame 64)) = true ∧
    (∀ i : Fin 64, (State.reset.rule i).matchesHeader (headerOf (frame 64)) = false) := by decide +kernel

/-- R87 to R89: a tagged IPv4 frame: PCP 5 and VID 0x123 of tag 0xA123, DSCP 46 of 0xB8, protocol 17. -/
theorem test_tagged_header :
    let f : List Octet := List.replicate 12 2 ++ [0x81, 0, 0xA1, 0x23, 8, 0, 0x45, 0xB8] ++ List.replicate 7 0 ++ [17]
      ++ List.replicate 40 0
    let h := headerOf f
    (h.etherType, h.tag, h.dstMac, h.ipv4, h.length) = (0x0800, some (5, 0x123), 0x020202020202, some (46, 17), 68) := by
  decide +kernel

theorem test_witness_ReadCountersAndGapsTakeOut :
    7 < (8 : Octet).toNat ∧ (8 : Octet) ≠ 0x10 ∧ 1 < (2 : Octet).toNat := by decide

/-- A body of CONFIGURE-BOND. -/
def bondBody (sel pMax cls bond epoch : Nat) : List Octet :=
  be2 sel ++ be2 pMax ++ be1 cls ++ be1 5 ++ be2 3000 ++ be1 10 ++ be2 2000 ++ be2 60 ++ be2 300 ++ be1 4 ++ be1 10
    ++ be2 bond ++ be1 epoch

theorem test_witness_ConfigureBondAppliesSelectedSettings :
    (bondBody 4096 0 0 0 0).length = 20 ∧ 4096 ≤ field (bondBody 4096 0 0 0 0) 0 2 ∧
    field (bondBody 4095 0 4 0 0) 0 2 < 4096 ∧ (field (bondBody 4095 0 4 0 0) 0 2).testBit 1 = true ∧
    3 < field (bondBody 4095 0 4 0 0) 4 1 ∧ (at0 .parked).mgmt.released = true ∧
    (field (bondBody 1024 0 3 2 0) 0 2).testBit 10 = true ∧
    max 1 (field (bondBody 1024 0 3 2 0) 17 2) ≠ (at0 .parked).mgmt.bondId.toNat ∧
    field (bondBody 4095 0 3 2 0) 4 1 ≤ 3 ∧ State.reset.mgmt.released = false ∧ (∀ p, State.reset.mark p = none) ∧
    (active0.mark 0).isSome = true := by decide +kernel

/-- R177: P_max 600 is brought to 512 and the reply is OK-CLAMPED. -/
theorem test_configure_bond_clamps :
    let t := after (exec (.configureBond 1 (bondBody 1 600 0 0 0)) State.reset)
    (t.cfg.pMax, (t.mgmt.outbox.map fun m => m.body.take 2)) = (512, [[0x02, 1]]) := by decide +kernel

theorem test_witness_ReleaseStartsEnabledPairs :
    (at0 .parked).mgmt.released = true ∧ State.reset.mgmt.released = false ∧
    ((at0 .parked).pair 0).state = .parked ∧ ((at0 .parked).pair 0).enabled = true ∧
    ((at0 .parked).port 0).guard = .clear ∧
    ((part { pairIn .parked with enabled := false } (portUnder .quiet) none).pair 0).enabled = false ∧
    ((part (pairIn .parked) { portUnder .quiet with guard := .active } none).port 0).guard = .active := by decide +kernel

theorem test_witness_ResetBondRestartsEveryBlock :
    (0 : PairNo).val < active0.mgmt.fitted ∧ (active0.pair 0).state ≠ .vacant ∧ (active0.port 0).guard = .clear ∧
    (active0.pair 1).state = .vacant ∧ (active0.port 0).order ≠ .quiet ∧ ((at0 .parked).port 0).order = .quiet ∧
    ((at0 .parked).port 0).residue = [] ∧ active0.cells.level = active0.cells.levelNow ∧
    (active0.pair 0).counter .retrains ≤ 4294967295 ∧ active0.counter .noPath ≤ 4294967295 ∧
    ((part (pairIn .active) { portUnder .train with guard := .active } none).port 0).guard = .active := by decide +kernel

theorem test_witness_CellsAreSharedOut :
    (be2 11 ++ be2 12).length = 4 ∧ field (be2 11 ++ be2 12) 0 2 < 12 ∧ 3072 < field (be2 12 ++ be2 3061) 0 2 +
      field (be2 12 ++ be2 3061) 2 2 ∧ field (be2 12 ++ be2 3060) 0 2 + field (be2 12 ++ be2 3060) 2 2 = 3072 ∧
    (at0 .parked).mgmt.released = true ∧ State.reset.mgmt.released = false ∧ State.reset.cells.usedOut = 0 ∧
    State.reset.cells.usedIn = 0 ∧ State.reset.rx.window = [] ∧ State.reset.cells.tells = [] ∧
    State.reset.rx.pressureFlag = State.reset.cells.pressure ∧ State.reset.cells.availIn = 2304 ∧
    State.reset.cells.availOut = 1536 := by decide +kernel

/-- R73, R74, R79, R80: of the 2304 cells the inbound side can take after reset, 2281 leave 23 and begin pressure. -/
theorem test_request_brings_pressure :
    let t := (requestCells .inbound 2281 State.reset).getD State.reset
    (t.cells.usedIn, t.cells.availIn, t.cells.pressure, t.cells.tells, t.cells.level, t.counter .pressureEntries,
      t.occurrences .storeLevel) = (2281, 23, true, [true], .pressure, 1, 1) ∧
    (requestCells .inbound 2305 State.reset).isNone = true := by decide +kernel

/-- A body of WRITE-RULE. -/
def ruleBody (index inUse selector action value mask least : Nat) : List Octet :=
  be1 index ++ be1 inUse ++ be1 selector ++ be1 action ++ be6 value ++ be6 mask ++ be2 least

theorem test_witness_WriteRuleReplacesTheRecord :
    (ruleBody 63 1 2 5 7 7 59).length = 18 ∧ 63 < field (ruleBody 64 1 2 5 7 7 59) 0 1 ∧
    field (ruleBody 63 1 2 5 7 7 59) 0 1 = (63 : Fin 64).val ∧ field (ruleBody 63 1 2 5 7 7 59) 1 1 = 1 ∧
    field (ruleBody 63 1 2 5 7 7 59) 2 1 = Selector.vlanPcp.code ∧ field (ruleBody 63 1 2 5 7 7 59) 3 1 = Action.discard.code ∧
    field (ruleBody 63 1 2 5 7 7 59) 4 6 < 2 ^ Selector.vlanPcp.width ∧
    2 ^ Selector.vlanPcp.width ≤ field (ruleBody 63 1 2 5 8 7 59) 4 6 := by decide +kernel

/-- R92, step 4: a min length of 59 is brought to 60, and the whole record is replaced. -/
theorem test_write_rule :
    ((after (exec (.writeRule 1 (ruleBody 63 1 2 5 7 7 59)) State.reset)).rule 63) =
      { inUse := true, selector := .vlanPcp, value := 7, mask := 7, minLength := some 60, action := .discard, hits := 0 } := by
  decide +kernel

theorem test_witness_ConfigureClassSetsTheLimits :
    (be1 4 ++ be2 1 ++ be2 0).length = 5 ∧ 3 < field (be1 4 ++ be2 1 ++ be2 0) 0 1 ∧
    field (be1 3 ++ be2 0 ++ be2 1) 0 1 = (3 : Fin 4).val := by decide +kernel

theorem test_witness_FlushReorderFollowsItsTable :
    let s : State := { active0 with rx := { active0.rx with window := [record 5] } }
    ({ active0 with rx := { active0.rx with flush := some 5 } } : State).rx.flush.isSome = true ∧
    active0.rx.flush = none ∧ active0.rx.window = [] ∧ s.rx.flush = none ∧ record 5 ∈ s.rx.window ∧
    (∀ q ∈ s.rx.window, dist q.seq s.rx.nes ≤ dist (record 5).seq s.rx.nes) ∧
    (∀ q ∈ s.rx.window, dist q.seq s.rx.nes = dist (record 5).seq s.rx.nes → q = record 5) ∧
    s.rx.paused = false ∧ s.lan.txQueue.length + s.rx.window.countP (·.fin) ≤ 8 ∧ s.mgmt.mask.getLsbD 2 = false ∧
    (∀ q ∈ s.rx.window, dist (record 5).seq s.rx.nes ≤ dist q.seq s.rx.nes) ∧ (record 5).seq ≠ s.rx.nes ∧
    s.rx.gaps = [] ∧ s.mark 0 = some 0 ∧ ahead 0 s.rx.nes = false := by decide +kernel

/-- R157, R158: the flush declares 0 to 4 lost, hands record 5 on, and raises COMMAND-DONE. -/
theorem test_flush :
    let t := after (exec (.flushReorder 1 []) { active0 with rx := { active0.rx with window := [record 5] } })
    (t.rx.nes, t.rx.flush, t.occurrences .flushDone, t.rx.gaps.map fun g => (g.first, g.count, g.cause)) =
      (6, none, 1, [(0, 5, .flush)]) := by decide +kernel

theorem test_witness_PairRequests :
    (∀ x : PairState, ((at0 x).pair 0).state = x ∧ ((at0 x).pair 0).reason = .host ∧
      (0 : PairNo).val < (at0 x).mgmt.fitted ∧ (at0 x).mgmt.released = true ∧ ((at0 x).port 0).guard = .clear ∧
      ((at0 x).pair 0).leaveForm ≠ .graceful) ∧
    (State.resetWith { fitted := 0, spi := false, autostart := false }).mgmt.fitted ≤ (1 : PairNo).val ∧
    ((at0 .settling).pair 0).stateTimer = none ∧ 64 ≤ ((at0 .settling).port 0).report.upRate * 50 / 100 ∧
    ((part (pairIn .active) { portUnder .train with report := { (portUnder .train).report with upRate := 127 } }
      none).port 0).report.upRate * 50 / 100 = 63 ∧
    ((part { pairIn .leaving with reason := .lowRate } (portUnder .train) none).pair 0).reason ≠ .host ∧
    ((part { pairIn .leaving with leaveForm := .graceful } (portUnder .train) none).pair 0).leaveForm = .graceful ∧
    ((part { pairIn .settling with stateTimer := some (.holdoff, 3000) } (portUnder .train) none).pair 0).stateTimer ≠ none ∧
    State.reset.mgmt.released = false ∧ 7 < (8 : Octet).toNat ∧ (3 : Octet) ≠ 1 ∧ (3 : Octet) ≠ 2 ∧
    ((at0 .active).port 0).queue.length < 4 ∧ ((at0 .active).port 0).backlog + 9 ≤ 3072 ∧
    ¬((part (pairIn .active) { portUnder .train with queue := List.replicate 4 (dataEntry 20 true) } none).port 0).queue.length
      < 4 := by
  refine ⟨fun x => ?_, ?_⟩
  · cases x <;> decide +kernel
  · decide +kernel

/-- R118, R114: the last fragment held, or waiting in a stopped run, while the one ACTIVE pair has room. -/
theorem test_witness_ConfigurePairSetsTheDerate_held :
    ∀ midRun : Bool, ((held0 midRun).pair 0).state = .active ∧ (∀ q, q ≠ 0 → ((held0 midRun).pair q).state ≠ .active) ∧
      64 ≤ ((held0 midRun).port 0).report.upRate * 50 / 100 ∧
      ((held0 midRun).disp.split.map fun plan => (plan.current, plan.k, plan.size)) = some (3, 3, 208) ∧
      (held0 midRun).disp.held = true ∧ (removeHead (held0 midRun)).eventWaits = false ∧ (held0 false).disp.midRun = false ∧
      (∀ c, ((held0 midRun).cls c).frames = []) ∧ ((held0 midRun).pair 0).outRef = some 0 ∧
      dist (held0 midRun).disp.next 0 ≤ 8190 ∧ ((held0 midRun).port 0).queue.length < 4 ∧
      ((held0 midRun).port 0).backlog + 208 ≤ 3072 := by decide +kernel

/-- R173, R114: a CONFIGURE-PAIR behind another one in the input buffer waits for the run once that one has left it. -/
theorem test_request_waits_for_the_run :
    let m (tag : Octet) : Message := { kind := 0x10, tag := tag, body := [0, 50] }
    let s : State := { held0 true with
      pending := [.configurePair 4 [0, 50]], mgmt := { (held0 true).mgmt with inbox := [m 3, m 4] } }
    (s.eventWaits, (removeHead s).eventWaits) = (false, true) := by decide +kernel

/-- R118, R115, R116: a CONFIGURE-PAIR has the held last fragment placed; its frame is done and a frame asked for. -/
theorem test_configure_pair_redecides :
    let t := after (exec (.configurePair 3 [0, 50]) (held0 false))
    (((t.port 0).queue.map (·.frag.size)), t.disp.next, t.disp.held, t.disp.standing, t.cells.usedOut) =
      ([208], 8, false, true, 0) := by decide +kernel

/-- R66, R19: ENABLE-PAIR of a PARKED pair in a released part sends ORDER TRAIN. -/
theorem test_enable_pair :
    let t := after (exec (.enablePair 3 [0]) (at0 .parked))
    ((t.pair 0).state, (t.port 0).sent, t.occurrences (.pairState 0)) = (.training, [.order .train], 1) := by decide +kernel

/-- R67, R56: a graceful DISABLE-PAIR is ACCEPTED and queues a LEAVE. -/
theorem test_disable_pair_graceful :
    let t := after (exec (.disablePair 3 [0, 1]) active0)
    ((t.pair 0).state, ((t.port 0).queue.map (·.frag)), t.mgmt.outbox.map (·.body)) =
      (.leaving, [.leave .host], [[0x12, 2]]) := by decide +kernel

/-- An absent transceiver on a fitted, VACANT pair. -/
def absent0 : State := part (Pair.reset true true) Port.reset none

theorem test_witness_DiscardedMessagesHaveNoEffect : (absent0.port 0).present = false := by decide +kernel

theorem test_witness_FirstReportMakesThePairPresent :
    (absent0.port 0).order = .unordered ∧ absent0.mgmt.mask.getLsbD 1 = false ∧ (0 : PairNo).val < absent0.mgmt.fitted ∧ (absent0.port 0).present = false ∧ (absent0.pair 0).state = .vacant ∧
    (absent0.port 0).guard = .clear ∧ (absent0.pair 0).enabled = true ∧ absent0.mgmt.released = true ∧
    ((part (Pair.reset true false) Port.reset none).pair 0).enabled = false ∧
    ((part (Pair.reset true true) { Port.reset with guard := .active } none).port 0).guard = .active := by decide +kernel

/-- R42, R19: the first REPORT of an enabled pair in a released part sends QUIET and then TRAIN. -/
theorem test_first_report :
    let t := after (exec (.report 0 .idle 16001 0 64 0) absent0)
    ((t.pair 0).state, (t.port 0).sent, (t.port 0).report.upRate, (t.port 0).report.upDelay) =
      (.training, [.order .quiet, .order .train], 16000, 63) := by decide +kernel

/-- The rate at a derate of 100 is the up rate, 63 or 64 at the limit of use (R45). -/
theorem test_witness_ReportIsKeptAndActedOn :
    (∀ x : PairState, ((at0 x).pair 0).state = x ∧ (0 : PairNo).val < (at0 x).mgmt.fitted ∧
      ((at0 x).port 0).present = true ∧ ((at0 x).pair 0).stateTimer = none) ∧
    ((part { pairIn .settling with stateTimer := some (.holdoff, 1) } (portUnder .train) none).pair 0).stateTimer ≠ none ∧
    min (63 : BitVec 16).toNat 16000 * 100 / 100 < 64 ∧ 64 ≤ min (64 : BitVec 16).toNat 16000 * 100 / 100 ∧
    ((at0 .parked).port 0).order = .quiet ∧ (active0.mark 0).isSome = true ∧ (∀ q, q ≠ 0 → active0.mark q = none) ∧
    (active0.pair 0).state = .active ∧ ((at0 .training).port 0).order = .train ∧ ((at0 .settling).port 0).order = .train ∧
    ((at0 .joining).port 0).order = .train ∧ ((at0 .active).port 0).order = .train ∧
    ((at0 .leaving).port 0).order = .train := by
  refine ⟨fun x => ?_, ?_⟩
  · cases x <;> decide +kernel
  · decide +kernel

/-- R19: the order TRAIN is sent again on IDLE, and on no other line state. -/
theorem test_train_sent_again :
    let sent (l : LineState) := ((after (exec (.report 0 l 0 0 0 0) (at0 .training))).port 0).sent
    (sent .idle, sent .training) = ([.order .train], []) := by decide +kernel

/-- R26, R27: fragments STAGED behind a HANDED one, the gate open, the line queue lawful. -/
theorem test_witness_ReportIsKeptAndActedOn_handover :
    (∀ x : PairState, LineQueueLaw ((lined0 x).port 0)) ∧
    (∀ x ∈ [PairState.joining, .active, .leaving], ((lined0 x).pair 0).state = x ∧ ((lined0 x).port 0).order = .train) :=
  ⟨fun x => lined_law x, by decide +kernel⟩

/-- R31, R27, R19: the residue cleared, one credit is free; the first STAGED fragment goes out before ORDER TRAIN, and
three DATA are lost. -/
theorem test_report_idle_hands_over :
    let t := after (exec (.report 0 .idle 0 0 0 0) (part (pairIn .active) (lined .active) none))
    ((t.port 0).sent, (t.pair 0).state, (t.pair 0).counter .lostOnDrop) =
      ([.fragment (dataEntry 20 false).frag, .order .train], .training, 3) := by decide +kernel

/-- A pair about to reach the flap threshold: three recent retrains (R62). -/
def flappy : State := part { pairIn .settling with flaps := [0, 0, 0] } (portUnder .train) none

theorem test_witness_LineLossRetrains :
    (active0.port 0).present = true ∧ LineState.training ≠ .showtime ∧
    ((∀ x : PairState, ((at0 x).pair 0).state = x) ∧ (flappy.pair 0).state = .settling) ∧
    flappy.cfg.flapThreshold ≤ ((flappy.pair 0).flaps ++ [flappy.now]).countP
      (fun t => flappy.now - t ≤ flappy.cfg.flapWindow * 1000) ∧
    ¬active0.cfg.flapThreshold ≤ ((active0.pair 0).flaps ++ [active0.now]).countP
      (fun t => active0.now - t ≤ active0.cfg.flapWindow * 1000) ∧
    ((part { pairIn .leaving with hostDisable := true } (portUnder .train) none).pair 0).hostDisable = true ∧
    (active0.pair 0).hostDisable = false ∧ (∀ q, q ≠ 0 → (active0.pair q).state ≠ .active) ∧
    active0.cells.usedOut = (active0.queued.map (·.cells)).sum + ((active0.disp.split.map (·.cells)).getD 0) := by
  refine ⟨by decide +kernel, by decide, ⟨fun x => ?_, by decide +kernel⟩, by decide +kernel⟩
  cases x <;> decide +kernel

/-- R46, R62: the fourth retrain within the window quarantines the pair. -/
theorem test_retrain_quarantines :
    let t := after (exec (.report 0 .training 0 0 0 0) flappy)
    ((t.pair 0).state, (t.pair 0).reason, (t.pair 0).flaps, (t.pair 0).stateTimer) =
      (.quarantine, .flapping, [], some (.penalty, 60000)) := by decide +kernel

/-- A graceful host leave, our LEAVE taken or not, over an empty queue. -/
def leavingWith (taken : Bool) : State :=
  part { pairIn .leaving with leaveForm := .graceful, leaveTaken := taken } (portUnder .train) none

/-- A queue of four with two HANDED, and a residue of none. -/
def queued0 : State :=
  part (pairIn .active) { portUnder .train with queue :=
    [dataEntry 261 true, dataEntry 261 true, dataEntry 8 false, dataEntry 108 false] } (some 0)

theorem test_witness_TakenCoversInOrder :
    (0 : PairNo).val < queued0.mgmt.fitted ∧ (queued0.port 0).present = true ∧ (522 : BitVec 16) ≠ 0 ∧
    queued0.disp.held = false ∧ (queued0.pair 0).state ≠ .leaving ∧ LineQueueLaw (queued0.port 0) := by
  refine ⟨by decide +kernel, by decide +kernel, by decide, by decide +kernel, by decide +kernel, ?_⟩
  exact ⟨⟨[dataEntry 261 true, dataEntry 261 true], [dataEntry 8 false, dataEntry 108 false], by decide +kernel,
    by decide +kernel, by decide +kernel⟩, by decide +kernel, by decide +kernel, by decide +kernel, by decide +kernel,
    by show 0 < (dataEntry 261 true).frag.size; decide +kernel, by decide +kernel⟩

/-- R26, R27: the gate open with no credit free, and the gate closed. -/
theorem test_witness_TakenCoversInOrder_handover :
    ((lined0 .active).pair 0).state = .active ∧ ((lined0 .training).pair 0).state = .training ∧
    (∀ x, LineQueueLaw ((lined0 x).port 0)) ∧ (lined0 .active).disp.held = false ∧
    ((lined0 .active).port 0).residue.sum = (5 : BitVec 16).toNat :=
  ⟨by decide +kernel, by decide +kernel, fun x => lined_law x, by decide +kernel, by decide +kernel⟩

/-- R27, R28: the residue covered, the freed credit hands over the first STAGED entry; under a closed gate none is. -/
theorem test_taken_hands_over :
    let after5 (x : PairState) := (after (exec (.taken 0 5) (lined0 x))).port 0
    ((after5 .active).sent, (after5 .active).queue.map (·.handed)) =
      ([.fragment (dataEntry 20 false).frag], [true, true, false]) ∧
    ((after5 .training).sent, (after5 .training).queue.map (·.handed)) = ([], [true, false, false]) := by decide +kernel

/-- R57, R32: an abort's premises: two HANDED, two STAGED, and nothing waiting. -/
theorem test_witness_DisablePairFollowsItsTable_abort :
    (queued0.pair 0).state = .active ∧ (queued0.pair 0).waitAck = none ∧ (queued0.pair 0).waitJoin = false ∧
    (queued0.pair 0).renewal = false ∧
    ((queued0.port 0).queue.filter (·.handed)).length + (queued0.port 0).residue.length = 2 ∧
    (∀ q, q ≠ 0 → (queued0.pair q).state ≠ .active) ∧
    ((leavingWith true).pair 0).state = .leaving ∧ ((leavingWith true).pair 0).leaveForm = .graceful ∧
    ((leavingWith true).pair 0).leaveTaken = true ∧ ((leavingWith false).pair 0).leaveTaken = false := by decide +kernel

/-- R57: the queue of a leave that an abort upgrades keeps its law. -/
theorem test_witness_DisablePairFollowsItsTable_law :
    LineQueueLaw ((leavingWith true).port 0) ∧ LineQueueLaw ((leavingWith false).port 0) :=
  ⟨⟨⟨[], [], rfl, by decide, by decide⟩, by decide, by decide, by decide, by decide, rfl, by decide⟩,
   ⟨⟨[], [], rfl, by decide, by decide⟩, by decide, by decide, by decide, by decide, rfl, by decide⟩⟩

/-- R32, R57: both STAGED DATA are withdrawn, and the LEAVE stands behind the HANDED ones. -/
theorem test_abort_withdraws :
    let t := after (exec (.disablePair 3 [0, 2]) queued0)
    ((t.port 0).queue.map (·.frag.size), (t.pair 0).counter .withdrawn, (t.pair 0).leaveForm) =
      ([261, 261, 9], 2, .abort) := by decide +kernel

/-- R30, R48: the room a TAKEN reports goes to the waiting JOIN-ACK first; the waiting LEAVE finds none. -/
theorem test_room_report :
    let t := after (exec (.taken 0 20) (part { pairIn .leaving with waitAck := some (1, .notReady), waitLeave := some .host }
      { portUnder .train with queue := List.replicate 2 (dataEntry 20 true) ++ List.replicate 2 (dataEntry 30 false) } none))
    ((t.port 0).queue.length, ((t.port 0).queue.getLast?.map (·.frag)), (t.pair 0).waitAck, (t.pair 0).waitLeave) =
      (4, some (.joinAck 1 1 .notReady), none, some .host) := by decide +kernel

/-- R14: the shortest and longest DATA, and a JOIN-ACK that echoes the port. -/
theorem test_witness_ChecksPassJustTheEncodings :
    FragmentAllowed 0 (whole 0 1) ∧ FragmentAllowed 0 (whole 0 512) ∧ FragmentAllowed 3 (.joinAck 1 3 .accept) :=
  ⟨⟨by decide +kernel, by decide +kernel⟩, ⟨by decide +kernel, by decide +kernel⟩, rfl⟩

/-- R1, R184: a JOIN laid out octet by octet, its check word over header and payload behind it. -/
theorem test_join_layout :
    (Fragment.join 1000 412 2 17).headAndPayload = [0x20, 0x03, 0xE8, 0, 4, 0, 0x01, 0x9C, 2, 17] ∧
    checkFragment 5 (Fragment.join 1000 412 2 17).octets = .good (.join 1000 412 2 17) := by decide +kernel

theorem test_witness_DiscardedMessagesHaveNoEffect_short :
    (active0.port 0).present = true ∧ (0 : PairNo).val < active0.mgmt.fitted ∧
    (List.replicate 7 (0 : Octet)).length < 8 ∧ 8 ≤ (List.replicate 8 (0 : Octet)).length ∧
    (crc16 ((List.replicate 8 (0 : Octet)).take 6)).toNat ≠ field (List.replicate 8 0) 6 2 := by decide +kernel

/-- R14: an octet run with a right check word that no allowed fragment has: an empty DATA fragment. -/
theorem test_witness_DiscardedMessagesHaveNoEffect_malformed :
    let octets := (Fragment.data true true 0 []).octets
    8 ≤ octets.length ∧ (crc16 (octets.take (octets.length - 2))).toNat = field octets (octets.length - 2) 2 ∧
    checkFragment 0 octets = .malformed := by decide +kernel

/-- The live part with a window, a mark and a count of NES. -/
def receiving (nes : Seq) (window : List FragRecord) (mark : Option Seq) : State :=
  { active0 with rx := { active0.rx with nes := nes, window := window, live := active0.rx.live.set 0 mark } }

theorem test_witness_ArrivingDataIsClassified :
    let s := receiving 0 [record 5] (some 0)
    (0 : PairNo).val < s.mgmt.fitted ∧ (s.port 0).present = true ∧ s.disp.held = false ∧
    1 ≤ (List.replicate 1 (5 : Octet)).length ∧ (List.replicate 512 (5 : Octet)).length ≤ 512 ∧
    active0.mark 0 = some 0 ∧ (at0 .active).mark 0 = none ∧ s.mark 0 = some 0 ∧
    dist 5 s.rx.nes < 1024 ∧ (∃ r ∈ s.rx.window, slotOf r.seq = slotOf 5) ∧
    dist 1023 s.rx.nes < 1024 ∧ (∀ r ∈ s.rx.window, slotOf r.seq ≠ slotOf 1023) ∧
    1024 ≤ dist 1024 s.rx.nes ∧ dist 8191 s.rx.nes ≤ 8191 ∧ 8192 ≤ dist 8192 s.rx.nes ∧ 8192 ≤ dist 16383 s.rx.nes ∧
    ({ s.cells with usedIn := 2303 } : Cells).availIn < ceilDiv 129 128 := by decide +kernel

/-- R140: DATA 1024 ahead slides the window by one; the lone stored fragment at NES is delivered by the walk. -/
theorem test_window_slide :
    let t := after (exec (.fragmentReceived 0 (whole 1024 60).octets) (receiving 0 [] (some 0)))
    (t.counter .windowSlides, t.counter .lostSequences, t.rx.gaps.map fun g => (g.first, g.count, g.cause)) =
      (1, 1024, [(0, 1, .window), (1, 1023, .overtaken)]) := by decide +kernel

/-- Two live pairs: pair 0 at the mark given, pair 1 at its own. -/
def twoLive (mark0 mark1 : Seq) : State :=
  { active0 with rx := { active0.rx with live := (active0.rx.live.set 0 (some mark0)).set 1 (some mark1) } }

/-- Two live pairs under pressure, 23 cells left. -/
def pressed0 : State :=
  { twoLive 0 0 with cells := { (twoLive 0 0).cells with usedIn := 2281, pressure := true, level := .pressure },
                     rx := { (twoLive 0 0).rx with pressureFlag := true } }

theorem test_witness_DataAheadOfNesOpensAGap :
    let s := twoLive 0 0
    let u := twoLive 0 1
    s.mark 0 = some 0 ∧ s.rx.synced = true ∧ s.rx.window = [] ∧ s.rx.paused = false ∧ s.rx.flush = none ∧
    s.rx.gapTimer = none ∧ s.rx.pressureFlag = false ∧ s.cells.tells = [] ∧ s.cells.pressure = false ∧
    1 ≤ dist 1 s.rx.nes ∧ dist 1023 s.rx.nes ≤ 1023 ∧ 24 + ceilDiv 512 128 ≤ s.cells.availIn ∧
    s.mark 1 = some 0 ∧ ahead 0 s.rx.nes = false ∧ ahead 2 s.rx.nes = true ∧ u.mark 1 = some 1 ∧ ahead 1 u.rx.nes = true ∧
    (∀ q, q ≠ 0 → q ≠ 1 → u.mark q = none) ∧ u.rx.gaps = [] ∧ u.lan.txQueue.length < 8 ∧
    (∀ r ∈ (receiving 0 [record 5] (some 0)).rx.window, slotOf r.seq ≠ slotOf 0 ∧ slotOf r.seq ≠ slotOf 1023) ∧
    pressed0.rx.pressureFlag = true ∧ pressed0.cells.pressure = true ∧ ceilDiv 512 128 ≤ pressed0.cells.availIn ∧
    pressed0.cells.availIn < 24 ∧ pressed0.mark 1 = some 0 ∧ pressed0.rx.window = [] ∧ pressed0.rx.gaps = [] := by
  decide +kernel

/-- R153, R151: the gap is timed with T_reorder while pair 1's mark blocks, and overtaken once it does not. -/
theorem test_gap_timed_or_overtaken :
    (after (exec (.fragmentReceived 0 (whole 2 60).octets) (twoLive 0 0))).rx.gapTimer = some 70 ∧
    ((after (exec (.fragmentReceived 0 (whole 2 60).octets) (twoLive 0 1))).rx.gaps.map fun g =>
      (g.first, g.count, g.cause, g.live)) = [(0, 2, .overtaken, 3)] := by decide +kernel

/-- R149, R152: under pressure the gap is resolved at once, though pair 1's mark is not ahead of NES. -/
theorem test_pressure_resolves_a_gap :
    let t := after (exec (.fragmentReceived 0 (whole 2 60).octets) pressed0)
    (t.rx.nes, t.rx.gaps.map fun g => (g.first, g.count, g.cause)) = (3, [(0, 2, .pressure)]) := by decide +kernel

/-- A part with frames in the LAN transmit queue, the link up, and fragments stored. -/
def lanWith (frames : Nat) (window : List FragRecord) : State :=
  { twoLive 0 0 with
    lan := { Lan.reset with linkUp := true, linkPin := true,
                            txQueue := List.replicate frames { octets := frame 60, cells := 1 } },
    cells := { Cells.reset with usedIn := frames + (window.map (·.cells)).sum, level := .low },
    rx := { (twoLive 0 0).rx with window := window } }

theorem test_witness_WindowSlidesForward :
    let s := lanWith 8 [record 0]
    s.mark 0 = some 0 ∧ s.rx.synced = true ∧ s.rx.flush = none ∧ s.rx.pressureFlag = false ∧ s.cells.tells = [] ∧
    s.cells.pressure = false ∧ (∀ r ∈ s.rx.window, r.payload.length ≤ 512 ∧ r.cells = ceilDiv r.payload.length 128) ∧
    1024 ≤ dist 1024 s.rx.nes ∧ dist 8191 s.rx.nes ≤ 8191 ∧ 28 + ceilDiv 512 128 ≤ s.cells.availIn ∧
    (∀ r ∈ s.rx.window, r.seq ≠ 1024 - 1023) ∧ (∀ r ∈ s.rx.window, r.seq ≠ 8191 - 1023) ∧ s.mark 1 = some 0 ∧
    ahead 0 1 = false ∧ ahead 0 (8191 - 1023) = false ∧ s.rx.gaps = [] ∧ (lanWith 7 []).rx.window = [] ∧
    s.rx.window = [record 0] ∧ (record 0).seq = s.rx.nes ∧ 60 ≤ (record 0).payload.length ∧ s.asm = .idle ∧
    s.lan.linkUp = true ∧ 8 ≤ s.lan.txQueue.length ∧ (lanWith 7 [record 0]).lan.txQueue.length < 8 ∧
    (lanWith 7 [record 0]).rx.window = [record 0] := by decide +kernel

/-- Its two invariants hold there too. -/
theorem test_witness_WindowSlidesForward_laws : WindowLaw (lanWith 8 [record 0]) ∧ CellsAccounted (lanWith 8 [record 0]) :=
  ⟨⟨by decide +kernel, by decide +kernel, fun h => absurd h (by decide +kernel)⟩,
   ⟨by decide +kernel, by decide +kernel, fun _ _ h => absurd h (by simp [lanWith, twoLive, active0, part, State.reset,
     State.resetWith]), fun _ => rfl⟩⟩

/-- R140, R141: the walk completes a frame for a full queue and goes on; NES is 1 and the fragment is stored. -/
theorem test_slide_overrun :
    let t := after (exec (.fragmentReceived 0 (Fragment.data true true 1024 (List.replicate 60 5)).octets)
      (lanWith 8 [record 0]))
    (t.rx.nes, t.counter .slideOverrun, t.counter .lostSequences, t.rx.window.map (·.seq), t.cells.usedIn) =
      (1, 1, 0, [1024], 9) := by decide +kernel

/-- Pair 0 ACTIVE and live, and the LAN link UP. -/
def sending0 : State := { active0 with lan := { active0.lan with linkUp := true, linkPin := true } }

theorem test_witness_AssemblerFollowsItsTable :
    let s (x : Assembler) : State := { receiving 0 [] (some 0) with asm := x }
    (s .idle).mark 0 = some 0 ∧ (s .idle).rx.synced = true ∧ (s .idle).rx.window = [] ∧ (s .idle).rx.paused = false ∧
    (s .idle).lan.txQueue.length < 8 ∧ (s .idle).asm = .idle ∧ (s (.discarding true)).asm = .discarding true ∧
    (s (.collecting (frame 1500) 12)).asm = .collecting (frame 1500) 12 ∧ 12 = ceilDiv (frame 1500).length 128 ∧
    1518 < (frame 1500).length + 19 ∧ (frame 1500).length + 18 ≤ 1518 ∧ 2 * ceilDiv 512 128 ≤ (s .idle).cells.availIn ∧
    ({ Cells.reset with usedIn := 2302 } : Cells).availIn = 2 ∧ ceilDiv 200 128 = 2 ∧ 2 < 2 * ceilDiv 200 128 ∧
    2 < 2 + (ceilDiv 700 128 - ceilDiv 500 128) ∧ (s (.discarding false)).asm = .discarding false ∧
    ({ Cells.reset with usedIn := 2302 } : Cells).availIn + 1 < 2 * ceilDiv 200 128 ∧
    2 * ceilDiv 200 128 ≤ ({ Cells.reset with usedIn := 2302 } : Cells).availIn + 2 ∧ active0.lan.linkUp = false ∧
    sending0.lan.linkUp = true := by decide +kernel

/-- R161, R162: a fragment that takes a frame over 1518 octets drops it as oversize. -/
theorem test_assembly_oversize :
    let s : State := { receiving 0 [] (some 0) with asm := .collecting (frame 1500) 12,
                                                    cells := { Cells.reset with usedIn := 12, level := .low } }
    let t := after (exec (.fragmentReceived 0 (Fragment.data false true 0 (List.replicate 19 5)).octets) s)
    (t.asm, t.counter .assemblyOversize, t.cells.usedIn, t.rx.nes) = (.discarding true, 1, 0, 1) := by decide +kernel

theorem test_witness_WholeFrameAtNesIsDelivered :
    active0.mark 0 = some 0 ∧ active0.rx.synced = true ∧ active0.rx.window = [] ∧ active0.rx.paused = false ∧
    active0.asm = .idle ∧ active0.lan.txQueue.length < 8 ∧ 2 * ceilDiv 512 128 ≤ active0.cells.availIn ∧
    (List.replicate 59 (0 : Octet)).length < 60 ∧ 60 ≤ (List.replicate 60 (0 : Octet)).length ∧
    active0.lan.linkUp = false ∧ (after (exec (.lanLinkChange true) active0)).lan.linkUp = true ∧
    8 ≤ (lanWith 8 []).lan.txQueue.length ∧ (lanWith 8 []).lan.linkUp = true ∧ (lanWith 8 []).rx.window = [] ∧
    ceilDiv 512 128 ≤ (lanWith 8 []).cells.availIn := by decide +kernel

/-- R147, R148: a whole frame for a full queue is stored and pauses delivery; a frame sent lets it run again. -/
theorem test_pause_and_its_end :
    let s := after (exec (.fragmentReceived 0 (whole 0 60).octets) (lanWith 8 []))
    let t := after (exec .lanFrameSent s)
    (s.rx.paused, s.rx.nes, s.lan.txQueue.length) = (true, 0, 8) ∧
    (t.rx.paused, t.rx.nes, t.lan.txQueue.length) = (false, 1, 8) := by decide +kernel

/-- A queue with no room for a JOIN (R25). -/
def full0 (x : PairState) : State :=
  part (pairIn x) { portUnder .train with queue := List.replicate 4 (dataEntry 20 true) } none

theorem test_witness_JoinIsAnswered :
    (∀ x : PairState, ((at0 x).pair 0).state = x ∧ ((at0 x).port 0).present = true ∧ (at0 x).disp.held = false ∧
      (0 : PairNo).val < (at0 x).mgmt.fitted ∧ ((at0 x).pair 0).outboundJoined = false) ∧
    (at0 .joining).mgmt.bondId = 1 ∧ (2 : BitVec 16) ≠ (at0 .joining).mgmt.bondId ∧
    ((at0 .joining).port 0).queue.length < 4 ∧ ((at0 .joining).port 0).backlog + 12 ≤ 3072 ∧
    ¬((full0 .joining).port 0).queue.length < 4 ∧ (at0 .joining).rx.synced = true ∧ (at0 .joining).rx.peerEpoch = 0 := by
  refine ⟨fun x => ?_, ?_⟩
  · cases x <;> decide +kernel
  · decide +kernel

/-- A JOINING pair with an UNSYNCED receiver. -/
def unsynced0 : State := { at0 .joining with rx := { Receiver.reset with synced := false } }

theorem test_witness_JoinIsAnswered_unsynced :
    unsynced0.rx.synced = false ∧ (unsynced0.pair 0).state = .joining ∧ (unsynced0.pair 0).outboundJoined = false ∧
    WindowLaw unsynced0 :=
  ⟨rfl, by decide +kernel, by decide +kernel, ⟨by decide +kernel, by decide +kernel, fun _ => ⟨rfl, by decide +kernel⟩⟩⟩

/-- R127, R51: the first JOIN accepted sets NES, peer epoch and mark, and is answered ACCEPT. -/
theorem test_join_synchronises :
    let t := after (exec (.fragmentReceived 0 (Fragment.join 1000 1 3 17).octets) unsynced0)
    (t.rx.nes, t.rx.peerEpoch, t.rx.synced, t.mark 0, ((t.port 0).queue.map (·.frag))) =
      (1000, 17, true, some 1000, [.joinAck 1 3 .accept]) := by decide +kernel

/-- A JOINING pair whose outbound direction is joined, at an up rate. -/
def joined0 (rate : Nat) : State :=
  part { pairIn .joining with outboundJoined := true }
    { portUnder .train with report := { (portUnder .train).report with upRate := rate } } none

theorem test_witness_JoinOnAPairInTheExchange :
    (active0.pair 0).state = .active ∧ active0.rx.synced = true ∧ active0.rx.peerEpoch = 0 ∧
    (∀ q, q ≠ 0 → (active0.pair q).state ≠ .active) ∧ (active0.mark 0).isSome = true ∧
    (∀ q, q ≠ 0 → active0.mark q = none) ∧ active0.rx.window = [] ∧ ((twoLive 0 0).mark 1).isSome = true ∧
    ((leavingWith false).pair 0).state = .leaving ∧ ((leavingWith false).pair 0).reason = .host ∧
    ((part { pairIn .leaving with reason := .lowRate } (portUnder .train) none).pair 0).reason ≠ .host ∧
    ((joined0 64).pair 0).state = .joining ∧ ((joined0 64).pair 0).outboundJoined = true ∧
    64 ≤ ((joined0 64).port 0).report.upRate * ((joined0 64).pair 0).derate / 100 ∧
    ((joined0 63).port 0).report.upRate * ((joined0 63).pair 0).derate / 100 < 64 ∧
    ((joined0 64).port 0).queue.length < 4 ∧ ((joined0 64).port 0).backlog + 12 ≤ 3072 := by decide +kernel

/-- R60, R47, R51: the re-join answers ACCEPT behind the new JOIN, and the mark is the JOIN's. -/
theorem test_rejoin :
    let t := after (exec (.fragmentReceived 0 (Fragment.join 9 1 3 0).octets) (twoLive 20 0))
    ((t.pair 0).state, (t.pair 0).reason, t.mark 0, (t.port 0).queue.map (·.frag), (t.pair 0).counter .retrains) =
      (.joining, .peerRestart, some 9, [.join 0 1 0 0, .joinAck 1 3 .accept], 0) := by decide +kernel

/-- R31: a re-join over HANDED and STAGED entries in SHOWTIME, order TRAIN. -/
theorem test_witness_JoinOnAPairInTheExchange_residue :
    (∀ x ∈ [PairState.active, .leaving], ((lined0 x).pair 0).state = x ∧ ((lined0 x).port 0).order = .train ∧
      ((lined0 x).port 0).report.line = .showtime ∧ (lined0 x).rx.synced = true ∧ (lined0 x).rx.peerEpoch = 0) ∧
    WindowLaw (lined0 .active) :=
  ⟨by decide +kernel, ⟨by decide +kernel, by decide +kernel, fun h => absurd h (by decide +kernel)⟩⟩

/-- R31, R27: the 30 octets that no TAKEN has covered join the residue, no credit is left for JOIN and JOIN-ACK, and three
DATA are lost. -/
theorem test_rejoin_keeps_residue :
    let t := after (exec (.fragmentReceived 0 (Fragment.join 9 1 3 0).octets) (lined0 .active))
    ((t.port 0).residue, (t.port 0).sent, (t.port 0).queue.map (·.handed), (t.pair 0).counter .lostOnDrop) =
      ([5, 30], [], [false, false], 3) := by decide +kernel

/-- R51, R53: a JOIN accepted with the outbound direction joined makes the pair ACTIVE. -/
theorem test_join_makes_active :
    ((after (exec (.fragmentReceived 0 (Fragment.join 9 1 3 0).octets) (joined0 64))).pair 0).state = .active ∧
    ((after (exec (.fragmentReceived 0 (Fragment.join 9 1 3 0).octets) (joined0 63))).pair 0).state = .leaving := by
  decide +kernel

/-- A JOINING pair that is live. -/
def joining0 : State := part (pairIn .joining) (portUnder .train) (some 0)

theorem test_witness_JoinAckIsTaken :
    (joining0.pair 0).state = .joining ∧ (joining0.port 0).present = true ∧ (0 : PairNo).val < joining0.mgmt.fitted ∧
    joining0.disp.held = false ∧ (joining0.pair 0).outboundJoined = false ∧ (joining0.mark 0).isSome = true ∧
    (at0 .joining).mark 0 = none ∧ (at0 .settling).pair 0 ≠ (at0 .joining).pair 0 ∧
    ((part { pairIn .joining with outboundJoined := true } (portUnder .train) none).pair 0).outboundJoined = true ∧
    64 ≤ (joining0.port 0).report.upRate * (joining0.pair 0).derate / 100 ∧ (∀ q, (joining0.pair q).state ≠ .active) ∧
    joining0.mgmt.mask.getLsbD 0 = false ∧
    ((part (pairIn .joining) { portUnder .train with report := Report.none } (some 0)).port 0).report.upRate *
      (pairIn .joining).derate / 100 < 64 := by decide +kernel

/-- A live JOINING pair whose reference lags by 4096 or 4095, over an empty or a full queue. -/
def joiningLag (lag : Seq) (queue : List Entry) : State :=
  { part (pairIn .joining) { portUnder .train with queue := queue } (some 0) with disp := { State.reset.disp with next := lag } }

theorem test_witness_JoinAckIsTaken_entry :
    (∀ lag ∈ [(4095 : Seq), 4096], ∀ queue ∈ [[], List.replicate 4 (dataEntry 20 true)],
      ((joiningLag lag queue).pair 0).state = .joining ∧ ((joiningLag lag queue).mark 0).isSome = true ∧
      (joiningLag lag queue).disp.held = false ∧ (joiningLag lag queue).mgmt.mask.getLsbD 1 = false) ∧
    dist (4095 : Seq) 0 = 4095 ∧ dist (4096 : Seq) 0 = 4096 := by decide +kernel

/-- R53, R9: on entry to ACTIVE a renewal that is due is placed, or becomes pending for want of room. -/
theorem test_entry_to_active_renews :
    let t (q : List Entry) := after (exec (.fragmentReceived 0 (Fragment.joinAck 1 0 .accept).octets) (joiningLag 4096 q))
    (((t []).port 0).queue.map (·.frag), ((t []).pair 0).renewal, ((t []).pair 0).progressTimer) =
      ([.progress 4096], false, none) ∧
    (((t (List.replicate 4 (dataEntry 20 true))).pair 0).renewal, (t []).occurrences (.pairState 0)) = (true, 1) := by
  decide +kernel

/-- R53, R54: the pair becomes ACTIVE and, its queue empty, starts its progress timer. -/
theorem test_join_ack_accept :
    let t := after (exec (.fragmentReceived 0 (Fragment.joinAck 1 0 .accept).octets) joining0)
    ((t.pair 0).state, (t.pair 0).progressTimer, t.occurrences .bondState) = (.active, some 10, 1) := by decide +kernel

theorem test_witness_PeerRestartStartsAnew :
    let s := receiving 0 [record 5] (some 0)
    (s.pair 0).state = .active ∧ s.rx.synced = true ∧ (1 : BitVec 8) ≠ s.rx.peerEpoch ∧ (s.port 0).present = true ∧
    (0 : PairNo).val < s.mgmt.fitted ∧ record 5 ∈ s.rx.window ∧
    (∀ q ∈ s.rx.window, dist q.seq s.rx.nes ≤ dist (record 5).seq s.rx.nes) ∧ s.rx.gaps = [] ∧
    active0.rx.window = [] ∧
    ((part { pairIn .leaving with hostDisable := true } (portUnder .train) none).pair 0).hostDisable = true ∧
    ((at0 .leaving).pair 0).hostDisable = false := by decide +kernel

/-- Pair 0 in a host leave, live and SYNCED, with a flush in flight (R65). -/
def parking : State :=
  let s := part { pairIn .leaving with enabled := false, hostDisable := true } (portUnder .train) (some 0)
  { s with rx := { s.rx with window := [record 5], flush := some 5 } }

theorem test_witness_PeerRestartStartsAnew_parked :
    (parking.pair 0).state = .leaving ∧ (parking.pair 0).hostDisable = true ∧ parking.rx.synced = true ∧
    (1 : BitVec 8) ≠ parking.rx.peerEpoch ∧ (parking.port 0).present = true ∧ (0 : PairNo).val < parking.mgmt.fitted ∧
    parking.rx.flush.isSome = true ∧ parking.mgmt.mask.getLsbD 2 = false := by decide +kernel

/-- R65, R143: the JOIN's own pair is parked, the JOIN is not answered, and both disable and flush are done. -/
theorem test_peer_restart_parks :
    let t := after (exec (.fragmentReceived 0 (Fragment.join 900 1 0 1).octets) parking)
    ((t.pair 0).state, t.rx.synced, t.rx.nes, (t.port 0).queue, t.occurrences (.commandDone 0), t.occurrences .flushDone) =
      (.parked, false, 0, [], 1, 1) := by decide +kernel

/-- R143: one PEER-RESTART gap record covers NES to the highest stored sequence. -/
theorem test_peer_restart :
    let t := after (exec (.fragmentReceived 0 (Fragment.join 900 1 0 1).octets) (receiving 0 [record 5] (some 0)))
    ((t.pair 0).state, t.rx.nes, t.counter .peerRestarts) = (.joining, 900, 1) ∧
    t.rx.gaps = [{ first := 0, count := 6, cause := .peerRestart, live := 1, time := 0 }] := by decide +kernel

theorem test_witness_LeaveAndProgressAreTaken :
    (∀ x : PairState, ((at0 x).pair 0).state = x ∧ ((at0 x).port 0).present = true ∧
      (0 : PairNo).val < (at0 x).mgmt.fitted ∧ (at0 x).disp.held = false ∧ ((at0 x).pair 0).leaveTaken = false) ∧
    (at0 .active).mark 0 = none ∧ active0.mark 0 = some 0 ∧ ahead 0 0 = false ∧ ahead 8192 0 = false ∧
    ahead 1 0 = true ∧ ahead 8191 0 = true := by
  refine ⟨fun x => ?_, ?_⟩
  · cases x <;> decide +kernel
  · decide +kernel

theorem test_witness_SilenceMakesThePairVacant :
    (active0.port 0).silence = some 500 ∧
    ((part { pairIn .leaving with hostDisable := true } (portUnder .train) none).pair 0).hostDisable = true ∧
    active0.mgmt.mask.getLsbD 2 = false := by decide +kernel

/-- R21, R43: silence makes the pair VACANT with reason SILENT and drops it. -/
theorem test_silence :
    let t := after (exec (.silenceTimerExpiry 0) active0)
    ((t.pair 0).state, (t.pair 0).reason, (t.port 0).present, t.mark 0, t.rx.synced, t.now) =
      (.vacant, .silent, false, none, false, 500) := by decide +kernel

/-- R31, R187: the DATA of the queue is counted LOST-ON-DROP, and one PAIR-STATE raised. -/
theorem test_silence_loses_data :
    let t := after (exec (.silenceTimerExpiry 0) (lined0 .active))
    ((t.pair 0).counter .lostOnDrop, t.occurrences (.pairState 0), (t.port 0).residue) = (3, 1, []) := by decide +kernel

/-- Pair 0 ACTIVE with a guard state and a debounce timer. -/
def guarded (g : GuardState) (timer : Option Nat) (x : PairState) : State :=
  part (pairIn x) { portUnder x.order with guard := g, debounce := timer } none

theorem test_witness_GuardIsDebouncedAndMovesThePair :
    (0 : PairNo).val < active0.mgmt.fitted ∧
    (∀ x ∈ [PairState.vacant, .active, .faulted],
      ((guarded .clear none x).port 0).guard = .clear ∧ ((guarded .clear none x).port 0).debounce = none ∧
      ((guarded .clear (some 20) x).port 0).debounce = some 20 ∧ ((guarded .active none x).port 0).guard = .active ∧
      ((guarded .active (some 5000) x).port 0).debounce = some 5000 ∧ ((guarded .clear none x).pair 0).state = x) ∧
    ((guarded .active none .faulted).pair 0).enabled = true ∧ active0.mgmt.released = true ∧
    ((part { pairIn .faulted with enabled := false } (portUnder .quiet) none).pair 0).enabled = false := by decide +kernel

/-- R36, R64: the pin starts the 20 ms timer; its expiry faults the pair and counts FAULTS. -/
theorem test_guard :
    let s := after (exec (.lineGuardChange 0 true) active0)
    let t := after (exec (.guardAssertTimerExpiry 0) s)
    ((s.port 0).debounce, (t.pair 0).state, (t.pair 0).counter .faults, (t.port 0).order) =
      (some 20, .faulted, 1, .quiet) := by decide +kernel

/-- A SETTLING pair in its holdoff, at a rate. -/
def settling0 (rate : Nat) (queue : List Entry) : State :=
  part { pairIn .settling with stateTimer := some (.holdoff, 3000) }
    { portUnder .train with report := { (portUnder .train).report with upRate := rate }, queue := queue } none

theorem test_witness_HoldoffExpiryTestsTheRate :
    ((settling0 64 []).pair 0).state = .settling ∧ ((settling0 64 []).pair 0).stateTimer = some (.holdoff, 3000) ∧
    64 ≤ ((settling0 64 []).port 0).report.upRate * ((settling0 64 []).pair 0).derate / 100 ∧
    ((settling0 63 []).port 0).report.upRate * ((settling0 63 []).pair 0).derate / 100 < 64 ∧
    ((settling0 64 []).port 0).queue.length < 4 ∧ ((settling0 64 []).port 0).backlog + 12 ≤ 3072 ∧
    ¬((settling0 64 (List.replicate 4 (dataEntry 12 false))).port 0).queue.length < 4 := by decide +kernel

/-- R45, R47: at 64 kbit/s the pair enters JOINING, places a JOIN and starts its two timers. -/
theorem test_holdoff :
    let t := after (exec (.holdoffTimerExpiry 0) (settling0 64 []))
    ((t.pair 0).state, (t.pair 0).stateTimer, (t.pair 0).joinRepeat, ((t.port 0).queue.map (·.frag))) =
      (.joining, some (.join, 13000), some 3500, [.join 0 1 0 0]) := by decide +kernel

/-- A JOINING pair with its timers. -/
def repeating (waiting : Bool) (queue : List Entry) : State :=
  part { pairIn .joining with joinRepeat := some 500, stateTimer := some (.join, 10000), waitJoin := waiting }
    { portUnder .train with queue := queue } none

theorem test_witness_JoinAndPenaltyTimersExpire :
    ((repeating false []).pair 0).joinRepeat = some 500 ∧ ((repeating true []).pair 0).waitJoin = true ∧
    ((repeating false []).pair 0).waitJoin = false ∧ ((repeating false []).port 0).queue = [] ∧
    ((repeating false [{ frag := .join 0 1 0 0, handed := false }]).port 0).queue =
      [{ frag := .join 0 1 0 0, handed := false }] ∧
    ((repeating false (List.replicate 4 (dataEntry 12 false))).port 0).queue.length = 4 ∧
    ((repeating false []).pair 0).stateTimer = some (.join, 10000) ∧
    ((part { pairIn .quarantine with stateTimer := some (.penalty, 60000) } (portUnder .quiet) none).pair 0).stateTimer =
      some (.penalty, 60000) ∧ active0.mgmt.released = true ∧ (pairIn .quarantine).enabled = true := by decide +kernel

/-- R52, R63: the join timer's expiry quarantines the pair; the penalty's lets it train with its reason kept. -/
theorem test_join_timeout :
    let s := after (exec (.joinTimerExpiry 0) (repeating false []))
    let t := after (exec (.penaltyTimerExpiry 0) s)
    ((s.pair 0).state, (s.pair 0).stateTimer, (t.pair 0).state, (t.pair 0).reason) =
      (.quarantine, some (.penalty, 70000), .training, .joinTimeout) := by decide +kernel

/-- A LEAVING pair with its timer, and a LEAVE that the transceiver holds. -/
def leaving0 (why : Reason) (taken peer : Bool) : State :=
  part { pairIn .leaving with reason := why, leaveForm := .graceful, leaveTaken := taken, peerLeft := peer,
                              hostDisable := true, enabled := false, stateTimer := some (.leave, 2000) }
    { portUnder .train with queue := [{ frag := .leave .host, handed := true }] } none

theorem test_witness_LeaveCompletes :
    ((leaving0 .host false true).pair 0).state = .leaving ∧
    ((leaving0 .host false true).pair 0).stateTimer = some (.leave, 2000) ∧
    ((leaving0 .host true false).pair 0).leaveTaken = true ∧ ((leaving0 .host false true).pair 0).peerLeft = true ∧
    ((leaving0 .host false true).port 0).residue = [] ∧
    ((leaving0 .host false true).port 0).queue = [{ frag := .leave .host, handed := true }] ∧
    (9 : BitVec 16).toNat + ((leaving0 .host false true).port 0).takenFromHead = 9 ∧
    ((leaving0 .lowRate false true).pair 0).reason ≠ .host ∧ (0 : PairNo).val < (leaving0 .host false true).mgmt.fitted ∧
    ((leaving0 .host false true).port 0).present = true := by decide +kernel

/-- R59: the TAKEN that retires our LEAVE parks the pair and raises COMMAND-DONE. -/
theorem test_leave_completes :
    let t := after (exec (.taken 0 9) (leaving0 .host false true))
    ((t.pair 0).state, (t.pair 0).hostDisable, t.occurrences (.commandDone 0), (t.port 0).queue) =
      (.parked, false, 1, []) := by decide +kernel

/-- Pair 0 in a state, its progress timer running. -/
def idling (x : PairState) (port : Port) : State := part { pairIn x with progressTimer := some 10 } port (some 0)

theorem test_witness_ProgressTimerPlacesAProgress :
    (∀ x ∈ [PairState.active, .training], ∀ port ∈ [portUnder .train, lined .active],
      ((idling x port).pair 0).progressTimer = some 10 ∧ (idling x port).disp.held = false ∧
      ((idling x port).port 0).queue.length < 4 ∧ ((idling x port).port 0).backlog + 8 ≤ 3072 ∧
      ((idling x port).pair 0).state = x) ∧
    LineQueueLaw (lined .active) ∧ LineQueueLaw (portUnder .train) :=
  ⟨by decide +kernel, lined_law .active,
   ⟨⟨[], [], rfl, by decide, by decide⟩, by decide, by decide, by decide, by decide, rfl, by decide⟩⟩

/-- R54, R27: the PROGRESS is handed over at once, but not without a credit, nor under a closed gate. -/
theorem test_progress_is_handed_over :
    let sent (x : PairState) (port : Port) := ((after (exec (.progressTimerExpiry 0) (idling x port))).port 0).sent
    (sent .active (portUnder .train), sent .active (lined .active), sent .training (portUnder .train)) =
      ([.fragment (.progress 0)], [], []) := by decide +kernel

/-- A gap of five timed to 70 ms. -/
def gapped : State := { receiving 0 [record 5] (some 0) with rx := { (receiving 0 [record 5] (some 0)).rx with gapTimer := some 70 } }

theorem test_witness_GapTimerDeclaresTheGap :
    gapped.rx.gapTimer = some 70 ∧ gapped.rx.synced = true ∧
    (∀ q ∈ gapped.rx.window, slotOf q.seq ≠ slotOf gapped.rx.nes) ∧ record 5 ∈ gapped.rx.window ∧
    (∀ q ∈ gapped.rx.window, dist (record 5).seq gapped.rx.nes ≤ dist q.seq gapped.rx.nes) ∧ gapped.rx.gaps = [] ∧
    gapped.rx.window = [record 5] ∧ gapped.rx.paused = false ∧ gapped.lan.txQueue.length < 8 ∧ gapped.liveSet ≠ 0 ∧
    (record 5).start = true ∧ ({ record 5 with start := false } : FragRecord).start = false := by decide +kernel

/-- R154, R150, R147: numbers 0 to 4 are declared lost, 5 is handed on. -/
theorem test_gap_timeout :
    let t := after (exec .gapTimerExpiry gapped)
    (t.rx.nes, t.counter .gapTimeouts, t.counter .lostSequences) = (6, 1, 5) ∧
    t.rx.gaps = [{ first := 0, count := 5, cause := .timeout, live := 1, time := 70 }] := by decide +kernel

/-- The timed gap behind gap records. -/
def recorded (gaps : List GapRecord) : State := { gapped with rx := { gapped.rx with gaps := gaps } }

/-- A gap record whose run ends at 0, before the gap of five. -/
def before0 (cause : LossCause) : GapRecord := { first := 16380, count := 4, cause := cause, live := 3, time := 1 }

/-- R159: the newest record continues with the gap, or does not by its cause or its end, behind 15 or 16 records. -/
theorem test_witness_GapTimerDeclaresTheGap_records :
    (0 : Seq) = (before0 .timeout).first + BitVec.ofNat 14 (before0 .timeout).count ∧ (before0 .timeout).cause = .timeout ∧
    (before0 .flush).cause ≠ .timeout ∧ (recorded (List.replicate 15 (before0 .flush))).rx.gaps.length < 16 ∧
    16 ≤ (recorded (List.replicate 16 (before0 .flush))).rx.gaps.length ∧
    (recorded (List.replicate 16 (before0 .flush))).rx.gaps = List.replicate 15 (before0 .flush) ++ [before0 .flush] ∧
    (recorded []).rx.nes = 0 ∧ (recorded []).rx.window = [record 5] ∧ (recorded []).mgmt.mask.getLsbD 5 = false := by
  decide +kernel

/-- R159: the record is merged, appended, or dropped and counted; only the first of all raises GAP-RECORDED. -/
theorem test_gap_records :
    let t (gaps : List GapRecord) := after (exec .gapTimerExpiry (recorded gaps))
    let seen (gaps : List GapRecord) :=
      ((t gaps).rx.gaps.map (·.count), (t gaps).counter .gapRecordsDropped, (t gaps).occurrences .gapRecorded)
    (seen [], seen [before0 .timeout], seen [before0 .flush], seen (List.replicate 16 (before0 .flush))) =
      (([5], 0, 1), ([9], 0, 0), ([4, 5], 0, 0), (List.replicate 16 4, 1, 0)) := by decide +kernel

/-- A frame of 60 octets, and what a rule does with it. -/
theorem test_witness_LanFrameIsTestedAndAdmitted :
    1522 < (List.replicate 1523 (0 : Octet)).length ∧ (List.replicate 63 (0 : Octet)).length < 64 ∧
    64 ≤ (List.replicate 64 (0 : Octet)).length ∧ (List.replicate 1522 (0 : Octet)).length ≤ 1522 ∧
    60 ≤ (frame 60).length ∧ (List.replicate 1518 (0 : Octet)).length ≤ 1518 ∧
    ((State.reset.setRule 0 (anyRule .discard (some 60))).rule 0).matchesHeader (headerOf (frame 60)) = true ∧
    (anyRule .discard (some 60)).minLength = some 60 ∧
    (∀ i : Fin 64, (active0.rule i).matchesHeader (headerOf (frame 60)) = false) ∧
    (∀ p, (State.reset.pair p).state ≠ .active) ∧ (active0.pair 0).state = .active ∧
    (active0.cls active0.cfg.defaultClass).frames.length < (active0.cls active0.cfg.defaultClass).limit ∧
    ceilDiv 60 128 ≤ active0.cells.availOut ∧
    ({ active0 with disp := { active0.disp with standing := false } } : State).disp.standing = false ∧
    (anyRule (.toClass 3) none).action = .toClass 3 ∧ (anyRule (.toClass 3) none).minLength = none := by decide +kernel

/-- R90, R96: a rule sends the frame to class 3, whose limit of 1 it fills. -/
theorem test_rule_to_class :
    let s : State := { active0.setRule 5 (anyRule (.toClass 3) none) with
      disp := { active0.disp with standing := false }, classes := active0.classes.set 3 { ClassQueue.reset with limit := 1 } }
    let t := after (exec (.lanFrameReceived (run 60) false) s)
    ((t.cls 3).frames.map (·.octets), t.occurrences (.queueFull 3), (t.rule 5).hits) = ([frame 60], 1, 1) := by
  decide +kernel

/-- R84: a run whose FCS disagrees is counted BAD-FCS. -/
theorem test_bad_fcs :
    (after (exec (.lanFrameReceived (frame 60 ++ [0, 0, 0, 0]) false) active0)).counter .badFcs = 1 := by decide +kernel

/-- R90, R91: a discarding rule counts its hit and the frame. -/
theorem test_rule_discard :
    let t := after (exec (.lanFrameReceived (run 60) false) (active0.setRule 5 (anyRule .discard none)))
    (t.counter .ruleDiscard, (t.rule 5).hits) = (1, 1) := by decide +kernel

/-- Pairs 0 and 1 ACTIVE, pair 1 slower, its reference 4095 behind the next number. -/
def lagging : State :=
  { active0 with
    disp := { active0.disp with next := 4095 }
    pairs := (active0.pairs.set 0 { pairIn .active with outRef := some 4095 }).set 1 (pairIn .active),
    ports := active0.ports.set 1
      { portUnder .train with report := { (portUnder .train).report with upRate := 100 } } }

theorem test_witness_FrameGoesToTheChosenPair :
    60 ≤ (frame 60).length ∧ (frame 60).length ≤ active0.cfg.pMax ∧
    (∀ i : Fin 64, (active0.rule i).matchesHeader (headerOf (frame 60)) = false) ∧
    (∀ k, (active0.cls k).frames = []) ∧ 1 ≤ (active0.cls active0.cfg.defaultClass).limit ∧
    ceilDiv (frame 60).length 128 ≤ active0.cells.availOut ∧ active0.disp.standing = true ∧ active0.disp.split = none ∧
    (active0.pair 0).state = .active ∧ 64 ≤ (active0.port 0).report.upRate * (active0.pair 0).derate / 100 ∧
    (active0.port 0).queue.length < 4 ∧ (active0.port 0).backlog + 68 ≤ 3072 ∧ (active0.pair 0).outRef = some 0 ∧
    dist active0.disp.next 0 ≤ 8190 ∧ (∀ q, q ≠ 0 → (active0.pair q).state ≠ .active) ∧
    ((full0 .active).pair 0).state = .active ∧ ¬((full0 .active).port 0).queue.length < 4 ∧
    dist (4096 : Seq) 0 = 4096 ∧ dist (4095 : Seq) 0 = 4095 ∧ lagging.disp.next + 1 = 4096 ∧
    (∀ q, q ≠ 1 → ¬(lagging.pair q).state = .active ∨ q = 0) ∧ (lagging.pair 1).state = .active ∧
    (lagging.pair 1).outRef = some 0 ∧ (lagging.port 1).queue.length < 4 := by decide +kernel

/-- R49, R53: a stray ACCEPT makes a pair ACTIVE whose first JOIN waits; it has no reference, so no renewal is due [37]. -/
theorem test_active_without_reference :
    let s := part { pairIn .joining with outRef := none, waitJoin := true }
      { portUnder .train with queue := List.replicate 4 (dataEntry 20 true) } (some 0)
    let t := after (exec (.fragmentReceived 0 (Fragment.joinAck 1 0 .accept).octets) s)
    ((t.pair 0).state, (t.pair 0).outRef, (t.pair 0).waitJoin, t.renewalDue 0) = (.active, none, false, false) := by
  decide +kernel

/-- R9, R30: a pending renewal is placed as a TAKEN gives it room, with the next number as its mark. -/
theorem test_renewal :
    let s := (lagging.modPair 1 fun r => { r with renewal := true }).modPort 1 fun x =>
      { x with queue := dataEntry 20 true :: List.replicate 3 (dataEntry 500 false) }
    let t := after (exec (.taken 1 20) s)
    ((t.port 1).queue.map (·.frag.size), (t.port 1).queue.getLast?.map (·.frag), (t.pair 1).outRef, (t.pair 1).renewal) =
      ([500, 500, 500, 8], some (.progress 4095), some 4095, false) := by decide +kernel

/-- R9: a renewal pending behind a full queue stays pending when the numbering wraps past the reference. -/
theorem test_renewal_outlives_a_wrap :
    let s := lagging.modPair 1 fun r => { r with renewal := true, outRef := some 4096 }
    let s := s.modPort 1 fun x => { x with queue := List.replicate 4 (dataEntry 500 true) }
    let t := after (exec (.lanFrameReceived (run 60) false) s)
    (t.disp.next, (t.pair 1).renewal) = (4096, true) := by decide +kernel

theorem test_witness_LongFrameIsPlacedInOrder :
    60 ≤ (frame 1518).length ∧ (frame 1518).length ≤ 1518 ∧ 64 ≤ active0.cfg.pMax ∧ active0.cfg.pMax ≤ 512 ∧
    (∀ i : Fin 64, (active0.rule i).matchesHeader (headerOf (frame 1518)) = false) ∧
    ceilDiv (frame 1518).length 128 ≤ active0.cells.availOut ∧ (active0.pair 0).state = .active ∧
    (∀ q, q ≠ 0 → (active0.pair q).state ≠ .active) ∧ (active0.pair 0).outRef = some 0 ∧ dist active0.disp.next 0 ≤ 8190 ∧
    (active0.port 0).backlog + 1518 + 8 * ceilDiv 1518 256 ≤ 3072 := by decide +kernel

/-- R106, R107, R117: of the two fragments of a 65-octet frame at P_max 64, 33 and 32 octets, one finds an entry. -/
theorem test_long_frame :
    let s := active0.modPort 0 fun x => { x with queue := List.replicate 3 (dataEntry 20 true) }
    let t := after (exec (.lanFrameReceived (run 65) false) { s with cfg := { s.cfg with pMax := 64 } })
    ((t.port 0).queue.map (·.frag.size), t.disp.next, t.disp.held, t.cells.usedOut, t.counter .dispatchHolds) =
      ([20, 20, 20, 41], 1, true, 1, 1) := by decide +kernel

/-- R114: a run may stop before a second fragment for a REPORT that waits, and for no LAN event. -/
theorem test_run_may_stop :
    let s (c : Instr) : State := { held0 true with pending := [c] }
    ((s (.report 0 .showtime 900 900 1 1)).mayStop, (s .lanFrameSent).mayStop, (held0 true).mayStop,
      (s (.taken 0 9)).mayStop) = (true, false, false, false) := by decide +kernel

/-- A frame of a class. -/
def waiting (order admitted : Nat) : OutFrame := { octets := frame 60, cells := 1, admitted := admitted, order := order }

/-- Classes 0 and 2 with a frame each, class 0 under an age limit of 5 at the time 10, and the last fragment of a frame
of 600 octets held behind the full queue of pair 0. -/
def ageing : State :=
  let plan := planOf 256 { octets := List.replicate 600 6, cells := 5, admitted := 0, order := 0 }
  { queued0 with
    now := 10, cells := { Cells.reset with usedOut := 7 },
    classes := (queued0.classes.set 0 { frames := [waiting 1 5], limit := 64, ageLimit := 5 }).set 2
      { frames := [waiting 2 5], limit := 64, ageLimit := 0 },
    disp := { next := 0, split := some plan.advance.advance, held := true, standing := false } }

theorem test_witness_FramesAreSelectedByAgeAndPriority :
    let young : State := { ageing with now := 9 }
    (∀ c, (active0.cls c).frames = []) ∧ (ageing.cls 0).frames = [waiting 1 5] ∧ (ageing.cls 2).frames = [waiting 2 5] ∧
    (ageing.cls 0).ageLimit ≤ ageing.now - 5 ∧ ¬(young.cls 0).ageLimit ≤ young.now - 5 ∧ (ageing.cls 2).ageLimit = 0 ∧
    (∀ d : Fin 4, 2 < d → (ageing.cls d).frames = []) ∧
    (ageing.port 0).queue = dataEntry 261 true :: (ageing.port 0).queue.drop 1 ∧
    ((ageing.port 0).queue.drop 1).length = 3 ∧ (261 : BitVec 16).toNat = (dataEntry 261 true).frag.size - 0 ∧
    (ageing.pair 0).state = .active ∧ (∀ q, q ≠ 0 → (ageing.pair q).state ≠ .active) ∧
    (ageing.pair 0).waitAck = none ∧ (ageing.pair 0).waitJoin = false ∧ (ageing.pair 0).waitLeave = none ∧
    (ageing.pair 0).renewal = false ∧ (ageing.pair 0).outRef = some 0 ∧ ageing.disp.held = true ∧ ageing.disp.midRun = false ∧
    (ageing.disp.split.map fun plan => (plan.current, plan.k, plan.size)) = some (3, 3, 208) ∧
    (ageing.port 0).backlog - 261 + 208 ≤ 3072 ∧ (selectFrame ageing).isSome = true := by decide +kernel

/-- R99, R105, R116: the room goes to the held last fragment; the aged frame of class 0 is split next. -/
theorem test_aged_frame_is_next :
    let t := after (exec (.taken 0 261) ageing)
    ((t.disp.split.map (·.octets)), t.disp.held, t.disp.next, (t.port 0).queue.length, t.counter .agePromotions,
      t.counter .framesDispatched, t.cells.usedOut) = (some (frame 60), true, 1, 4, 1, 1, 2) := by decide +kernel

/-- R113, R115, R116: the frame goes out whole to the one ACTIVE pair. -/
theorem test_dispatch :
    let t := after (exec (.lanFrameReceived (run 60) false) active0)
    ((t.port 0).queue.map (·.frag), t.disp.next, t.counter .framesDispatched, t.cells.usedOut) =
      ([.data true true 0 (frame 60)], 1, 1, 0) := by decide +kernel

/-- A frame in the LAN transmit queue with the link up. -/
def sending : State :=
  { sending0 with lan := { sending0.lan with txQueue := [{ octets := frame 60, cells := 1 }] },
                  cells := { active0.cells with usedIn := 1 } }

/-- Delivery paused at NES before a whole frame. -/
def waiting0 : State := { lanWith 8 [record 0] with rx := { (lanWith 8 [record 0]).rx with paused := true } }

theorem test_witness_LanFramesLeaveTheQueue :
    sending.lan.linkUp = true ∧ sending.lan.txQueue = [{ octets := frame 60, cells := 1 }] ∧ sending.rx.window = [] ∧
    sending.asm = .idle ∧ active0.lan.linkUp = false ∧ active0.lan.txQueue = [] ∧ sending.mgmt.mask.getLsbD 6 = false ∧
    sending.counter .lanDown ≤ 4294967295 ∧ waiting0.rx.paused = true ∧ waiting0.rx.synced = true ∧
    waiting0.rx.window = [record 0] ∧ (record 0).seq = waiting0.rx.nes ∧ 60 ≤ (record 0).payload.length ∧
    ceilDiv (record 0).payload.length 128 ≤ waiting0.cells.availIn ∧ waiting0.asm = .idle ∧
    waiting0.lan.linkUp = true ∧ (waiting0.lan.txQueue.drop 1).length < 8 := by decide +kernel

/-- Delivery at rest: before any record, paused, and with a gap open behind which a record waits. -/
theorem test_witness_DeliveryAtRest :
    DeliveryAtRest active0 ∧ DeliveryAtRest (receiving 0 [record 5] (some 0)) ∧
    (receiving 0 [record 5] (some 0)).rx.paused = false ∧
    DeliveryAtRest waiting0 :=
  ⟨⟨by decide +kernel, by decide +kernel, by decide +kernel, fun _ _ h => absurd rfl h⟩,
   ⟨by decide +kernel, by decide +kernel, by decide +kernel,
    fun _ _ _ => ⟨by decide +kernel, ⟨0, 0, by decide +kernel⟩, by decide +kernel, by decide +kernel⟩⟩, by decide +kernel,
   ⟨by decide +kernel, by decide +kernel, by decide +kernel, fun _ h => absurd h (by decide +kernel)⟩⟩

/-- R163, R164: a frame sent, and a frame lost to the link. -/
theorem test_lan_queue :
    let t := after (exec .lanFrameSent sending)
    let u := after (exec (.lanLinkChange false) sending)
    (t.lan.txQueue, t.counter .lanFramesSent, t.cells.usedIn, u.lan.txQueue, u.counter .lanDown, u.cells.usedIn) =
      ([], 1, 0, [], 1, 0) := by decide +kernel

theorem test_witness_SplitIsBalanced :
    60 ≤ (List.replicate 60 (0 : Octet)).length ∧ (List.replicate 1518 (0 : Octet)).length ≤ 1518 ∧ 64 ≤ 64 ∧ 512 ≤ 512 := by
  decide +kernel

/-- The invariants hold after reset, so that the statements about every step speak of some state. -/
theorem test_witness_WindowLawIsKept : WindowLaw State.reset ∧ WindowLaw active0 :=
  ⟨⟨by decide +kernel, by decide +kernel, fun _ => ⟨rfl, by decide +kernel⟩⟩,
   ⟨by decide +kernel, by decide +kernel, fun h => absurd h (by decide +kernel)⟩⟩

theorem test_witness_CellsAreConserved : CellsAccounted sending :=
  ⟨by decide +kernel, by decide +kernel, fun _ _ h => absurd h (by simp [sending, sending0, active0, part, State.reset, State.resetWith]),
   fun _ => rfl⟩

theorem test_witness_BoundsAreKept : Bounded State.reset :=
  ⟨by decide +kernel, by decide +kernel, by decide +kernel, rfl,
   fun p => by
    have h : State.reset.port p = Port.reset := by revert p; decide +kernel
    rw [h]
    exact ⟨⟨[], [], rfl, by decide, by decide⟩, by decide, by decide, by decide, by decide, rfl, by decide⟩,
   by decide +kernel, by decide +kernel, by decide +kernel,
   fun _ h => nomatch h.symm.trans (show State.reset.disp.split = none from rfl)⟩

theorem test_witness_UnfittedPairsStayAtRest :
    UnfittedAtRest (State.resetWith { fitted := 0, spi := false, autostart := false }) ∧
    (State.resetWith { fitted := 0, spi := false, autostart := false }).mgmt.fitted ≤ (1 : PairNo).val :=
  ⟨by unfold UnfittedAtRest; decide +kernel, by decide +kernel⟩

end Sys2Proof.Tests
end

/-! PROOFS. Sequence numbers round the circle (R4). -/

namespace Sys2Proof.Machine

/-- A distance by the numbers of its ends. -/
theorem dist_eq_mod (a b : Seq) : dist a b = (a.toNat + 16384 - b.toNat) % 16384 := by
  have := b.isLt
  rw [dist, BitVec.toNat_sub]
  congr 1
  omega

theorem dist_eq_zero_iff (a b : Seq) : dist a b = 0 ↔ a = b := by
  have ha := a.isLt
  have hb := b.isLt
  rw [dist_eq_mod, ← BitVec.toNat_inj]
  omega

/-- The two distances of a pair of numbers make one turn of the circle, or are both 0. -/
theorem dist_swap (a b : Seq) : dist b a = (16384 - dist a b) % 16384 := by
  have ha := a.isLt
  have hb := b.isLt
  rw [dist_eq_mod, dist_eq_mod]
  omega

theorem ahead_iff (a b : Seq) : ahead a b = true ↔ 1 ≤ dist a b ∧ dist a b ≤ 8191 := by simp [ahead]

theorem behind_iff (a b : Seq) : behind a b = true ↔ 8192 ≤ dist a b := by simp [behind]

/-- Off the half point, being ahead and having the other behind are one (R4). -/
theorem ahead_iff_behind {a b : Seq} (h : dist a b ≠ 8192) : ahead a b = true ↔ behind b a = true := by
  have := dist_lt a b
  rw [ahead_iff, behind_iff, dist_swap a b]
  omega

theorem laterOf_of_not_ahead {a b : Seq} (h : ahead b a = false) : laterOf a b = a := by simp [laterOf, h]

/-- A number that is ahead of another, equal to it, or at the half point is not passed by it. -/
theorem not_ahead_of_dist {a b : Seq} (h : dist a b ≤ 8192) : ahead b a = false := by
  have := dist_lt a b
  rw [Bool.eq_false_iff, ne_eq, ahead_iff, dist_swap a b]
  omega

theorem toNat_seq_add (s : Seq) (n : Nat) : (s + BitVec.ofNat 14 n).toNat = (s.toNat + n) % 16384 := by
  rw [BitVec.toNat_add, BitVec.toNat_ofNat]
  omega

/-- Going `n` steps back and `n` steps on again ends where it began. -/
theorem toNat_seq_sub_add (s : Seq) (n : Nat) : ((s - BitVec.ofNat 14 n).toNat + n) % 16384 = s.toNat := by
  have := s.isLt
  rw [BitVec.toNat_sub, BitVec.toNat_ofNat]
  omega

/-- Settles O54: the distance and its reverse make one turn, so only the half point is behind both ways. -/
theorem sequenceNumbersRunRoundACircle : Obligations.SequenceNumbersRunRoundACircle := by
  unfold Obligations.SequenceNumbersRunRoundACircle
  refine ⟨fun a b => ⟨dist_eq_mod a b, dist_eq_zero_iff a b, ahead_iff a b, behind_iff a b, fun h => ?_,
    ahead_iff_behind, fun h => ?_, fun h => ?_, fun h => ?_, fun h => ?_⟩, ?_, fun s n =>
    ⟨toNat_seq_add s n, toNat_seq_sub_add s n⟩⟩
  · rw [behind_iff, behind_iff, dist_swap a b, h]
    decide
  · exact laterOf_of_not_ahead (not_ahead_of_dist (((ahead_iff a b).1 h).2.trans (by decide)))
  · simp [laterOf, h]
  · simp [laterOf, h]
  · exact laterOf_of_not_ahead (not_ahead_of_dist h.le)
  · exact ⟨16000, 8000, 0, by decide⟩

end Sys2Proof.Machine

/-! PROOFS. Line fragments: the checks of R13 and R14 undo the layout of R1 and R184, and nothing else passes them. -/

namespace Sys2Proof.Machine

/-! ### Fields and octets -/

@[simp] theorem fromBe_one (a : Octet) : fromBe [a] = a.toNat := by simp [fromBe]
@[simp] theorem fromBe_two (a b : Octet) : fromBe [a, b] = a.toNat * 256 + b.toNat := by simp [fromBe]

/-- One octet is the field it spells. -/
@[simp] theorem be1_toNat (a : Octet) : be1 a.toNat = [a] := by simp [be1]

/-- Two octets are the field they spell. -/
@[simp] theorem be2_toNat (a b : Octet) : be2 (a.toNat * 256 + b.toNat) = [a, b] := by
  have ha := a.isLt
  have hb := b.isLt
  simp only [be2, List.cons.injEq, and_true, ← BitVec.toNat_inj, BitVec.toNat_ofNat]
  omega

theorem be1_fromBe {l : List Octet} (h : l.length = 1) : be1 (fromBe l) = l := by
  obtain ⟨a, rfl⟩ := List.length_eq_one_iff.1 h
  simp

theorem be2_fromBe {l : List Octet} (h : l.length = 2) : be2 (fromBe l) = l := by
  obtain ⟨a, b, rfl⟩ := List.length_eq_two.1 h
  simp

/-! ### The fields of a fragment (R2, R3, R14) -/

@[simp] theorem pairOf_val (p : PairNo) : pairOf p.val = some p := by simp [pairOf]

theorem pairOf_eq_some {n : Nat} {p : PairNo} : pairOf n = some p ↔ n = p.val := by
  refine ⟨fun h => ?_, fun h => h ▸ pairOf_val p⟩
  unfold pairOf at h
  split at h
  · injection h with h
    rw [← h]
  · cases h

theorem joinResultOf_eq_some {n : Nat} {r : JoinResult} : joinResultOf n = some r ↔ n = r.code := by
  refine ⟨fun h => ?_, fun h => ?_⟩
  · unfold joinResultOf at h
    split at h <;> cases h <;> rfl
  · subst h
    cases r <;> rfl

theorem leaveReasonOf_eq_some {n : Nat} {r : LeaveReason} : leaveReasonOf n = some r ↔ n = r.code := by
  refine ⟨fun h => ?_, fun h => ?_⟩
  · unfold leaveReasonOf at h
    split at h <;> cases h <;> rfl
  · subst h
    cases r <;> rfl

/-- The four octets of a JOIN or JOIN-ACK body, by its fields. -/
theorem body_four_iff {body : List Octet} (h : body.length = 4) (b : BitVec 16) (i e : Octet) :
    body = be2 b.toNat ++ [i] ++ [e] ↔
      b = BitVec.ofNat 16 (field body 0 2) ∧ field body 2 1 = i.toNat ∧ e = BitVec.ofNat 8 (field body 3 1) := by
  obtain ⟨w, x, y, z, rfl⟩ : ∃ w x y z, body = [w, x, y, z] := by
    match body, h with
    | [w, x, y, z], _ => exact ⟨w, x, y, z, rfl⟩
  have hw := w.isLt
  have hx := x.isLt
  have hb := b.isLt
  simp only [be2, field, List.cons_append, List.nil_append, List.drop_succ_cons, List.drop_zero, List.take_succ_cons,
    List.take_zero, fromBe_one, fromBe_two, List.cons.injEq, and_true, ← BitVec.toNat_inj, BitVec.toNat_ofNat]
  have hz := z.isLt
  omega

theorem toNat_ofNat_pair (p : PairNo) : (BitVec.ofNat 8 p.val).toNat = p.val := by
  have := p.isLt
  rw [BitVec.toNat_ofNat]
  omega

/-- The fields of a JOIN or JOIN-ACK body are those it was laid out with. -/
theorem fields_body_four (b : BitVec 16) (i e : Octet) :
    field (be2 b.toNat ++ [i] ++ [e]) 0 2 = b.toNat ∧ field (be2 b.toNat ++ [i] ++ [e]) 2 1 = i.toNat ∧
      field (be2 b.toNat ++ [i] ++ [e]) 3 1 = e.toNat :=
  ⟨fromBe_be2 b.isLt, fromBe_one i, fromBe_one e⟩

/-- A header and a body that spell a fragment are that fragment's own fields, and the fragment is allowed (R2, R3,
R14). -/
theorem fields_of_fragmentOf {p : PairNo} {kind flags : Nat} {seq : Seq} {body : List Octet} {f : Fragment}
    (hf : flags < 16) (h4 : flags % 4 = 0) (hb : body.length ≤ 512) (h : fragmentOf p kind flags seq body = some f) :
    kind = f.kindCode ∧ flags = f.flagBits ∧ seq = f.seqField ∧ body = f.payload ∧ FragmentAllowed p f := by
  unfold fragmentOf at h
  split at h
  case h_1 =>
    split at h
    · injection h with h
      subst h
      refine ⟨rfl, ?_, rfl, rfl, ‹_›, hb⟩
      simp only [Fragment.flagBits, decide_eq_true_eq, beq_iff_eq]
      split <;> split <;> omega
    · cases h
  case h_2 =>
    split at h
    · rename_i hc
      simp only [Bool.and_eq_true, decide_eq_true_eq] at hc
      obtain ⟨i, hi, rfl⟩ := Option.map_eq_some_iff.1 h
      refine ⟨rfl, hc.1, rfl, ?_, trivial⟩
      exact (body_four_iff hc.2 _ (BitVec.ofNat 8 i.val) _).2
        ⟨rfl, (pairOf_eq_some.1 hi).trans (toNat_ofNat_pair i).symm, rfl⟩
    · cases h
  case h_3 =>
    split at h
    · rename_i hc
      simp only [Bool.and_eq_true, decide_eq_true_eq] at hc
      split at h
      · rename_i i r hi hr
        split at h
        · injection h with h
          subst h
          refine ⟨rfl, hc.1.1, hc.2, ?_, ‹_›⟩
          refine (body_four_iff hc.1.2 _ (BitVec.ofNat 8 i.val) (BitVec.ofNat 8 r.code)).2
            ⟨rfl, (pairOf_eq_some.1 hi).trans (toNat_ofNat_pair i).symm, ?_⟩
          rw [joinResultOf_eq_some.1 hr]
        · cases h
      · cases h
    · cases h
  case h_4 =>
    split at h
    · rename_i hc
      simp only [Bool.and_eq_true, decide_eq_true_eq] at hc
      obtain ⟨r, hr, rfl⟩ := Option.map_eq_some_iff.1 h
      refine ⟨rfl, hc.1.1, hc.2, ?_, trivial⟩
      rw [Fragment.payload, ← leaveReasonOf_eq_some.1 hr, field, List.drop_zero, List.take_of_length_le hc.1.2.le,
        be1_fromBe hc.1.2]
    · cases h
  case h_5 =>
    split at h
    · rename_i hc
      simp only [Bool.and_eq_true, decide_eq_true_eq] at hc
      injection h with h
      subst h
      exact ⟨rfl, hc.1, rfl, List.eq_nil_of_length_eq_zero hc.2, trivial⟩
    · cases h
  case h_6 => cases h

/-- The fields of an allowed fragment spell it (R2, R3, R14). -/
theorem fragmentOf_fields {p : PairNo} {f : Fragment} (h : FragmentAllowed p f) :
    fragmentOf p f.kindCode f.flagBits f.seqField f.payload = some f := by
  cases f with
  | data start fin seq payload =>
    have h1 : 1 ≤ payload.length := h.1
    cases start <;> cases fin <;>
      simp [fragmentOf, Fragment.kindCode, Fragment.flagBits, Fragment.seqField, Fragment.payload, h1]
  | join mark bondId pair epoch =>
    obtain ⟨hb, hi, he⟩ := fields_body_four bondId (BitVec.ofNat 8 pair.val) epoch
    have hi := pairOf_eq_some.2 (hi.trans (toNat_ofNat_pair pair))
    simp only [fragmentOf, Fragment.kindCode, Fragment.flagBits, Fragment.seqField, Fragment.payload, be1, hb, hi, he]
    simp
  | joinAck bondId pair result =>
    obtain rfl : pair = p := h
    obtain ⟨hb, hi, he⟩ := fields_body_four bondId (BitVec.ofNat 8 pair.val) (BitVec.ofNat 8 result.code)
    have hi := pairOf_eq_some.2 (hi.trans (toNat_ofNat_pair pair))
    have hr := joinResultOf_eq_some.2 (he.trans (show _ = result.code by cases result <;> rfl))
    simp only [fragmentOf, Fragment.kindCode, Fragment.flagBits, Fragment.seqField, Fragment.payload, be1, hb, hi, hr]
    simp
  | leave reason => cases reason <;> rfl
  | progress mark => rfl

/-! ### The octets on the line (R1, R184) -/

/-- The octets of a fragment message by the numbers in its header, its body and its check word (R1, R184). -/
def lineOctets (first seq len spare : Nat) (body : List Octet) (check : Nat) : List Octet :=
  be1 first ++ be2 seq ++ be2 len ++ be1 spare ++ body ++ be2 check

theorem Fragment.octets_eq_lineOctets (f : Fragment) :
    f.octets = lineOctets (f.kindCode * 16 + f.flagBits) f.seqField.toNat f.payload.length 0 f.payload
      (crc16 f.headAndPayload).toNat := rfl

theorem lineOctets_length (a b c d e : Nat) (body : List Octet) :
    (lineOctets a b c d body e).length = 6 + body.length + 2 := by
  simp [lineOctets]
  omega

/-- The numbers a fragment message was laid out with are read back from its octets. -/
theorem fields_lineOctets {a b c d e : Nat} (ha : a < 256) (hb : b < 65536) (hc : c < 65536) (hd : d < 256)
    (he : e < 65536) (body : List Octet) :
    field (lineOctets a b c d body e) 0 1 = a ∧ field (lineOctets a b c d body e) 1 2 = b ∧
      field (lineOctets a b c d body e) 3 2 = c ∧ field (lineOctets a b c d body e) 5 1 = d ∧
      field (lineOctets a b c d body e) (6 + body.length) 2 = e := by
  refine ⟨fromBe_be1 ha, fromBe_be2 hb, fromBe_be2 hc, fromBe_be1 hd, ?_⟩
  have h := field_append (be1 a ++ be2 b ++ be2 c ++ be1 d ++ body) (be2 e) []
  rw [List.append_nil, fromBe_be2 he] at h
  rwa [← show (be1 a ++ be2 b ++ be2 c ++ be1 d ++ body).length = 6 + body.length by simp; omega]

/-- The body a fragment message was laid out with stands between its header and its check word. -/
theorem body_lineOctets (a b c d e : Nat) (body : List Octet) :
    ((lineOctets a b c d body e).drop 6).take body.length = body :=
  List.take_left' rfl

/-- What the check word of a fragment message covers: its header and its body (R1). -/
theorem covered_lineOctets (a b c d e : Nat) (body : List Octet) :
    (lineOctets a b c d body e).take (6 + body.length) = be1 a ++ be2 b ++ be2 c ++ be1 d ++ body :=
  List.take_left' (by simp; omega)

/-- A field of one octet, laid out again, is that octet. -/
theorem be1_field {l : List Octet} {i : Nat} (h : i + 1 ≤ l.length) : be1 (field l i 1) = (l.drop i).take 1 :=
  be1_fromBe (by simp; omega)

/-- A field of two octets, laid out again, is those octets. -/
theorem be2_field {l : List Octet} {i : Nat} (h : i + 2 ≤ l.length) : be2 (field l i 2) = (l.drop i).take 2 :=
  be2_fromBe (by simp; omega)

/-- Any octets with the length their header tells are laid out as a fragment message, whatever their fields hold. -/
theorem lineOctets_fields {l : List Octet} {n : Nat} (h : l.length = 6 + n + 2) :
    lineOctets (field l 0 1) (field l 1 2) (field l 3 2) (field l 5 1) ((l.drop 6).take n) (field l (6 + n) 2) = l := by
  have hn : (l.drop (6 + n)).take 2 = l.drop (6 + n) := List.take_of_length_le (by simp; omega)
  rw [lineOctets, be1_field (by omega), be1_field (by omega), be2_field (by omega), be2_field (by omega),
    be2_field (by omega), hn, List.drop_zero]
  simp only [← List.take_add]
  exact List.take_append_drop (6 + n) l

/-- The high octet of a field of two. -/
theorem field_high {l : List Octet} {i : Nat} (h : i + 2 ≤ l.length) : field l i 1 = field l i 2 / 256 := by
  obtain ⟨a, b, rest, hl⟩ : ∃ a b rest, l.drop i = a :: b :: rest := by
    match hd : l.drop i with
    | [] => have := congrArg List.length hd; simp at this; omega
    | [_] => have := congrArg List.length hd; simp at this; omega
    | a :: b :: rest => exact ⟨a, b, rest, rfl⟩
  have := b.isLt
  simp only [field, hl, List.take_succ_cons, List.take_zero, fromBe_one, fromBe_two]
  omega

/-! ### The checks (R13, R14) -/

/-- What the checks of a received fragment ask, test by test (R13, R14). -/
theorem checkFragment_eq_good {p : PairNo} {l : List Octet} {f : Fragment} :
    checkFragment p l = .good f ↔
      8 ≤ l.length ∧ (crc16 (l.take (l.length - 2))).toNat = field l (l.length - 2) 2 ∧ unusedClear l = true ∧
      field l 3 2 ≤ 512 ∧ l.length = 6 + field l 3 2 + 2 ∧
      fragmentOf p (field l 0 1 / 16) (field l 0 1 % 16) (BitVec.ofNat 14 (field l 1 2))
        ((l.drop 6).take (field l 3 2)) = some f := by
  unfold checkFragment
  dsimp only
  split
  · simp; omega
  · split
    · simp_all
    · split
      · rename_i h8 hcrc hlen
        simp only [Bool.and_eq_true, decide_eq_true_eq, beq_iff_eq] at hlen
        split <;> simp_all
      · rename_i h8 hcrc hlen
        simp only [Bool.and_eq_true, decide_eq_true_eq, beq_iff_eq, not_and] at hlen
        simp only [reduceCtorEq, false_iff, not_and]
        exact fun _ _ hu h5 hl _ => hlen ⟨hu, h5⟩ hl

theorem Fragment.kindCode_le (f : Fragment) : f.kindCode ≤ 5 := by cases f <;> simp [Fragment.kindCode]

/-- The flags stand in bits 3 and 2 of octet 0 (R184). -/
theorem Fragment.flagBits_bounds (f : Fragment) : f.flagBits < 16 ∧ f.flagBits % 4 = 0 := by
  cases f with
  | data start fin => cases start <;> cases fin <;> simp [Fragment.flagBits]
  | _ => simp [Fragment.flagBits]

/-- No allowed fragment has a payload above 512 octets (R2, R3). -/
theorem payload_le_of_allowed {p : PairNo} {f : Fragment} (h : FragmentAllowed p f) : f.payload.length ≤ 512 := by
  cases f with
  | data => exact h.2
  | _ => simp [Fragment.payload]

/-- The unused bits of a header are zero, by the fields they stand in (R14). -/
theorem unusedClear_iff {l : List Octet} (h : 8 ≤ l.length) :
    unusedClear l = true ↔ field l 0 1 % 4 = 0 ∧ field l 1 2 < 16384 ∧ field l 3 2 < 1024 ∧ field l 5 1 = 0 := by
  simp only [unusedClear, field_high (l := l) (i := 1) (by omega), field_high (l := l) (i := 3) (by omega),
    Bool.and_eq_true, beq_iff_eq]
  omega

/-- The octets of an allowed fragment pass the checks and give it back (R13, R14, R184). -/
theorem checkFragment_octets {p : PairNo} {f : Fragment} (h : FragmentAllowed p f) :
    checkFragment p f.octets = .good f := by
  have hk := f.kindCode_le
  obtain ⟨hf, hf4⟩ := f.flagBits_bounds
  have hn := payload_le_of_allowed h
  have hs : f.seqField.toNat < 16384 := f.seqField.isLt
  have hl := lineOctets_length (f.kindCode * 16 + f.flagBits) f.seqField.toNat f.payload.length 0
    (crc16 f.headAndPayload).toNat f.payload
  obtain ⟨h0, h1, h3, h5, hc⟩ := fields_lineOctets (a := f.kindCode * 16 + f.flagBits) (b := f.seqField.toNat)
    (c := f.payload.length) (d := 0) (by omega) (by omega) (by omega) (by omega) (crc16 f.headAndPayload).isLt f.payload
  have hcov := covered_lineOctets (f.kindCode * 16 + f.flagBits) f.seqField.toNat f.payload.length 0
    (crc16 f.headAndPayload).toNat f.payload
  rw [checkFragment_eq_good, f.octets_eq_lineOctets]
  have h8 : 8 ≤ (lineOctets (f.kindCode * 16 + f.flagBits) f.seqField.toNat f.payload.length 0 f.payload
      (crc16 f.headAndPayload).toNat).length := by omega
  have h2 : 6 + f.payload.length + 2 - 2 = 6 + f.payload.length := by omega
  refine ⟨h8, ?_, (unusedClear_iff h8).2 (by omega), by omega, by omega, ?_⟩
  · rw [hl, h2, hc, hcov]
    rfl
  · rw [h0, h1, h3, body_lineOctets, BitVec.ofNat_toNat, BitVec.setWidth_eq,
      show (f.kindCode * 16 + f.flagBits) / 16 = f.kindCode by omega,
      show (f.kindCode * 16 + f.flagBits) % 16 = f.flagBits by omega]
    exact fragmentOf_fields h

/-- What passes the checks is an allowed fragment as it is laid out (R13, R14, R184). -/
theorem octets_of_checkFragment {p : PairNo} {l : List Octet} {f : Fragment} (h : checkFragment p l = .good f) :
    FragmentAllowed p f ∧ l = f.octets := by
  obtain ⟨h8, hcrc, hu, h512, hl, hf⟩ := checkFragment_eq_good.1 h
  obtain ⟨hu0, hu1, -, hu5⟩ := (unusedClear_iff h8).1 hu
  have hbody : ((l.drop 6).take (field l 3 2)).length = field l 3 2 := by simp; omega
  obtain ⟨hk, hflags, hseq, hpay, hallow⟩ := fields_of_fragmentOf (by omega) (by omega) (by omega) hf
  have hseq' : field l 1 2 = f.seqField.toNat := by
    rw [← hseq, BitVec.toNat_ofNat]
    omega
  have hlay := lineOctets_fields hl
  rw [show l.length - 2 = 6 + field l 3 2 by omega] at hcrc
  have hcov := covered_lineOctets (field l 0 1) (field l 1 2) (field l 3 2) (field l 5 1) (field l (6 + field l 3 2) 2)
    ((l.drop 6).take (field l 3 2))
  rw [hbody, hlay] at hcov
  have h0 : field l 0 1 = f.kindCode * 16 + f.flagBits := by omega
  have hlen : field l 3 2 = f.payload.length := by rw [← hpay, hbody]
  refine ⟨hallow, ?_⟩
  rw [f.octets_eq_lineOctets, ← hlay, ← hcrc, hcov, h0, hseq', hu5, hpay, hlen]
  rfl

/-- Settles O31: the checks undo the layout, and the layout is the only one that passes them. -/
theorem checksPassJustTheEncodings : Obligations.ChecksPassJustTheEncodings := fun _ _ _ =>
  ⟨octets_of_checkFragment, fun ⟨h, hl⟩ => hl ▸ checkFragment_octets h⟩

/-! ### What a Pair Port discards (R13, R14, R17, R22) -/

/-- A FRAGMENT at a port that takes messages is counted and checked (R13). -/
theorem exec_fragmentReceived_of_present {s : State} {p : PairNo} (hf : p.val < s.mgmt.fitted)
    (hp : (s.port p).present = true) (l : List Octet) : exec (.fragmentReceived p l) s = .next (receive p l s) := by
  have hl : s.listening p = true := by simp [State.listening, State.isFitted, hf, hp]
  simp [exec, execFragmentReceived, hl]

theorem checkFragment_of_short {p : PairNo} {l : List Octet} (h : l.length < 8) : checkFragment p l = .malformed := by
  simp [checkFragment, h]

theorem checkFragment_of_badCheck {p : PairNo} {l : List Octet} (h : 8 ≤ l.length)
    (hc : (crc16 (l.take (l.length - 2))).toNat ≠ field l (l.length - 2) 2) : checkFragment p l = .badCheck := by
  simp [checkFragment, Nat.not_lt.2 h, hc]

/-- A right check word leaves two outcomes (R13). -/
theorem checkFragment_of_goodCheck {p : PairNo} {l : List Octet} (h : 8 ≤ l.length)
    (hc : (crc16 (l.take (l.length - 2))).toNat = field l (l.length - 2) 2) :
    checkFragment p l = .malformed ∨ ∃ f, checkFragment p l = .good f := by
  unfold checkFragment
  dsimp only
  rw [if_neg (Nat.not_lt.2 h), if_neg (not_not.2 hc)]
  split
  · split
    · exact .inr ⟨_, rfl⟩
    · exact .inl rfl
  · exact .inl rfl

/-- Settles O26: by the branches of the port messages and of the checks; what is no encoding cannot pass them (O31). -/
theorem discardedMessagesHaveNoEffect : Obligations.DiscardedMessagesHaveNoEffect := by
  unfold Obligations.DiscardedMessagesHaveNoEffect
  refine ⟨fun s p l n => ⟨rfl, by simp [exec, execTaken], fun hp => ?_⟩, fun s p l hf hp => ?_⟩
  · have hl : s.listening p = false := by simp [State.listening, hp]
    simp [exec, execTaken, execFragmentReceived, hl]
  · rw [exec_fragmentReceived_of_present hf hp]
    refine ⟨fun h => ?_, fun h hc => ?_, fun h hc hno => ?_⟩
    · rw [receive, checkFragment_of_short h]
    · rw [receive, checkFragment_of_badCheck h hc]
    · rcases checkFragment_of_goodCheck (p := p) h hc with hm | ⟨f, hg⟩
      · rw [receive, hm]
      · obtain ⟨hallow, hl⟩ := octets_of_checkFragment hg
        exact absurd hl (hno f hallow)

end Sys2Proof.Machine

/-! PROOFS. A lawful line queue under handover and placement (R25, R26, R27): handing over after every placement is handing
over once at the end, and either keeps the law of the queue. -/

namespace Sys2Proof.Machine

/-! ### Handover at the port (R26, R27) -/

/-- The handover test at the port itself, under an open or a closed gate. -/
def Port.handAll (gate : Bool) (x : Port) : Port := if gate then x.handOne.handOne else x

/-- A fragment as it joins a line queue. -/
def Entry.staged (f : Fragment) : Entry := { frag := f, handed := false }

/-- Fragments placed at the tail of the line queue. -/
def Port.append (fs : List Fragment) (x : Port) : Port := { x with queue := x.queue ++ fs.map Entry.staged }

@[simp] theorem Entry.staged_frag (f : Fragment) : (Entry.staged f).frag = f := rfl

@[simp] theorem Port.append_nil (x : Port) : x.append [] = x := by simp [Port.append]

theorem Port.append_append (fs gs : List Fragment) (x : Port) : (x.append fs).append gs = x.append (fs ++ gs) := by
  simp [Port.append]

/-- The handover test is that of the port under the gate of the pair's state. -/
theorem handover_port_self (p : PairNo) (s : State) :
    (handover p s).port p = (s.port p).handAll (s.pair p).state.gateOpen := by
  unfold handover Port.handAll
  split <;> simp

/-- A placement, as its port sees it. -/
theorem stage_port_self (p : PairNo) (f : Fragment) (s : State) :
    (stage p f s).port p = ((s.port p).append [f]).handAll (s.pair p).state.gateOpen := by
  rw [stage, handover_port_self]
  simp [Port.append, Entry.staged]

/-- The split of a line queue that its law speaks of: HANDED entries, then STAGED ones. -/
structure Parts (x : Port) (handed staged : List Entry) : Prop where
  queue : x.queue = handed ++ staged
  handed : ∀ e ∈ handed, e.handed = true
  staged : ∀ e ∈ staged, e.handed = false

theorem LineQueueLaw.parts {x : Port} (h : LineQueueLaw x) : ∃ handed staged, Parts x handed staged := by
  obtain ⟨handed, staged, hq, hh, hs⟩ := h.handedFirst
  exact ⟨handed, staged, hq, hh, hs⟩

theorem Parts.append {x : Port} {handed staged : List Entry} (h : Parts x handed staged) (fs : List Fragment) :
    Parts (x.append fs) handed (staged ++ fs.map Entry.staged) := by
  refine ⟨by simp [Port.append, h.queue], h.handed, fun e he => ?_⟩
  rcases List.mem_append.1 he with he | he
  · exact h.staged e he
  · obtain ⟨f, -, rfl⟩ := List.mem_map.1 he
    rfl

/-- How many STAGED entries the credit lets be handed over under a gate (R27). -/
def allowance (gate : Bool) (handed staged residue : Nat) : Nat :=
  if gate then min staged (2 - handed - residue) else 0

theorem Port.handAll_eq {x : Port} {handed staged : List Entry} (h : Parts x handed staged) (gate : Bool) :
    let n := allowance gate handed.length staged.length x.residue.length
    x.handAll gate = { x with
      queue := handed ++ (staged.take n).map Entry.hand ++ staged.drop n,
      sent := x.sent ++ (staged.take n).map fun e => .fragment e.frag } := by
  cases gate with
  | true => exact handOne_handOne h.queue h.handed h.staged
  | false => simp [Port.handAll, allowance, ← h.queue]

/-- The parts after a handover: what it handed over has changed sides. -/
theorem Parts.handAll {x : Port} {handed staged : List Entry} (h : Parts x handed staged) (gate : Bool) :
    let n := allowance gate handed.length staged.length x.residue.length
    Parts (x.handAll gate) (handed ++ (staged.take n).map Entry.hand) (staged.drop n) := by
  intro n
  refine ⟨by rw [Port.handAll_eq h gate], fun e he => ?_, fun e he => h.staged e (List.mem_of_mem_drop he)⟩
  rcases List.mem_append.1 he with he | he
  · exact h.handed e he
  · obtain ⟨y, -, rfl⟩ := List.mem_map.1 he
    rfl

theorem allowance_le (gate : Bool) (handed staged residue : Nat) : allowance gate handed staged residue ≤ staged := by
  unfold allowance
  split <;> omega

/-- What a second handover adds to the first is what one handover of all would have added. -/
theorem allowance_add (gate : Bool) (handed staged more residue : Nat) :
    allowance gate handed (staged + more) residue = allowance gate handed staged residue +
      allowance gate (handed + allowance gate handed staged residue)
        (staged - allowance gate handed staged residue + more) residue := by
  unfold allowance
  split <;> omega

/-- Handing over before more is placed makes no difference to handing over after it (R27). -/
theorem Port.handAll_append_handAll {x : Port} {handed staged : List Entry} (hp : Parts x handed staged) (gate : Bool)
    (fs : List Fragment) : ((x.handAll gate).append fs).handAll gate = (x.append fs).handAll gate := by
  have hle := allowance_le gate handed.length staged.length x.residue.length
  have hadd := allowance_add gate handed.length staged.length fs.length x.residue.length
  rw [Port.handAll_eq ((hp.handAll gate).append fs) gate, Port.handAll_eq (hp.append fs) gate, Port.handAll_eq hp gate]
  simp only [Port.append, List.length_append, List.length_map, List.length_take, List.length_drop, Nat.min_eq_left hle,
    hadd]
  generalize allowance gate handed.length staged.length x.residue.length = n at hle
  generalize allowance gate (handed.length + n) (staged.length - n + fs.length) x.residue.length = m
  have ht : (staged ++ fs.map Entry.staged).take n = staged.take n := List.take_append_of_le_length hle
  have hd : (staged ++ fs.map Entry.staged).drop n = staged.drop n ++ fs.map Entry.staged :=
    List.drop_append_of_le_length hle
  rw [← List.drop_drop, List.take_add, ht, hd]
  simp only [List.map_append, List.append_assoc]

/-- A second handover finds nothing more to hand over. -/
theorem Port.handAll_handAll {x : Port} (h : LineQueueLaw x) (gate : Bool) :
    (x.handAll gate).handAll gate = x.handAll gate := by
  obtain ⟨handed, staged, hp⟩ := h.parts
  simpa using Port.handAll_append_handAll hp gate []

/-! ### What a handover and a placement leave as it is -/

theorem handFirst_frags (q : List Entry) : (handFirst q).map (·.frag) = q.map (·.frag) := by
  induction q with
  | nil => rfl
  | cons e rest ih =>
    unfold handFirst
    split
    · simp [ih]
    · rfl

theorem Port.handOne_frags (x : Port) : x.handOne.queue.map (·.frag) = x.queue.map (·.frag) := by
  unfold Port.handOne
  split
  · split
    · exact handFirst_frags x.queue
    · rfl
  · rfl

/-- A handover changes marks and what was sent, and nothing else (R27). -/
theorem Port.handAll_keeps (x : Port) (gate : Bool) :
    (x.handAll gate).queue.map (·.frag) = x.queue.map (·.frag) ∧ (x.handAll gate).takenFromHead = x.takenFromHead ∧
      (x.handAll gate).residue = x.residue := by
  cases gate with
  | false => exact ⟨rfl, rfl, rfl⟩
  | true =>
    refine ⟨(Port.handOne_frags _).trans (Port.handOne_frags x), ?_, ?_⟩ <;>
      rw [Port.handAll, if_pos rfl, handOne_frame x.handOne, handOne_frame x]

/-- The octets of a line queue are those of its fragments. -/
theorem queueSize_eq_of_frags {q r : List Entry} (h : q.map (·.frag) = r.map (·.frag)) : queueSize q = queueSize r := by
  have : ∀ l : List Entry, queueSize l = ((l.map (·.frag)).map Fragment.size).sum := fun l => by
    simp [queueSize, Function.comp_def]
  rw [this, this, h]

theorem Port.handAll_backlog (x : Port) (gate : Bool) : (x.handAll gate).backlog = x.backlog := by
  obtain ⟨hq, ht, -⟩ := x.handAll_keeps gate
  rw [Port.backlog, Port.backlog, queueSize_eq_of_frags hq, ht]

theorem Port.handAll_length (x : Port) (gate : Bool) : (x.handAll gate).queue.length = x.queue.length := by
  simpa using congrArg List.length (x.handAll_keeps gate).1

theorem queueSize_append (q r : List Entry) : queueSize (q ++ r) = queueSize q + queueSize r := by
  simp [queueSize]

theorem size_ge (f : Fragment) : 8 ≤ f.size := Nat.le_add_left 8 _

/-- What a TAKEN has covered of the head is no more than the queue holds. -/
theorem LineQueueLaw.taken_le {x : Port} (h : LineQueueLaw x) : x.takenFromHead ≤ queueSize x.queue := by
  have ht := h.taken
  cases hq : x.queue with
  | nil => simp only [hq] at ht; omega
  | cons e rest =>
    simp only [hq] at ht
    simp only [queueSize, List.map_cons, List.sum_cons]
    split at ht <;> omega

theorem LineQueueLaw.append_backlog {x : Port} (h : LineQueueLaw x) (fs : List Fragment) :
    (x.append fs).backlog = x.backlog + (fs.map Fragment.size).sum := by
  have := h.taken_le
  simp only [Port.backlog, Port.append, queueSize_append]
  rw [Nat.sub_add_comm this]
  simp [queueSize, Function.comp_def]

/-! ### The law of a line queue is kept -/

/-- What the law says of "taken from head", by the parts of the queue (R28). -/
theorem LineQueueLaw.taken_parts {x : Port} (h : LineQueueLaw x) {handed staged : List Entry}
    (hp : Parts x handed staged) :
    (∀ e rest, handed = e :: rest → x.takenFromHead < e.frag.size) ∧ (handed = [] → x.takenFromHead = 0) := by
  have ht := h.taken
  rw [hp.queue] at ht
  constructor
  · rintro e rest rfl
    simpa [hp.handed e (by simp)] using ht
  · rintro rfl
    cases hs : staged with
    | nil => simpa [hs] using ht
    | cons e rest => simpa [hs, hp.staged e (by simp [hs])] using ht

/-- The law of a line queue from its parts. -/
theorem LineQueueLaw.of_parts {x : Port} {handed staged : List Entry} (hp : Parts x handed staged)
    (credit : handed.length + x.residue.length ≤ 2) (entries : x.queue.length ≤ 4) (octets : x.backlog ≤ 3072)
    (sizes : ∀ f ∈ x.queue.map (·.frag), f.size ≤ 520)
    (taken : ∀ e rest, handed = e :: rest → x.takenFromHead < e.frag.size)
    (fresh : handed = [] → x.takenFromHead = 0) (residue : ∀ c ∈ x.residue, 0 < c) : LineQueueLaw x := by
  refine ⟨⟨_, _, hp.queue, hp.handed, hp.staged⟩, ?_, entries, octets, fun e he => sizes _ (List.mem_map_of_mem he), ?_,
    residue⟩
  · rwa [hp.queue, countP_handed_append hp.handed hp.staged]
  · rw [hp.queue]
    cases handed with
    | cons e rest => simpa [hp.handed e (by simp)] using taken e rest rfl
    | nil =>
      cases staged with
      | nil => exact fresh rfl
      | cons e rest => simpa [hp.staged e (by simp)] using fresh rfl

/-- The credit a lawful queue has used (R27). -/
theorem LineQueueLaw.credit_parts {x : Port} (h : LineQueueLaw x) {handed staged : List Entry}
    (hp : Parts x handed staged) : handed.length + x.residue.length ≤ 2 := by
  have := h.credit
  rwa [hp.queue, countP_handed_append hp.handed hp.staged] at this

/-- A handover keeps the law of a line queue (R24, R27). -/
theorem LineQueueLaw.handAll {x : Port} (h : LineQueueLaw x) (gate : Bool) : LineQueueLaw (x.handAll gate) := by
  obtain ⟨handed, staged, hp⟩ := h.parts
  obtain ⟨hq, ht, hr⟩ := x.handAll_keeps gate
  obtain ⟨htaken, hfresh⟩ := h.taken_parts hp
  have hcr := h.credit_parts hp
  refine LineQueueLaw.of_parts (hp.handAll gate) ?_ ?_ ?_ ?_ ?_ ?_ ?_
  · rw [hr, List.length_append, List.length_map, List.length_take]
    unfold allowance
    split <;> omega
  · rw [Port.handAll_length]
    exact h.entries
  · rw [Port.handAll_backlog]
    exact h.octets
  · rw [hq]
    rintro f hf
    obtain ⟨e, he, rfl⟩ := List.mem_map.1 hf
    exact h.sizes e he
  · intro e rest he
    rw [ht]
    cases handed with
    | nil =>
      have := size_ge e.frag
      have := hfresh rfl
      omega
    | cons e' rest' =>
      obtain ⟨rfl, -⟩ := List.cons.inj he
      exact htaken e' rest' rfl
  · intro he
    rw [ht]
    exact hfresh (List.append_eq_nil_iff.1 he).1
  · rw [hr]
    exact h.residue

/-- The two bounds of a line queue that a placement must find room under (R25). -/
theorem Port.hasRoom_iff {x : Port} {c : Nat} :
    x.hasRoom c = true ↔ x.queue.length < 4 ∧ x.backlog + c ≤ 3072 := by
  rw [Port.hasRoom, Bool.and_eq_true, decide_eq_true_eq, decide_eq_true_eq]
  exact Iff.rfl

/-- A placement that finds room keeps the law of a line queue (R24, R25). -/
theorem LineQueueLaw.append {x : Port} (h : LineQueueLaw x) {f : Fragment} (hroom : x.hasRoom f.size = true)
    (hsize : f.size ≤ 520) : LineQueueLaw (x.append [f]) := by
  obtain ⟨handed, staged, hp⟩ := h.parts
  obtain ⟨htaken, hfresh⟩ := h.taken_parts hp
  obtain ⟨hentries, hoctets⟩ := Port.hasRoom_iff.1 hroom
  refine LineQueueLaw.of_parts (hp.append [f]) (h.credit_parts hp) ?_ ?_ ?_ htaken hfresh h.residue
  · simp only [Port.append, List.length_append, List.length_map, List.length_singleton]
    omega
  · rw [h.append_backlog]
    simpa using hoctets
  · intro g hg
    simp only [Port.append, List.map_append, List.mem_append, List.map_cons, List.map_nil, List.mem_singleton,
      Entry.staged_frag] at hg
    rcases hg with hg | rfl
    · obtain ⟨e, he, rfl⟩ := List.mem_map.1 hg
      exact h.sizes e he
    · exact hsize

/-! ### What waits for room (R30, R48) -/

/-- Something that may wait is tried: it is placed where it finds room, and handed over with what the credit allows. -/
def Port.offer (gate : Bool) (f : Option Fragment) (x : Port) : Port :=
  match f with
  | some f => if x.hasRoom f.size then (x.append [f]).handAll gate else x
  | none => x

/-- Something that waits finds no room. -/
def Port.refuses (x : Port) (f : Option Fragment) : Bool := f.any fun f => !x.hasRoom f.size

/-- Fragments, backlog and what still waits, as a trial of one thing that may wait leaves them. -/
def offered (q : List Fragment × Nat × List Bool) (f : Option Fragment) : List Fragment × Nat × List Bool :=
  match f with
  | some f => if q.1.length < 4 ∧ q.2.1 + f.size ≤ 3072 then (q.1 ++ [f], q.2.1 + f.size, q.2.2 ++ [false])
      else (q.1, q.2.1, q.2.2 ++ [true])
  | none => (q.1, q.2.1, q.2.2 ++ [false])

/-- A port `y` that trials have made of `x`: it holds the fragments and the backlog that `offered` tells, and handing over
at the end is all that was handed over between. -/
structure Filled (gate : Bool) (x : Port) (q : List Fragment × Nat × List Bool) (y : Port) : Prop where
  law : LineQueueLaw y
  frags : y.queue.map (·.frag) = q.1
  backlog : y.backlog = q.2.1
  late : ∃ fs, q.1 = x.queue.map (·.frag) ++ fs ∧ y.handAll gate = (x.append fs).handAll gate

theorem Filled.refl {x : Port} (h : LineQueueLaw x) (gate : Bool) (waits : List Bool) :
    Filled gate x (x.queue.map (·.frag), x.backlog, waits) x :=
  ⟨h, rfl, rfl, [], by simp, by simp⟩

/-- One more trial (R25, R27, R48). -/
theorem Filled.offer {gate : Bool} {x y : Port} {q : List Fragment × Nat × List Bool} (hx : LineQueueLaw x)
    (h : Filled gate x q y) (f : Option Fragment) (hf : ∀ g, f = some g → g.size ≤ 520) :
    Filled gate x (offered q f) (y.offer gate f) ∧ (offered q f).2.2 = q.2.2 ++ [y.refuses f] := by
  cases f with
  | none => exact ⟨⟨h.law, h.frags, h.backlog, h.late⟩, rfl⟩
  | some f =>
    have hlen : q.1.length = y.queue.length := by rw [← h.frags, List.length_map]
    by_cases hroom : y.hasRoom f.size = true
    · have hput : q.1.length < 4 ∧ q.2.1 + f.size ≤ 3072 := by
        rw [hlen, ← h.backlog]
        exact Port.hasRoom_iff.1 hroom
      have hy : y.offer gate (some f) = (y.append [f]).handAll gate := if_pos hroom
      have hq : offered q (some f) = (q.1 ++ [f], q.2.1 + f.size, q.2.2 ++ [false]) := if_pos hput
      have hlaw := h.law.append hroom (hf f rfl)
      obtain ⟨fs, hfs, hlate⟩ := h.late
      obtain ⟨handed, staged, hp⟩ := hx.parts
      obtain ⟨handed', staged', hp'⟩ := h.law.parts
      rw [hy, hq]
      refine ⟨⟨hlaw.handAll gate, ?_, ?_, fs ++ [f], ?_, ?_⟩, by simp [Port.refuses, hroom]⟩
      · rw [(Port.handAll_keeps _ gate).1]
        simp [Port.append, h.frags]
      · rw [Port.handAll_backlog, h.law.append_backlog, h.backlog]
        simp
      · simp [hfs]
      · rw [Port.handAll_handAll hlaw, ← Port.handAll_append_handAll hp', hlate,
          Port.handAll_append_handAll (hp.append fs), Port.append_append]
    · have hput : ¬(q.1.length < 4 ∧ q.2.1 + f.size ≤ 3072) := by
        rw [hlen, ← h.backlog]
        exact fun hr => hroom (Port.hasRoom_iff.2 hr)
      have hy : y.offer gate (some f) = y := if_neg hroom
      have hq : offered q (some f) = (q.1, q.2.1, q.2.2 ++ [true]) := if_neg hput
      rw [hy, hq]
      exact ⟨⟨h.law, h.frags, h.backlog, h.late⟩, by simp [Port.refuses, hroom]⟩

end Sys2Proof.Machine

/-! PROOFS. TAKEN accounting (R28, R29): what a report of `n` octets covers of the residue and of the HANDED entries. -/

namespace Sys2Proof.Machine

/-- What covering the residue answers (R28, step 1): what is left of the report, one fragment sent for each entry wholly
covered, and the octets still uncovered. -/
theorem coverResidue_spec (residue : List Nat) (left sent : Nat) (h : ∀ c ∈ residue, 0 < c) :
    ∃ rest, coverResidue left sent residue = (left - residue.sum, sent + (residue.length - rest.length), rest) ∧
      rest.length ≤ residue.length ∧ rest.sum = residue.sum - left ∧ ∀ c ∈ rest, 0 < c := by
  induction residue generalizing left sent with
  | nil => exact ⟨[], by simp [coverResidue], le_rfl, by simp, by simp⟩
  | cons c residue ih =>
    have hc := h c (by simp)
    have hrest : ∀ c ∈ residue, 0 < c := fun c hc => h c (by simp [hc])
    unfold coverResidue
    split
    · obtain ⟨rest, heq, hlen, hsum, hpos⟩ := ih (left - c) (sent + 1) hrest
      refine ⟨rest, ?_, by simp; omega, by simp; omega, hpos⟩
      simp only [heq, List.sum_cons, List.length_cons, Prod.mk.injEq, and_true]
      omega
    · refine ⟨(c - left) :: residue, ?_, by simp, by simp; omega, ?_⟩
      · simp; omega
      · rintro d hd
        rcases List.mem_cons.1 hd with rfl | hd
        · omega
        · exact hrest d hd

/-- The octets of HANDED entries that no TAKEN has covered. -/
def uncoveredOctets (taken : Nat) (handed : List Entry) : Nat := queueSize handed - taken

/-- What covering the HANDED entries answers (R28, steps 2 and 3): `m` entries leave the head, what is left of the report,
and the octets still uncovered. -/
theorem coverQueue_spec {handed staged : List Entry} (hh : ∀ e ∈ handed, e.handed = true)
    (hs : ∀ e ∈ staged, e.handed = false) {taken : Nat} (k : Cover)
    (htaken : ∀ e rest, handed = e :: rest → taken < e.frag.size) (hfresh : handed = [] → taken = 0) :
    ∃ m taken', m ≤ handed.length ∧
      coverQueue taken k (handed ++ staged) = (handed.drop m ++ staged, taken',
        { left := k.left - uncoveredOctets taken handed, sent := k.sent + m,
          retired := k.retired ++ (handed.take m).map (·.frag) }) ∧
      taken' ≤ queueSize (handed.drop m) ∧
      uncoveredOctets taken' (handed.drop m) = uncoveredOctets taken handed - k.left ∧
      (k.left = 0 → m = 0) ∧ (∀ e rest, handed.drop m = e :: rest → taken' < e.frag.size) ∧
      (handed.drop m = [] → taken' = 0) := by
  induction handed generalizing taken k with
  | nil =>
    obtain rfl := hfresh rfl
    refine ⟨0, 0, le_rfl, ?_, by simp, by simp [uncoveredOctets, queueSize], by simp, by simp, by simp⟩
    cases staged with
    | nil => simp [coverQueue, uncoveredOctets, queueSize]
    | cons e rest => simp [coverQueue, uncoveredOctets, queueSize, hs e (by simp)]
  | cons e handed ih =>
    have he := hh e (by simp)
    have ht := htaken e handed rfl
    have hsum : queueSize (e :: handed) = e.frag.size + queueSize handed := by simp [queueSize]
    simp only [List.cons_append, coverQueue, he, if_true]
    split
    · obtain ⟨m, taken', hm, heq, hle, hun, hzero, hlt, hnil⟩ := ih (fun x hx => hh x (by simp [hx]))
        { left := k.left - (e.frag.size - taken), sent := k.sent + 1, retired := k.retired ++ [e.frag] }
        (fun f rest _ => Nat.lt_of_lt_of_le (by decide) (size_ge f.frag)) (fun _ => rfl)
      refine ⟨m + 1, taken', by simp; omega, ?_, hle, ?_, by omega, hlt, hnil⟩
      · rw [heq]
        simp only [uncoveredOctets, hsum, List.drop_succ_cons, List.take_succ_cons, List.map_cons, List.append_assoc,
          List.singleton_append, Prod.mk.injEq, Cover.mk.injEq, and_true, true_and]
        omega
      · rw [List.drop_succ_cons, hun]
        simp only [uncoveredOctets, hsum]
        omega
    · refine ⟨0, taken + k.left, by simp, ?_, ?_, ?_, by simp, ?_, by simp⟩
      · simp [uncoveredOctets, hsum]
        omega
      · simp only [List.drop_zero, hsum]
        omega
      · simp only [List.drop_zero, uncoveredOctets, hsum]
        omega
      · intro f rest hf
        obtain ⟨rfl, -⟩ := List.cons.inj (hf.symm.trans (List.drop_zero ..))
        omega

/-! ### A TAKEN at the port (R28, R29) -/

/-- The octets of a line queue's HANDED entries that no TAKEN has covered. -/
def Port.owed (x : Port) : Nat := uncoveredOctets x.takenFromHead (x.queue.filter (·.handed))

/-- The octets that a TAKEN of `n` covers of the line queue, the residue being covered first. -/
def Port.coveredBy (x : Port) (n : Nat) : Nat := min (n - x.residue.sum) x.owed

/-- The port `y` is `x` after a TAKEN of `n` octets has retired `m` entries from the head (R28). -/
structure Covered (x : Port) (n m : Nat) (y : Port) : Prop where
  law : LineQueueLaw y
  queue : y.queue = x.queue.drop m
  count : m ≤ x.queue.length
  handed : ∀ e ∈ x.queue.take m, e.handed = true
  sent : y.sent = x.sent
  residueLength : y.residue.length ≤ x.residue.length
  residueSum : y.residue.sum = x.residue.sum - n
  backlog : y.backlog = x.backlog - x.coveredBy n
  coveredLe : x.coveredBy n ≤ x.backlog
  none : x.coveredBy n = 0 → m = 0

/-- HANDED entries in front are all that a filter by the mark keeps. -/
theorem filter_handed_append {handed staged : List Entry} (hh : ∀ e ∈ handed, e.handed = true)
    (hs : ∀ e ∈ staged, e.handed = false) : (handed ++ staged).filter (·.handed) = handed := by
  rw [List.filter_append, List.filter_eq_self.2 hh, List.filter_eq_nil_iff.2 fun e he => by simp [hs e he],
    List.append_nil]

/-- A queue with a HANDED entry has octets that no TAKEN has covered. -/
theorem uncoveredOctets_spec {handed : List Entry} {taken : Nat}
    (htaken : ∀ e rest, handed = e :: rest → taken < e.frag.size) (hfresh : handed = [] → taken = 0) :
    taken ≤ queueSize handed ∧ (uncoveredOctets taken handed = 0 → handed = []) := by
  cases handed with
  | nil => exact ⟨(hfresh rfl).le.trans (Nat.zero_le _), fun _ => rfl⟩
  | cons e rest =>
    have := htaken e rest rfl
    have hsum : queueSize (e :: rest) = e.frag.size + queueSize rest := by simp [queueSize]
    refine ⟨by omega, fun h => ?_⟩
    rw [uncoveredOctets] at h
    omega

/-- What a TAKEN of `n` octets covers of a lawful port (R28): of the residue to `rest`, and of the queue to `m` entries
retired and `taken` octets covered of the next. -/
theorem LineQueueLaw.exists_covered {x : Port} (h : LineQueueLaw x) (n : Nat) :
    ∃ m taken rest,
      Covered x n m { x with residue := rest, queue := x.queue.drop m, takenFromHead := taken } ∧
      coverResidue n 0 x.residue = (n - x.residue.sum, x.residue.length - rest.length, rest) ∧
      coverQueue x.takenFromHead ⟨n - x.residue.sum, x.residue.length - rest.length, []⟩ x.queue = (x.queue.drop m, taken,
        ⟨n - x.residue.sum - x.owed, x.residue.length - rest.length + m, (x.queue.take m).map (·.frag)⟩) := by
  obtain ⟨handed, staged, hp⟩ := h.parts
  obtain ⟨htaken, hfresh⟩ := h.taken_parts hp
  have howed : x.owed = uncoveredOctets x.takenFromHead handed := by
    rw [Port.owed, hp.queue, filter_handed_append hp.handed hp.staged]
  obtain ⟨rest, hres, hlen, hsum, hpos⟩ := coverResidue_spec x.residue n 0 h.residue
  obtain ⟨m, taken, hm, hcov, hle, hun, hzero, hlt, hnil⟩ := coverQueue_spec hp.handed hp.staged
    ⟨n - x.residue.sum, x.residue.length - rest.length, []⟩ htaken hfresh
  obtain ⟨htle, howe⟩ := uncoveredOctets_spec htaken hfresh
  rw [← hp.queue, ← howed] at hcov
  rw [← howed] at hun howe
  have hqueue : x.queue.drop m = handed.drop m ++ staged := by rw [hp.queue, List.drop_append_of_le_length hm]
  have htake : x.queue.take m = handed.take m := by rw [hp.queue, List.take_append_of_le_length hm]
  have hx : x.backlog = x.owed + queueSize staged := by
    rw [Port.backlog, hp.queue, queueSize_append, howed, uncoveredOctets]
    omega
  have hy : queueSize (x.queue.drop m) - taken = x.owed - (n - x.residue.sum) + queueSize staged := by
    rw [hqueue, queueSize_append, ← hun, uncoveredOctets]
    omega
  have hcredit := h.credit_parts hp
  have hentries := h.entries
  have hoctets := h.octets
  refine ⟨m, taken, rest, ⟨?_, rfl, ?_, ?_, rfl, hlen, hsum, ?_, ?_, ?_⟩, ?_, ?_⟩
  · refine LineQueueLaw.of_parts (handed := handed.drop m) (staged := staged)
      ⟨hqueue, fun e he => hp.handed e (List.mem_of_mem_drop he), hp.staged⟩ ?_ ?_ ?_ ?_ hlt hnil hpos
    · simp only [List.length_drop]
      omega
    · rw [List.length_drop]
      omega
    · rw [Port.backlog, hy]
      omega
    · rintro f hf
      obtain ⟨e, he, rfl⟩ := List.mem_map.1 hf
      exact h.sizes e (List.mem_of_mem_drop he)
  · rw [hp.queue, List.length_append]
    omega
  · rw [htake]
    exact fun e he => hp.handed e (List.mem_of_mem_take he)
  · rw [Port.backlog, Port.coveredBy, hx]
    dsimp only
    rw [hy]
    omega
  · rw [Port.coveredBy]
    omega
  · intro h0
    rw [Port.coveredBy] at h0
    rcases Nat.eq_zero_or_pos (n - x.residue.sum) with hl | hl
    · exact hzero hl
    · rw [howe (by omega)] at hm
      simpa using hm
  · rw [hres, Nat.zero_add]
  · rw [hcov, hqueue, htake]
    rfl

/-- The state `t` is `s` after a TAKEN of `n` octets has been counted against the residue and the queue of pair `p`, `m`
entries being retired (R28, R29). -/
structure TakenApplied (p : PairNo) (n m : Nat) (s t : State) : Prop where
  covered : Covered (s.port p) n m (t.port p)
  frame : PairFrame p s t
  disp : t.disp = s.disp
  pair : t.pair p =
    let r := ((s.pair p).countBy .octetsSent (min n ((s.port p).residue.sum + (s.port p).owed))).countBy
      .fragmentsSent (m + ((s.port p).residue.length - (t.port p).residue.length))
    if n ≤ (s.port p).residue.sum + (s.port p).owed then r else r.countBy .takenExcess 1

/-- What a TAKEN makes of a lawful port and its pair, and what it retires (R28, R29). -/
theorem applyTaken_spec (p : PairNo) (n : Nat) (s : State) (h : LineQueueLaw (s.port p)) :
    ∃ m, TakenApplied p n m s (applyTaken p n s).1 ∧
      (applyTaken p n s).2 = ((s.port p).queue.take m).map (·.frag) := by
  obtain ⟨m, taken, rest, hc, hres, hcov⟩ := h.exists_covered n
  have hleft : n - (n - (s.port p).residue.sum - (s.port p).owed) =
      min n ((s.port p).residue.sum + (s.port p).owed) := by omega
  have hexcess : n - (s.port p).residue.sum - (s.port p).owed = 0 ↔ n ≤ (s.port p).residue.sum + (s.port p).owed := by
    omega
  have hport : (applyTaken p n s).1.port p =
      { s.port p with residue := rest, queue := (s.port p).queue.drop m, takenFromHead := taken } := by
    simp only [applyTaken, hres, hcov]
    split <;> simp [State.countPair, State.countPairBy]
  have hpair : (applyTaken p n s).1.disp = s.disp ∧ (applyTaken p n s).2 = ((s.port p).queue.take m).map (·.frag) ∧
      (applyTaken p n s).1.pair p =
        let r := ((s.pair p).countBy .octetsSent (min n ((s.port p).residue.sum + (s.port p).owed))).countBy
          .fragmentsSent (m + ((s.port p).residue.length - rest.length))
        if n ≤ (s.port p).residue.sum + (s.port p).owed then r else r.countBy .takenExcess 1 := by
    simp only [applyTaken, hres, hcov, hleft, hexcess, Nat.add_comm m]
    split <;> simp [State.countPair, State.countPairBy]
  obtain ⟨hdisp, hret, hrec⟩ := hpair
  exact ⟨m, ⟨hport ▸ hc, applyTaken_frame p n s, hdisp, by rw [hrec, hport]⟩, hret⟩

end Sys2Proof.Machine

/-! PROOFS. The room a TAKEN reports (R30, R48): what waits is tried in its order, each trial against the room the one
before left. -/

namespace Sys2Proof.Machine

/-! ### One trial -/

/-- A trial of what may wait: its port is offered the fragment, and nothing but the pair's record and its port changes. -/
structure Trial (p : PairNo) (f : Option Fragment) (s t : State) : Prop where
  frame : PairFrame p s t
  disp : t.disp = s.disp
  port : t.port p = (s.port p).offer (s.pair p).state.gateOpen f

theorem Trial.none (p : PairNo) (s : State) : Trial p none s s := ⟨PairFrame.refl p s, rfl, rfl⟩

@[simp] theorem handover_disp (p : PairNo) (s : State) : (handover p s).disp = s.disp := by
  unfold handover
  split <;> rfl

@[simp] theorem stage_disp (p : PairNo) (f : Fragment) (s : State) : (stage p f s).disp = s.disp := handover_disp p _

theorem place_of_room {p : PairNo} {f : Fragment} {s : State} (h : (s.port p).hasRoom f.size = true) :
    place p f s = some (stage p f s) := if_pos h

theorem place_of_full {p : PairNo} {f : Fragment} {s : State} (h : (s.port p).hasRoom f.size = false) :
    place p f s = none := if_neg (by simp [h])

/-- A fragment that finds room is staged, whatever its pair's record notes of it. -/
theorem Trial.placed {p : PairNo} {f : Fragment} {s : State} (h : (s.port p).hasRoom f.size = true) (g : Pair → Pair) :
    Trial p (some f) s ((stage p f s).modPair p g) :=
  ⟨(stage_frame p f s).trans (modPair_frame p g _), stage_disp p f s,
    (stage_port_self p f s).trans (if_pos h).symm⟩

/-- A fragment that finds no room leaves its port as it is. -/
theorem Trial.refused {p : PairNo} {f : Fragment} {s : State} (h : (s.port p).hasRoom f.size = false) (g : Pair → Pair) :
    Trial p (some f) s (s.modPair p g) :=
  ⟨modPair_frame p g s, rfl, (if_neg (by simp [h])).symm⟩

/-- The waiting JOIN-ACK of a pair, built (R48). -/
def State.ackWaiting (s : State) (p : PairNo) : Option Fragment :=
  (s.pair p).waitAck.map fun w => .joinAck s.mgmt.bondId w.1 w.2

/-- The waiting JOIN of a pair, built (R47, R48). -/
def State.joinWaiting (s : State) (p : PairNo) : Option Fragment :=
  if (s.pair p).waitJoin then some (.join s.disp.next s.mgmt.bondId p s.mgmt.epoch) else none

/-- The waiting LEAVE of a pair, built (R48, R56). -/
def State.leaveWaiting (s : State) (p : PairNo) : Option Fragment := (s.pair p).waitLeave.map .leave

/-- The PROGRESS of a pair's pending renewal, built (R9). -/
def State.renewalWaiting (s : State) (p : PairNo) : Option Fragment :=
  if (s.pair p).renewal then some (.progress s.disp.next) else none

theorem refuses_some {x : Port} {f : Fragment} : x.refuses (some f) = !x.hasRoom f.size := rfl

/-- The trial of the waiting JOIN-ACK (R48). -/
theorem tryAck_trial (p : PairNo) (s : State) :
    Trial p (s.ackWaiting p) s (tryAck p s) ∧ (tryAck p s).pair p = { s.pair p with
      progressTimer := ((tryAck p s).pair p).progressTimer, outRef := ((tryAck p s).pair p).outRef,
      waitAck := if (s.port p).refuses (s.ackWaiting p) then (s.pair p).waitAck else none } := by
  unfold tryAck State.ackWaiting
  cases hw : (s.pair p).waitAck with
  | none => exact ⟨Trial.none p s, by simp [← hw]⟩
  | some w =>
    obtain ⟨echo, result⟩ := w
    simp only [placeAck, Option.map_some]
    cases hr : (s.port p).hasRoom (Fragment.joinAck s.mgmt.bondId echo result).size with
    | true =>
      rw [place_of_room hr]
      exact ⟨Trial.placed hr _, by simp [stage_pair, refuses_some, hr]⟩
    | false =>
      rw [place_of_full hr]
      exact ⟨Trial.refused hr _, by simp [refuses_some, hr, ← hw]⟩

/-- The trial of the waiting JOIN (R47, R48). -/
theorem tryJoin_trial (p : PairNo) (s : State) :
    Trial p (s.joinWaiting p) s (tryJoin p s) ∧ (tryJoin p s).pair p = { s.pair p with
      progressTimer := ((tryJoin p s).pair p).progressTimer, outRef := ((tryJoin p s).pair p).outRef,
      waitJoin := (s.port p).refuses (s.joinWaiting p) } := by
  unfold tryJoin State.joinWaiting
  cases hw : (s.pair p).waitJoin with
  | false => exact ⟨Trial.none p s, by show s.pair p = { s.pair p with waitJoin := false }; rw [← hw]⟩
  | true =>
    simp only [placeJoin, buildJoin, if_true]
    cases hr : (s.port p).hasRoom (Fragment.join s.disp.next s.mgmt.bondId p s.mgmt.epoch).size with
    | true =>
      rw [place_of_room hr]
      exact ⟨Trial.placed hr _, by simp [stage_pair, refuses_some, hr]⟩
    | false =>
      rw [place_of_full hr]
      exact ⟨Trial.refused hr _, by simp [refuses_some, hr]⟩

/-- The trial of the waiting LEAVE (R48, R56). -/
theorem tryLeave_trial (p : PairNo) (s : State) :
    Trial p (s.leaveWaiting p) s (tryLeave p s) ∧ (tryLeave p s).pair p = { s.pair p with
      progressTimer := ((tryLeave p s).pair p).progressTimer, outRef := ((tryLeave p s).pair p).outRef,
      waitLeave := if (s.port p).refuses (s.leaveWaiting p) then (s.pair p).waitLeave else none } := by
  unfold tryLeave State.leaveWaiting
  cases hw : (s.pair p).waitLeave with
  | none => exact ⟨Trial.none p s, by simp [← hw]⟩
  | some why =>
    simp only [placeLeave, Option.map_some]
    cases hr : (s.port p).hasRoom (Fragment.leave why).size with
    | true =>
      rw [place_of_room hr]
      exact ⟨Trial.placed hr _, by simp [stage_pair, refuses_some, hr]⟩
    | false =>
      rw [place_of_full hr]
      exact ⟨Trial.refused hr _, by simp [refuses_some, hr, ← hw]⟩

/-- The trial of the pending renewal (R9, R48). -/
theorem tryRenewal_trial (p : PairNo) (s : State) :
    Trial p (s.renewalWaiting p) s (tryRenewal p s) ∧ (tryRenewal p s).pair p = { s.pair p with
      progressTimer := ((tryRenewal p s).pair p).progressTimer, outRef := ((tryRenewal p s).pair p).outRef,
      renewal := (s.port p).refuses (s.renewalWaiting p) } := by
  unfold tryRenewal State.renewalWaiting
  cases hw : (s.pair p).renewal with
  | false => exact ⟨Trial.none p s, by show s.pair p = { s.pair p with renewal := false }; rw [← hw]⟩
  | true =>
    simp only [placeProgress, if_true]
    cases hr : (s.port p).hasRoom (Fragment.progress s.disp.next).size with
    | true =>
      rw [place_of_room hr]
      exact ⟨Trial.placed hr _, by simp [stage_pair, refuses_some, hr]⟩
    | false =>
      rw [place_of_full hr]
      refine ⟨⟨PairFrame.refl p s, rfl, (if_neg (by simp [hr])).symm⟩, by simp [refuses_some, hr, ← hw]⟩

/-! ### The four trials of a room report (R30, R48) -/

/-- A trial leaves the bond id and the epoch as they are. -/
theorem Trial.bond {p : PairNo} {f : Option Fragment} {s t : State} (h : Trial p f s t) :
    t.mgmt.bondId = s.mgmt.bondId ∧ t.mgmt.epoch = s.mgmt.epoch := by
  rw [h.frame.event.mgmt]
  exact ⟨rfl, rfl⟩

/-- What a room report makes of a pair, its waiting fragments being tried in their order (R30, R48). -/
structure RoomTaken (p : PairNo) (s t : State) : Prop where
  disp : t.disp = s.disp
  pair : t.pair p = { s.pair p with
    progressTimer := (t.pair p).progressTimer, outRef := (t.pair p).outRef,
    waitAck := (t.pair p).waitAck, waitJoin := (t.pair p).waitJoin,
    waitLeave := (t.pair p).waitLeave, renewal := (t.pair p).renewal }
  ack : (t.pair p).waitAck.isSome = true → (t.pair p).waitAck = (s.pair p).waitAck
  leave : (t.pair p).waitLeave.isSome = true → (t.pair p).waitLeave = (s.pair p).waitLeave
  filled : ∀ x q, LineQueueLaw x → Filled (s.pair p).state.gateOpen x q (s.port p) → q.2.2 = [] →
    let w := [s.ackWaiting p, s.joinWaiting p, s.leaveWaiting p, s.renewalWaiting p].foldl offered q
    Filled (s.pair p).state.gateOpen x w (t.port p) ∧
      w.2.2 = [(t.pair p).waitAck.isSome, (t.pair p).waitJoin, (t.pair p).waitLeave.isSome, (t.pair p).renewal]

/-- No control fragment is longer than 12 octets (R1, R3). -/
theorem waiting_size_le (s : State) (p : PairNo) :
    (∀ f, s.ackWaiting p = some f → f.size ≤ 520) ∧ (∀ f, s.joinWaiting p = some f → f.size ≤ 520) ∧
      (∀ f, s.leaveWaiting p = some f → f.size ≤ 520) ∧ (∀ f, s.renewalWaiting p = some f → f.size ≤ 520) := by
  refine ⟨fun f h => ?_, fun f h => ?_, fun f h => ?_, fun f h => ?_⟩
  · obtain ⟨w, -, rfl⟩ := Option.map_eq_some_iff.1 h
    simp [Fragment.size, Fragment.payload]
  · unfold State.joinWaiting at h
    split at h <;> cases h
    simp [Fragment.size, Fragment.payload]
  · obtain ⟨w, -, rfl⟩ := Option.map_eq_some_iff.1 h
    simp [Fragment.size, Fragment.payload]
  · unfold State.renewalWaiting at h
    split at h <;> cases h
    simp [Fragment.size, Fragment.payload]

theorem isSome_of_refuses {α : Type} {x : Port} {w : Option α} {g : α → Fragment} :
    (if x.refuses (w.map g) then w else none).isSome = x.refuses (w.map g) := by
  cases w with
  | none => simp [Port.refuses]
  | some w => cases h : x.refuses ((some w).map g) <;> simp

/-- What each trial of a room report finds waiting is what waited before the first (R48). -/
theorem pairRoom_taken (p : PairNo) (s : State) : RoomTaken p s (pairRoom p s) := by
  unfold pairRoom
  obtain ⟨t1, r1⟩ := tryAck_trial p s
  generalize tryAck p s = s1 at t1 r1
  obtain ⟨t2, r2⟩ := tryJoin_trial p s1
  generalize tryJoin p s1 = s2 at t2 r2
  obtain ⟨t3, r3⟩ := tryLeave_trial p s2
  generalize tryLeave p s2 = s3 at t3 r3
  obtain ⟨t4, r4⟩ := tryRenewal_trial p s3
  generalize tryRenewal p s3 = s4 at t4 r4
  have hjoin : s1.joinWaiting p = s.joinWaiting p := by
    unfold State.joinWaiting
    rw [r1, t1.disp, t1.bond.1, t1.bond.2]
  have hleave : s2.leaveWaiting p = s.leaveWaiting p := by
    unfold State.leaveWaiting
    rw [r2, r1]
  have hrenew : s3.renewalWaiting p = s.renewalWaiting p := by
    unfold State.renewalWaiting
    rw [r3, r2, r1, t3.disp, t2.disp, t1.disp]
  have g1 : (s1.pair p).state = (s.pair p).state := by rw [r1]
  have g2 : (s2.pair p).state = (s.pair p).state := by rw [r2, r1]
  have g3 : (s3.pair p).state = (s.pair p).state := by rw [r3, r2, r1]
  have hack : (s4.pair p).waitAck = if (s.port p).refuses (s.ackWaiting p) then (s.pair p).waitAck else none := by
    rw [r4, r3, r2, r1]
  have hwj : (s4.pair p).waitJoin = (s1.port p).refuses (s.joinWaiting p) := by rw [r4, r3, r2, hjoin]
  have hlv : (s4.pair p).waitLeave = if (s2.port p).refuses (s.leaveWaiting p) then (s.pair p).waitLeave else none := by
    rw [r4, r3, hleave, r2, r1]
  have hrn : (s4.pair p).renewal = (s3.port p).refuses (s.renewalWaiting p) := by rw [r4, hrenew]
  have p2 := t2.port
  have p3 := t3.port
  have p4 := t4.port
  rw [hjoin, g1] at p2
  rw [hleave, g2] at p3
  rw [hrenew, g3] at p4
  refine ⟨?_, ?_, ?_, ?_, ?_⟩
  · rw [t4.disp, t3.disp, t2.disp, t1.disp]
  · rw [r4, r3, r2, r1]
  · rw [hack]
    split <;> simp
  · rw [hlv]
    split <;> simp
  · intro x q hx h0 hq
    obtain ⟨z1, z2, z3, z4⟩ := waiting_size_le s p
    obtain ⟨h1, f1⟩ := h0.offer hx _ z1
    rw [← t1.port] at h1
    obtain ⟨h2, f2⟩ := h1.offer hx _ z2
    rw [← p2] at h2
    obtain ⟨h3, f3⟩ := h2.offer hx _ z3
    rw [← p3] at h3
    obtain ⟨h4, f4⟩ := h3.offer hx _ z4
    rw [← p4] at h4
    refine ⟨h4, ?_⟩
    have i1 : (s4.pair p).waitAck.isSome = (s.port p).refuses (s.ackWaiting p) := by
      rw [hack]
      exact isSome_of_refuses
    have i3 : (s4.pair p).waitLeave.isSome = (s2.port p).refuses (s.leaveWaiting p) := by
      rw [hlv]
      exact isSome_of_refuses
    simp only [List.foldl_cons, List.foldl_nil, f4, f3, f2, f1, hq, i1, hwj, i3, hrn, List.nil_append,
      List.cons_append]

/-! ### TAKEN as a whole (R28 to R30) -/

/-- Where the Pair Controller is not LEAVING, or no LEAVE is retired, what is told of retirements changes nothing (R30). -/
theorem tellRetired_of_no_leave {p : PairNo} {s : State} {retired : List Fragment}
    (h : (s.pair p).state = .leaving → ∀ f ∈ retired, ∀ why, f ≠ .leave why) : tellRetired p retired s = s := by
  unfold tellRetired
  induction retired with
  | nil => rfl
  | cons f rest ih =>
    have hrest := ih fun hl g hg => h hl g (by simp [hg])
    cases f with
    | leave why =>
      have hl : (s.pair p).state ≠ .leaving := fun hl => h hl (.leave why) (by simp) why rfl
      simpa [leaveRetired, hl] using hrest
    | _ => exact hrest

/-- With no fragment held, a room report is the Pair Controller's alone (R30, R48). -/
theorem roomReport_of_not_held {p : PairNo} {s : State} (h : s.disp.held = false) : roomReport p s = pairRoom p s := by
  have hd := (pairRoom_taken p s).disp
  simp only [roomReport, h, Bool.false_and, Bool.false_eq_true, if_false]
  exact redecide_of_not_held (by rw [hd, h])

/-- The state after a TAKEN, but for the last handover test: what was covered, then, where it has lowered the backlog, the
room report, and where an entry was retired, the start of the progress timer (R30, R54). -/
def afterTaken (p : PairNo) (covered m : Nat) (s : State) : State :=
  let s3 := if covered = 0 then s else pairRoom p s
  if m = 0 then s3 else startProgress p s3

/-- The counts are all that a TAKEN's cover changes of its pair's record (R28, R29). -/
theorem TakenApplied.record {p : PairNo} {n m : Nat} {s t : State} (h : TakenApplied p n m s t) :
    ∃ c, t.pair p = { s.pair p with counters := c } := by
  rw [h.pair]
  dsimp only
  split <;> exact ⟨_, rfl⟩

theorem TakenApplied.state {p : PairNo} {n m : Nat} {s t : State} (h : TakenApplied p n m s t) :
    (t.pair p).state = (s.pair p).state := by
  obtain ⟨c, hc⟩ := h.record
  rw [hc]

theorem takeTaken_eq {p : PairNo} {n : Nat} {s : State} {m : Nat} (h : TakenApplied p n m s (applyTaken p n s).1)
    (hret : (applyTaken p n s).2 = ((s.port p).queue.take m).map (·.frag)) (hheld : s.disp.held = false)
    (hleave : (s.pair p).state = .leaving →
      ∀ e ∈ (s.port p).queue, e.handed = true → ∀ why, e.frag ≠ .leave why) :
    takeTaken p n s = handover p (afterTaken p ((s.port p).coveredBy n) m (applyTaken p n s).1) := by
  have hc := h.covered
  have hempty : (applyTaken p n s).2.isEmpty = decide (m = 0) := by
    have := hc.count
    rw [hret, Bool.eq_iff_iff, List.isEmpty_iff, List.map_eq_nil_iff, List.take_eq_nil_iff, decide_eq_true_eq,
      ← List.length_eq_zero_iff]
    omega
  have hlowered : ((applyTaken p n s).1.port p).backlog < (s.port p).backlog ↔ (s.port p).coveredBy n ≠ 0 := by
    have := hc.coveredLe
    rw [hc.backlog]
    omega
  have htold : tellRetired p (applyTaken p n s).2 (applyTaken p n s).1 = (applyTaken p n s).1 := by
    refine tellRetired_of_no_leave fun hl f hf why => ?_
    rw [hret] at hf
    obtain ⟨e, he, rfl⟩ := List.mem_map.1 hf
    exact hleave (h.state ▸ hl) e (List.mem_of_mem_take he) (hc.handed e he) why
  have hroom := roomReport_of_not_held (p := p) (h.disp ▸ hheld : (applyTaken p n s).1.disp.held = false)
  unfold takeTaken afterTaken
  simp only [htold, hempty, hroom, hlowered]
  by_cases h0 : (s.port p).coveredBy n = 0
  · simp [h0, hc.none h0]
  · by_cases hm : m = 0 <;> simp [h0, hm]

/-- What the room report and the progress timer leave of a pair's record and line queue after a TAKEN. -/
theorem afterTaken_frame (p : PairNo) (covered m : Nat) (s : State) : PairFrame p s (afterTaken p covered m s) := by
  have h : PairFrame p s (if covered = 0 then s else pairRoom p s) := by
    split
    · exact PairFrame.refl p s
    · exact pairRoom_frame p s
  unfold afterTaken
  dsimp only
  split
  · exact h
  · exact h.trans (startProgress_frame p _)

@[simp] theorem startProgress_port (p q : PairNo) (s : State) : (startProgress p s).port q = s.port q := by
  unfold startProgress
  split <;> rfl

/-- The progress timer is all that its start can change of a pair's record (R54). -/
theorem startProgress_pair (p : PairNo) (s : State) : (startProgress p s).pair p =
    if s.isActive p && (s.port p).queue.isEmpty then
      { s.pair p with progressTimer := some (s.now + s.cfg.progressInterval) } else s.pair p := by
  unfold startProgress
  split <;> simp

/-- What may wait at a pair, in the order it is tried in (R48). -/
def State.waiting (s : State) (p : PairNo) : List (Option Fragment) :=
  [s.ackWaiting p, s.joinWaiting p, s.leaveWaiting p, s.renewalWaiting p]

/-- Which of them wait, as the pair's record notes it. -/
def Pair.waits (r : Pair) : List Bool := [r.waitAck.isSome, r.waitJoin, r.waitLeave.isSome, r.renewal]

theorem waiting_map_isSome (s : State) (p : PairNo) : (s.waiting p).map (·.isSome) = (s.pair p).waits := by
  have h : ∀ (b : Bool) (f : Fragment), (if b then some f else none).isSome = b := fun b f => by cases b <;> rfl
  simp [State.waiting, Pair.waits, State.ackWaiting, State.joinWaiting, State.leaveWaiting, State.renewalWaiting, h]

/-- What the line queue and the waiting fragments of a pair come to after a TAKEN that has left `frags` under the backlog
`backlog` (R30, R48). -/
def State.roomGiven (s : State) (p : PairNo) (covered : Nat) (frags : List Fragment) (backlog : Nat) :
    List Fragment × Nat × List Bool :=
  if covered = 0 then (frags, backlog, (s.waiting p).map (·.isSome))
  else (s.waiting p).foldl offered (frags, backlog, [])

/-- What waits at a pair is what waited before the cover of a TAKEN (R48). -/
theorem TakenApplied.waiting {p : PairNo} {n m : Nat} {s t : State} (h : TakenApplied p n m s t) :
    t.waiting p = s.waiting p := by
  obtain ⟨c, hc⟩ := h.record
  unfold State.waiting State.ackWaiting State.joinWaiting State.leaveWaiting State.renewalWaiting
  rw [hc, h.disp, h.frame.event.mgmt]

/-- The room that a TAKEN gives, said of the queue it found. -/
theorem TakenApplied.roomGiven {p : PairNo} {n m : Nat} {s t : State} (h : TakenApplied p n m s t) :
    let x := s.port p
    t.roomGiven p (x.coveredBy n) ((t.port p).queue.map (·.frag)) (t.port p).backlog =
      if x.coveredBy n = 0 then ((x.queue.drop m).map (·.frag), x.backlog, (s.waiting p).map (·.isSome))
      else (s.waiting p).foldl offered ((x.queue.drop m).map (·.frag), x.backlog - x.coveredBy n, []) := by
  intro x
  rw [State.roomGiven, h.waiting, h.covered.queue, h.covered.backlog]
  by_cases h0 : x.coveredBy n = 0
  · rw [if_pos h0, if_pos h0, h0, Nat.sub_zero]
  · rw [if_neg h0, if_neg h0]

/-- The pair `p` and its line queue as a room report has left them, if there was one (R30, R48). -/
structure RoomGiven (p : PairNo) (covered : Nat) (s t : State) : Prop where
  filled : Filled (s.pair p).state.gateOpen (s.port p)
    (s.roomGiven p covered ((s.port p).queue.map (·.frag)) (s.port p).backlog) (t.port p)
  waits : (t.pair p).waits = (s.roomGiven p covered ((s.port p).queue.map (·.frag)) (s.port p).backlog).2.2
  pair : t.pair p = { s.pair p with
    progressTimer := (t.pair p).progressTimer, outRef := (t.pair p).outRef,
    waitAck := (t.pair p).waitAck, waitJoin := (t.pair p).waitJoin,
    waitLeave := (t.pair p).waitLeave, renewal := (t.pair p).renewal }
  ack : (t.pair p).waitAck.isSome = true → (t.pair p).waitAck = (s.pair p).waitAck
  leave : (t.pair p).waitLeave.isSome = true → (t.pair p).waitLeave = (s.pair p).waitLeave

theorem roomGiven_spec (p : PairNo) (covered : Nat) (s : State) (h : LineQueueLaw (s.port p)) :
    RoomGiven p covered s (if covered = 0 then s else pairRoom p s) := by
  by_cases h0 : covered = 0
  · have hg : s.roomGiven p covered ((s.port p).queue.map (·.frag)) (s.port p).backlog =
        ((s.port p).queue.map (·.frag), (s.port p).backlog, (s.waiting p).map (·.isSome)) := if_pos h0
    rw [if_pos h0]
    refine ⟨?_, ?_, rfl, fun _ => rfl, fun _ => rfl⟩
    · rw [hg]
      exact Filled.refl h _ _
    · rw [hg]
      exact (waiting_map_isSome s p).symm
  · have hg : s.roomGiven p covered ((s.port p).queue.map (·.frag)) (s.port p).backlog =
        (s.waiting p).foldl offered ((s.port p).queue.map (·.frag), (s.port p).backlog, []) := if_neg h0
    have hr := pairRoom_taken p s
    obtain ⟨hfill, hw⟩ := hr.filled _ _ h (Filled.refl h _ []) rfl
    rw [if_neg h0]
    refine ⟨?_, ?_, hr.pair, hr.ack, hr.leave⟩
    · rw [hg]
      exact hfill
    · rw [hg]
      exact hw.symm

/-- What follows a TAKEN that has covered octets and retired `m` entries: the room report and the progress timer (R30,
R54). -/
theorem afterTaken_spec (p : PairNo) (covered m : Nat) (s : State) (h : LineQueueLaw (s.port p)) :
    RoomGiven p covered s (afterTaken p covered m s) ∧
      ((s.pair p).state = .active → m ≠ 0 → ((afterTaken p covered m s).port p).queue = [] →
        ((afterTaken p covered m s).pair p).progressTimer = some (s.now + s.cfg.progressInterval)) := by
  obtain ⟨s3, hs3⟩ : ∃ s3, s3 = if covered = 0 then s else pairRoom p s := ⟨_, rfl⟩
  have hroom : RoomGiven p covered s s3 := by
    rw [hs3]
    exact roomGiven_spec p covered s h
  have hcfg : s3.now = s.now ∧ s3.cfg = s.cfg := by
    rw [hs3]
    split
    · exact ⟨rfl, rfl⟩
    · exact ⟨(pairRoom_frame p s).now, (pairRoom_frame p s).event.cfg⟩
  obtain ⟨hfill, hwaits, hrec, hack, hleave⟩ := hroom
  have hstate : (s3.pair p).state = (s.pair p).state := by rw [hrec]
  simp only [afterTaken, ← hs3]
  split
  · exact ⟨⟨hfill, hwaits, hrec, hack, hleave⟩, fun _ hm => absurd ‹_› hm⟩
  · have hp := startProgress_port p p s3
    have hr := startProgress_pair p s3
    split at hr
    · refine ⟨⟨hp ▸ hfill, ?_, ?_, ?_, ?_⟩, fun _ _ _ => ?_⟩
      · rw [hr]
        exact hwaits
      · rw [hr, hrec]
      · rw [hr]
        exact hack
      · rw [hr]
        exact hleave
      · rw [hr, hcfg.1, hcfg.2]
    · rename_i hidle
      refine ⟨⟨hp ▸ hfill, hr ▸ hwaits, by rw [hr, ← hrec], hr ▸ hack, hr ▸ hleave⟩, fun ha _ hq => absurd ?_ hidle⟩
      rw [hp] at hq
      simp [State.isActive, hstate, ha, hq]

/-- What the handover test makes of a port whose HANDED entries come first, in the words of statements (R26, R27). -/
theorem Parts.handedOver {x : Port} {handed staged : List Entry} (hp : Parts x handed staged) (p : PairNo) (s : State) :
    HandedOver (s.pair p).state.gateOpen x.sent x.queue x.residue (x.handAll (s.pair p).state.gateOpen) := by
  have hx : (s.setPort p x).port p = x := port_setPort p x s
  have h := handover_handedOver (p := p) (s := s.setPort p x) (by rw [hx]; exact hp.queue) hp.handed hp.staged
  rw [handover_port_self, hx, pair_setPort] at h
  exact h

/-- The trials and the handovers between them come to one handover of all that was placed (R27, R48). -/
theorem Filled.handedOver {x y : Port} {q : List Fragment × Nat × List Bool} {p : PairNo} {s : State}
    (hx : LineQueueLaw x) (h : Filled (s.pair p).state.gateOpen x q y) :
    let z := y.handAll (s.pair p).state.gateOpen
    z.residue = x.residue ∧
      HandedOver (s.pair p).state.gateOpen x.sent (x.queue ++ (q.1.drop x.queue.length).map Entry.staged) z.residue z := by
  obtain ⟨handed, staged, hp⟩ := hx.parts
  obtain ⟨fs, hfs, hlate⟩ := h.late
  have hfs' : q.1.drop x.queue.length = fs := by
    rw [hfs, List.drop_left' (by simp)]
  have hres := ((x.append fs).handAll_keeps (s.pair p).state.gateOpen).2.2
  intro z
  have hz : z = (x.append fs).handAll (s.pair p).state.gateOpen := hlate
  rw [hfs', hz, hres]
  exact ⟨rfl, (hp.append fs).handedOver p s⟩

theorem decide_gateOpen (st : PairState) :
    decide (st = .settling ∨ st = .joining ∨ st = .active ∨ st = .leaving) = st.gateOpen := by
  cases st <;> rfl

theorem pair_counter_countBy_ne {c d : PairCounter} (h : d.place ≠ c.place) (n : Nat) (r : Pair) :
    (r.countBy c n).counter d = r.counter d := by
  have : c.place.val ≠ d.place.val := fun e => h (Fin.ext e.symm)
  simp [Pair.counter, Pair.countBy, this]

/-- The counts of a TAKEN, counter by counter (R28, R29). -/
theorem takenCounts_counter {r r' : Pair} {n total k : Nat}
    (h : r' = if n ≤ total then (r.countBy .octetsSent (min n total)).countBy .fragmentsSent k
      else ((r.countBy .octetsSent (min n total)).countBy .fragmentsSent k).countBy .takenExcess 1) :
    r'.counter .octetsSent = countUp (r.counter .octetsSent) (min n total) ∧
      r'.counter .fragmentsSent = countUp (r.counter .fragmentsSent) k ∧
      r'.counter .takenExcess =
        if total < n then countUp (r.counter .takenExcess) 1 else r.counter .takenExcess := by
  have h1 : PairCounter.octetsSent.place ≠ PairCounter.fragmentsSent.place := by decide
  have h2 : PairCounter.octetsSent.place ≠ PairCounter.takenExcess.place := by decide
  have h3 : PairCounter.fragmentsSent.place ≠ PairCounter.takenExcess.place := by decide
  by_cases hn : n ≤ total
  · rw [if_pos hn] at h
    rw [h, if_neg (Nat.not_lt.2 hn)]
    simp [pair_counter_countBy_ne h1, pair_counter_countBy_ne h1.symm, pair_counter_countBy_ne h2.symm,
      pair_counter_countBy_ne h3.symm]
  · rw [if_neg hn] at h
    rw [h, if_pos (Nat.not_le.1 hn)]
    simp [pair_counter_countBy_ne h1, pair_counter_countBy_ne h1.symm, pair_counter_countBy_ne h2,
      pair_counter_countBy_ne h2.symm, pair_counter_countBy_ne h3, pair_counter_countBy_ne h3.symm]

/-- A TAKEN that counts octets is taken (R22). -/
theorem exec_taken {p : PairNo} {n : BitVec 16} {s : State} (hf : p.val < s.mgmt.fitted)
    (hp : (s.port p).present = true) (hn : n ≠ 0) : exec (.taken p n) s = .next (takeTaken p n.toNat s) := by
  have hl : s.listening p = true := by simp [State.listening, State.isFitted, hf, hp]
  exact congrArg Host.Outcome.next (if_pos (Bool.and_eq_true_iff.2 ⟨hl, bne_iff_ne.2 hn⟩))

/-- Settles O30: the cover of residue and queue (R28, R29), then the trials of what waits against the room it left (R48),
and one handover of all that was placed (R27). -/
theorem takenCoversInOrder : Obligations.TakenCoversInOrder := by
  unfold Obligations.TakenCoversInOrder
  intro s p n hf hp hn hheld hlaw hleave x r queued total covered wanting put
  obtain ⟨m, happ, hret⟩ := applyTaken_spec p n.toNat s hlaw
  have hexec := exec_taken hf hp hn
  rw [takeTaken_eq happ hret hheld hleave] at hexec
  generalize (applyTaken p n.toNat s).1 = s1 at *
  have hc := happ.covered
  have hgate : (s1.pair p).state = r.state := happ.state
  obtain ⟨counters, hcount⟩ := happ.record
  obtain ⟨⟨hfill, hwaits, hrec, hack, hlv⟩, htimer⟩ := afterTaken_spec p covered m s1 hc.law
  have hall := (happ.frame.trans (afterTaken_frame p covered m s1)).trans (handover_frame p _)
  change exec _ s = .next (handover p (afterTaken p covered m s1)) at hexec
  generalize afterTaken p covered m s1 = u at *
  have hput : put = offered := by
    funext q f
    cases f <;> rfl
  have hgiven : s1.roomGiven p covered ((s1.port p).queue.map (·.frag)) (s1.port p).backlog =
      if covered = 0 then ((x.queue.drop m).map (·.frag), x.backlog, wanting.map (·.isSome))
      else wanting.foldl put ((x.queue.drop m).map (·.frag), x.backlog - covered, []) := by
    rw [hput]
    exact happ.roomGiven
  rw [hgiven] at hfill hwaits
  rw [hgate] at hfill
  obtain ⟨hres, hover⟩ := hfill.handedOver hc.law
  have ht : (handover p u).port p = (u.port p).handAll r.state.gateOpen := by
    rw [handover_port_self, hrec]
    exact congrArg (fun st => Port.handAll (PairState.gateOpen st) _) hgate
  have hcounter : ∀ c, (u.pair p).counter c = (s1.pair p).counter c := fun c => by
    rw [hrec]
    rfl
  obtain ⟨hoctets, hsent, hexcess⟩ := takenCounts_counter happ.pair
  refine ⟨handover p u, m, hexec, hall.now, hall.life, ⟨?_, ?_, ?_, ?_, ?_, ?_⟩, ?_, ?_, ?_, ?_, ?_, ?_, ?_, ?_⟩
  all_goals simp only [handover_pair, ht]
  · exact (Port.handAll_keeps _ _).1.trans hfill.frags
  · exact (Port.handAll_backlog _ _).trans hfill.backlog
  · rw [hc.sent, hc.queue, List.length_drop] at hover
    rw [decide_gateOpen]
    exact hover
  · exact hwaits
  · rwa [hcount] at hack
  · rwa [hcount] at hlv
  · rw [hrec]
    exact hgate
  · rw [hrec, hcount]
  · rw [hcounter, hoctets]
    rfl
  · rw [hcounter, hsent, hres]
  · rw [hcounter, hexcess]
    rfl
  · rw [hres]
    exact hc.residueSum
  · exact hfill.law.handAll _
  · intro ha hk hq
    rw [htimer (hgate.trans ha) hk ?_, happ.frame.now, happ.frame.event.cfg]
    have := Port.handAll_length (u.port p) r.state.gateOpen
    rw [hq] at this
    exact List.eq_nil_of_length_eq_zero this.symm

end Sys2Proof.Machine

/-! PROOFS. What the inbound path leaves of the outbound half: its cells and the dispatcher's three counters. -/

namespace Sys2Proof.Machine

/-- The counters of the Fragment Dispatcher (10.4). -/
def BondCounter.isDispatch : BondCounter → Bool
  | .fragmentsDispatched | .framesDispatched | .dispatchHolds => true
  | _ => false

/-- The outbound cells in use and the dispatcher's counters stand as they stood. -/
structure OutboundKept (s t : State) : Prop where
  usedOut : t.cells.usedOut = s.cells.usedOut
  counter : ∀ c : BondCounter, c.isDispatch = true → t.counter c = s.counter c

theorem OutboundKept.refl (s : State) : OutboundKept s s := ⟨rfl, fun _ _ => rfl⟩

theorem OutboundKept.trans {s t u : State} (h : OutboundKept s t) (k : OutboundKept t u) : OutboundKept s u :=
  ⟨k.usedOut.trans h.usedOut, fun c hc => (k.counter c hc).trans (h.counter c hc)⟩

/-- What leaves cells and counters alone leaves the outbound half alone. -/
theorem OutboundKept.of_eq {s t : State} (hc : t.cells = s.cells) (hn : t.counters = s.counters) : OutboundKept s t :=
  ⟨by rw [hc], fun c _ => by simp [State.counter, hn]⟩

/-- The dispatcher's counters stand together in the bond group (10.4). -/
theorem isDispatch_iff (c : BondCounter) : c.isDispatch = true ↔ 17 ≤ c.place.val ∧ c.place.val ≤ 19 := by
  cases c with
  | queueFull c =>
    have := c.isLt
    simp only [BondCounter.isDispatch, BondCounter.place, Bool.false_eq_true, false_iff]
    omega
  | _ => simp [BondCounter.isDispatch, BondCounter.place]

theorem countBy_outbound {c : BondCounter} (h : c.isDispatch = false) (n : Nat) (s : State) :
    OutboundKept s (s.countBy c n) := by
  refine ⟨rfl, fun d hd => counter_countBy_ne (fun hp => ?_) n s⟩
  rw [isDispatch_iff, hp, ← isDispatch_iff, h] at hd
  cases hd

theorem raise_outbound (i : NoticeInst) (s : State) : OutboundKept s (s.raise i) := .of_eq (by simp) (by simp)

/-! ### Cell Memory -/

theorem evalPressure_outbound (s : State) : OutboundKept s (evalPressure s) := by
  refine ⟨evalPressure_usedOut s, fun c hc => ?_⟩
  unfold evalPressure
  split
  · rfl
  · dsimp only
    split
    · exact (countBy_outbound (c := .pressureEntries) rfl 1 s).counter c hc
    · rfl

theorem evalLevel_outbound (s : State) : OutboundKept s (evalLevel s) := by
  refine ⟨evalLevel_usedOut s, fun c hc => ?_⟩
  unfold evalLevel
  split
  · rfl
  · exact (raise_outbound .storeLevel s).counter c hc

theorem evaluate_outbound (s : State) : OutboundKept s (evaluate s) :=
  (evalPressure_outbound s).trans (evalLevel_outbound _)

theorem returnCells_outbound (n : Nat) (s : State) : OutboundKept s (returnCells .inbound n s) := by
  refine OutboundKept.trans ?_ (evaluate_outbound _)
  exact ⟨rfl, fun _ _ => rfl⟩

theorem requestCells_outbound {n : Nat} {s t : State} (h : requestCells .inbound n s = some t) : OutboundKept s t := by
  unfold requestCells at h
  split at h
  · injection h with h
    subst h
    refine OutboundKept.trans ?_ (evaluate_outbound _)
    exact ⟨rfl, fun _ _ => rfl⟩
  · cases h

/-! ### Frame Assembler -/

theorem setAsm_outbound (a : Assembler) (s : State) : OutboundKept s (s.setAsm a) := .of_eq rfl rfl

theorem modRx_outbound (f : Receiver → Receiver) (s : State) : OutboundKept s (s.modRx f) := .of_eq rfl rfl

theorem setNes_outbound (q : Seq) (s : State) : OutboundKept s (s.setNes q) := .of_eq rfl rfl

/-- A discard of inbound cells with a count. -/
theorem count_return_outbound {c : BondCounter} (h : c.isDispatch = false) (n : Nat) (s : State) :
    OutboundKept s (returnCells .inbound n (s.count c)) :=
  (countBy_outbound h 1 s).trans (returnCells_outbound n _)

theorem lanAccept_outbound (f : LanFrame) (s : State) : OutboundKept s (lanAccept f s) := by
  unfold lanAccept
  split
  · split
    · exact count_return_outbound rfl _ s
    · exact .of_eq rfl rfl
  · exact count_return_outbound rfl _ s

theorem asmComplete_outbound (octets : List Octet) (n : Nat) (s : State) :
    OutboundKept s (asmComplete octets n s) := by
  unfold asmComplete
  split
  · exact (setAsm_outbound _ s).trans (count_return_outbound rfl _ _)
  · exact ((setAsm_outbound _ s).trans (countBy_outbound rfl 1 _)).trans (lanAccept_outbound _ _)

theorem asmKeep_outbound (soFar : List Octet) (held : Nat) (r : FragRecord) (s : State) :
    OutboundKept s (asmKeep soFar held r s) := by
  unfold asmKeep
  dsimp only
  split
  · exact ((setAsm_outbound _ s).trans (count_return_outbound rfl _ _)).trans (returnCells_outbound _ _)
  · split
    · exact (((setAsm_outbound _ s).trans (returnCells_outbound _ _)).trans (returnCells_outbound _ _)).trans
        (countBy_outbound rfl 1 _)
    · rename_i s' h
      have h' : OutboundKept s s' := by
        split at h
        · injection h with h
          exact h ▸ OutboundKept.refl s
        · exact requestCells_outbound h
      have hk := (h'.trans (setAsm_outbound (.collecting (soFar ++ r.payload) (cellsFor (soFar ++ r.payload).length)) _)).trans
        (returnCells_outbound r.cells _)
      split
      · exact hk.trans (asmComplete_outbound _ _ _)
      · exact hk

theorem asmDiscard_outbound {c : BondCounter} (h : c.isDispatch = false) (s : State) :
    OutboundKept s (asmDiscard c s) := by
  unfold asmDiscard
  split
  · exact count_return_outbound h _ s
  · exact .refl s

theorem asmTake_outbound (r : FragRecord) (s : State) : OutboundKept s (asmTake r s) := by
  unfold asmTake
  split
  · exact (asmDiscard_outbound rfl s).trans (asmKeep_outbound _ _ _ _)
  · exact count_return_outbound rfl _ s
  · exact asmKeep_outbound _ _ _ _
  · dsimp only
    refine OutboundKept.trans (OutboundKept.trans ?_ (setAsm_outbound _ _)) (returnCells_outbound _ _)
    split
    · exact .refl s
    · exact countBy_outbound rfl 1 s

theorem asmLoss_outbound (s : State) : OutboundKept s (asmLoss s) := by
  unfold asmLoss
  split
  · exact setAsm_outbound _ s
  · exact (asmDiscard_outbound rfl s).trans (setAsm_outbound _ _)
  · exact .refl s

theorem asmResync_outbound (s : State) : OutboundKept s (asmResync s) :=
  (asmDiscard_outbound rfl s).trans (setAsm_outbound _ _)

/-! ### Reorder Engine -/

theorem recordGap_outbound (g : GapRecord) (s : State) : OutboundKept s (recordGap g s) := by
  unfold recordGap
  split
  · split
    · exact modRx_outbound _ s
    · split
      · exact modRx_outbound _ s
      · exact countBy_outbound rfl 1 s
  · exact (modRx_outbound _ s).trans (raise_outbound _ _)

theorem declareTo_outbound (q : Seq) (cause : LossCause) (s : State) : OutboundKept s (declareTo q cause s) :=
  (((asmLoss_outbound s).trans (recordGap_outbound _ _)).trans (countBy_outbound rfl _ _)).trans (setNes_outbound _ _)

theorem handOn_outbound (r : FragRecord) (s : State) : OutboundKept s (handOn r s) :=
  ((asmTake_outbound r s).trans (modRx_outbound _ _)).trans (setNes_outbound _ _)

theorem gapMove_outbound {s t : State} (h : gapMove s = some t) : OutboundKept s t := by
  unfold gapMove at h
  split at h
  · cases h
  · split at h
    · injection h with h
      subst h
      split
      · exact modRx_outbound _ s
      · exact handOn_outbound _ s
    · split at h
      · injection h with h
        subst h
        exact declareTo_outbound _ _ s
      · cases h

theorem gapMoves_outbound (n : Nat) (s : State) : OutboundKept s (gapMoves n s) := by
  induction n generalizing s with
  | zero => exact .refl s
  | succ n ih =>
    unfold gapMoves
    split
    · exact .refl s
    · exact (gapMove_outbound ‹_›).trans (ih _)

theorem gapTimerStep_outbound (s : State) : OutboundKept s (gapTimerStep s) := by
  unfold gapTimerStep
  split
  · split
    · exact modRx_outbound _ s
    · exact .refl s
  · exact modRx_outbound _ s

theorem flushStep_outbound (s : State) : OutboundKept s (flushStep s) := by
  unfold flushStep
  split
  · split
    · exact (modRx_outbound _ s).trans (raise_outbound _ _)
    · exact .refl s
  · exact .refl s

theorem unsyncStep_outbound (s : State) : OutboundKept s (unsyncStep s) := by
  unfold unsyncStep
  split
  · exact (modRx_outbound _ s).trans (asmResync_outbound _)
  · exact .refl s

/-- A gap step leaves the outbound half alone (R149). -/
theorem gapStep_outbound (s : State) : OutboundKept s (gapStep s) :=
  (((gapMoves_outbound _ s).trans (gapTimerStep_outbound _)).trans (flushStep_outbound _)).trans (unsyncStep_outbound _)

theorem takeTells_outbound (n : Nat) (s : State) : OutboundKept s (takeTells n s) := by
  induction n generalizing s with
  | zero => exact .refl s
  | succ n ih =>
    unfold takeTells
    split
    · exact .refl s
    · refine OutboundKept.trans (OutboundKept.trans ?_ (gapStep_outbound _)) (ih _)
      exact ⟨rfl, fun _ _ => rfl⟩

/-- The pressure events taken leave the outbound half alone (R152). -/
theorem drainTells_outbound (s : State) : OutboundKept s (drainTells s) := takeTells_outbound _ s

/-! ### A frame admitted to the standing request (R84, R90, R96, R100) -/

/-- The frame that an admission makes of octets without their FCS (R95, R96). -/
def State.offeredFrame (s : State) (f : List Octet) : OutFrame :=
  { octets := f, cells := ceilDiv f.length 128, admitted := s.now, order := s.nextOrder }

/-- The state `w` is `s` with a frame of `n` cells admitted: all of the outbound half but its cells and the admission order
is as it was. -/
structure AdmittedTo (s : State) (n : Nat) (w : State) : Prop where
  frame : InboundFrame { s with nextOrder := s.nextOrder + 1, freeCount := w.freeCount } w
  usedOut : w.cells.usedOut = s.cells.usedOut + n
  counter : ∀ c : BondCounter, c.isDispatch = true → w.counter c = s.counter c

/-- A run that ends with its own FCS agrees with it (R84). -/
theorem fcsAgrees_append (f : List Octet) : fcsAgrees (f ++ fcsOctets f) = true := by
  have h : (f ++ fcsOctets f).length - 4 = f.length := by simp [fcsOctets]
  rw [fcsAgrees, h, List.take_left' rfl, List.drop_left' rfl]
  exact beq_self_eq_true _

/-- A good frame is classified without its FCS (R84, R90). -/
theorem exec_lanFrameReceived_good {f : List Octet} (hmin : 60 ≤ f.length) (hmax : f.length ≤ 1518) (s : State) :
    exec (.lanFrameReceived (f ++ fcsOctets f) false) s = .next (ingress f (s.count .lanFramesReceived)) := by
  have hl : (f ++ fcsOctets f).length = f.length + 4 := by simp [fcsOctets]
  have ht : (f ++ fcsOctets f).take (f.length + 4 - 4) = f := List.take_left' rfl
  have h1 : ¬1522 < f.length + 4 := by omega
  have h2 : ¬f.length + 4 < 64 := by omega
  simp only [exec, execLanFrameReceived, fcsAgrees_append, hl, ht, if_neg h1, if_neg h2]
  rfl

/-- A frame that no rule matches takes the default class (R90). -/
theorem ingress_default {f : List Octet} {s : State}
    (h : ∀ i : Fin 64, (s.rule i).matchesHeader (headerOf f) = false) :
    ingress f s = admitFrame s.cfg.defaultClass f s := by
  have hw : winner s (headerOf f) = none := List.find?_eq_none.2 fun i _ => by simp [h i]
  simp [ingress, classify, hw]

theorem mem_allPairs (p : PairNo) : p ∈ allPairs := by
  revert p
  decide

theorem activeCount_ne_zero {s : State} {p : PairNo} (h : (s.pair p).state = .active) : s.activeCount ≠ 0 := by
  intro h0
  exact List.countP_eq_zero.1 h0 p (mem_allPairs p) (by simp [State.isActive, h])

/-- An outbound request that is within what the side can allocate is granted (R74). -/
theorem requestCells_outbound_granted {n : Nat} {s : State} (h : n ≤ s.cells.availOut) :
    ∃ t, requestCells .outbound n s = some t ∧ CellsFrame s t ∧ t.cells.usedOut = s.cells.usedOut + n ∧
      ∀ c : BondCounter, c.isDispatch = true → t.counter c = s.counter c := by
  have hr : requestCells .outbound n s = some (evaluate { s with cells := { s.cells with usedOut := s.cells.usedOut + n } }) :=
    if_pos h
  exact ⟨_, hr, (requestCells_frame hr).2, evaluate_usedOut _, fun c hc => (evaluate_outbound _).counter c hc⟩

/-- A free value used up and pressure events taken leave an admission what it was (R75) [8]. -/
theorem AdmittedTo.drained {s w : State} {n : Nat} (h : AdmittedTo s n w) :
    AdmittedTo s n w.race.2 ∧ AdmittedTo s n (drainTells w) := by
  have hf := h.frame
  refine ⟨⟨⟨hf.pending, hf.now, hf.mgmt, hf.cfg, hf.ports, hf.pairs, hf.rules, hf.classes, hf.nextOrder, hf.disp, hf.lan,
    rfl⟩, h.usedOut, h.counter⟩, ⟨?_, ?_, fun c hc => ?_⟩⟩
  · have hd := drainTells_frame w
    rw [hd.freeCount]
    exact hf.trans hd
  · rw [(drainTells_outbound w).usedOut, h.usedOut]
  · rw [(drainTells_outbound w).counter c hc, h.counter c hc]

/-- A standing request takes the admitted frame, whichever block acts first (R100) [8]. -/
theorem admitted_standing {s s' : State} {c : Fin 4} {g : OutFrame} {n : Nat} (hstand : s'.disp.standing = true)
    (h : AdmittedTo s n s') : ∃ w, AdmittedTo s n w ∧ admitted c g s' = dispatch (beginSplit g w) := by
  have hr := h.drained.1
  unfold admitted
  rw [if_pos hstand]
  cases s'.cells.tells.isEmpty with
  | true => exact ⟨s', h, rfl⟩
  | false =>
    cases hb : s'.race.1 with
    | true => exact ⟨s'.race.2, hr, by simp [hb]⟩
    | false => exact ⟨drainTells s'.race.2, hr.drained.2, by simp [hb]⟩

/-- A frame with a path, a place and cells is admitted (R96). -/
theorem admitFrame_granted {c : Fin 4} {f : List Octet} {s s' : State} (hactive : s.activeCount ≠ 0)
    (hfull : (s.cls c).full = false) (hreq : requestCells .outbound (ceilDiv f.length 128) s = some s') :
    admitFrame c f s = admitted c (s.offeredFrame f) { s' with nextOrder := s.nextOrder + 1 } := by
  have hreq' : requestCells .outbound (cellsFor f.length) s = some s' := hreq
  simp only [admitFrame, if_neg hactive, hfull, hreq']
  rfl

/-- A good frame that no rule matches, offered to an empty class queue while a request for a frame stands and a pair is
ACTIVE, is taken as the frame being split (R90, R96, R100, R105). -/
theorem exec_lanFrameReceived_standing {s : State} {f : List Octet} {p : PairNo} (hmin : 60 ≤ f.length)
    (hmax : f.length ≤ 1518) (hrules : ∀ i : Fin 64, (s.rule i).matchesHeader (headerOf f) = false)
    (hframes : ∀ k, (s.cls k).frames = []) (hlimit : 1 ≤ (s.cls s.cfg.defaultClass).limit)
    (hcells : ceilDiv f.length 128 ≤ s.cells.availOut) (hstand : s.disp.standing = true)
    (hp : (s.pair p).state = .active) :
    ∃ w, AdmittedTo s (ceilDiv f.length 128) w ∧
      exec (.lanFrameReceived (f ++ fcsOctets f) false) s = .next (dispatch (beginSplit (s.offeredFrame f) w)) := by
  obtain ⟨s', hreq, hframe, hused, hcount⟩ :=
    requestCells_outbound_granted (s := s.count .lanFramesReceived) hcells
  have hactive : (s.count .lanFramesReceived).activeCount ≠ 0 := activeCount_ne_zero hp
  have hfull : ((s.count .lanFramesReceived).cls s.cfg.defaultClass).full = false := by
    have h0 : ((s.count .lanFramesReceived).cls s.cfg.defaultClass).frames = [] := hframes _
    simp only [ClassQueue.full, h0]
    exact decide_eq_false (Nat.not_le.2 hlimit)
  have hkept : AdmittedTo s (ceilDiv f.length 128) { s' with nextOrder := s.nextOrder + 1 } := by
    refine ⟨?_, hused, fun c hc => (hcount c hc).trans ?_⟩
    · have h := (count_frame .lanFramesReceived s).trans hframe
      exact ⟨h.pending, h.now, h.mgmt, h.cfg, h.ports, h.pairs, h.rules, h.classes, rfl, h.disp,
        h.inbound.lan, rfl⟩
    · exact (countBy_outbound (c := .lanFramesReceived) rfl 1 s).counter c hc
  have hstand' : s'.disp.standing = true := by
    rw [hframe.disp]
    exact hstand
  obtain ⟨w, hw, hdispatch⟩ := admitted_standing (s' := { s' with nextOrder := s.nextOrder + 1 })
    (c := s.cfg.defaultClass) (g := s.offeredFrame f) hstand' hkept
  refine ⟨w, hw, ?_⟩
  have hdefault : ingress f (s.count .lanFramesReceived) = admitFrame s.cfg.defaultClass f (s.count .lanFramesReceived) :=
    ingress_default hrules
  rw [exec_lanFrameReceived_good hmin hmax, hdefault]
  exact congrArg _ ((admitFrame_granted hactive hfull hreq).trans hdispatch)

end Sys2Proof.Machine

/-! PROOFS. The moves of the Fragment Dispatcher, each said once: a fragment placed, the renewal tests, and the end of a run
(R105, R113 to R117, R9). -/

namespace Sys2Proof.Machine

/-! ### A fragment placed (R115) -/

@[simp] theorem handover_counters (p : PairNo) (s : State) : (handover p s).counters = s.counters := by
  unfold handover
  split <;> rfl

@[simp] theorem handover_cells (p : PairNo) (s : State) : (handover p s).cells = s.cells := by
  unfold handover
  split <;> rfl

@[simp] theorem handover_classes (p : PairNo) (s : State) : (handover p s).classes = s.classes := by
  unfold handover
  split <;> rfl

@[simp] theorem stage_counters (p : PairNo) (f : Fragment) (s : State) : (stage p f s).counters = s.counters :=
  handover_counters p _

@[simp] theorem stage_cells (p : PairNo) (f : Fragment) (s : State) : (stage p f s).cells = s.cells := handover_cells p _

@[simp] theorem stage_classes (p : PairNo) (f : Fragment) (s : State) : (stage p f s).classes = s.classes :=
  handover_classes p _

/-- The state `t` is `s` with the current fragment of `plan` placed on pair `p` (R115). -/
structure FragmentPlaced (p : PairNo) (plan : SplitPlan) (s t : State) : Prop where
  disp : t.disp = { s.disp with next := s.disp.next + 1, split := some plan.advance, held := false, midRun := false }
  port : t.port p = ((s.port p).append [plan.fragment s.disp.next]).handAll (s.pair p).state.gateOpen
  pair : t.pair p = { s.pair p with progressTimer := none, outRef := some (s.disp.next + 1), renewal := false }
  ports : ∀ q, q ≠ p → t.port q = s.port q
  pairs : ∀ q, q ≠ p → t.pair q = s.pair q
  classes : t.classes = s.classes
  cells : t.cells = s.cells
  dispatched : t.counter .fragmentsDispatched = countUp (s.counter .fragmentsDispatched) 1
  counter : ∀ c : BondCounter, c.place ≠ BondCounter.fragmentsDispatched.place → t.counter c = s.counter c

theorem placeFragment_placed (p : PairNo) (plan : SplitPlan) (s : State) :
    FragmentPlaced p plan s (placeFragment p plan s) := by
  unfold placeFragment
  have hs := stage_frame p (plan.fragment s.disp.next)
    (s.modDisp fun d => { d with next := d.next + 1, split := some plan.advance, held := false, midRun := false })
  constructor
  · simp [State.count, State.countBy, State.modPair, State.setPair, State.modDisp]
  · rw [port_count, port_modPair, stage_port_self]
    rfl
  · rw [pair_count, pair_modPair, stage_pair]
    rfl
  · exact fun q hq => (hs.ports q hq).trans rfl
  · intro q hq
    rw [pair_count, pair_modPair_ne hq]
    exact hs.pairs q hq
  · simp [State.count, State.countBy, State.modPair, State.setPair, State.modDisp]
  · simp [State.count, State.countBy, State.modPair, State.setPair, State.modDisp]
  · rw [State.count, counter_countBy]
    simp [State.counter, State.modPair, State.setPair, State.modDisp]
  · intro c hc
    rw [State.count, counter_countBy_ne hc]
    simp [State.counter, State.modPair, State.setPair, State.modDisp]

/-! ### The renewal tests (R9) -/

/-- What the renewal test makes of an ACTIVE pair and its port: a renewal due or pending is placed where there is room, and
is pending where there is none (R9). -/
def renewedAt (next : Seq) (x : Port) (r : Pair) : Port × Pair :=
  if r.state = .active ∧ (r.renewal = true ∨ ∃ ref, r.outRef = some ref ∧ 4096 ≤ dist next ref) then
    if x.hasRoom 8 then
      ((x.append [.progress next]).handAll true, { r with progressTimer := none, outRef := some next, renewal := false })
    else (x, { r with renewal := true })
  else (x, r)

/-- What renewal tests leave alone beside pairs and ports. -/
structure RenewalFrame (s t : State) : Prop where
  disp : t.disp = s.disp
  counters : t.counters = s.counters
  cells : t.cells = s.cells
  classes : t.classes = s.classes

theorem RenewalFrame.refl (s : State) : RenewalFrame s s := ⟨rfl, rfl, rfl, rfl⟩

theorem RenewalFrame.trans {s t u : State} (h : RenewalFrame s t) (k : RenewalFrame t u) : RenewalFrame s u :=
  ⟨k.disp.trans h.disp, k.counters.trans h.counters, k.cells.trans h.cells, k.classes.trans h.classes⟩

theorem modPair_renewalFrame (p : PairNo) (g : Pair → Pair) (s : State) : RenewalFrame s (s.modPair p g) :=
  ⟨rfl, rfl, rfl, rfl⟩

theorem stage_modPair_renewalFrame (p : PairNo) (f : Fragment) (g : Pair → Pair) (s : State) :
    RenewalFrame s ((stage p f s).modPair p g) := by
  refine ⟨stage_disp p f s, stage_counters p f s, stage_cells p f s, stage_classes p f s⟩

theorem placeProgress_renewalFrame (p : PairNo) (s : State) : RenewalFrame s (placeProgress p s) := by
  unfold placeProgress
  split
  · obtain ⟨-, rfl⟩ := place_frame ‹_›
    exact stage_modPair_renewalFrame p _ _ s
  · exact .refl s

theorem renewalTest_renewalFrame (p : PairNo) (s : State) : RenewalFrame s (renewalTest p s) := by
  unfold renewalTest
  split
  · exact (modPair_renewalFrame p _ s).trans (placeProgress_renewalFrame p _)
  · exact .refl s

theorem renewalTests_renewalFrame (s : State) : RenewalFrame s (renewalTests s) :=
  forPairs_induct (P := RenewalFrame s) (fun p _ h => h.trans (renewalTest_renewalFrame p _)) s (.refl s)

/-- A renewal is due or pending at an ACTIVE pair (R9). -/
theorem renewalPends_iff (s : State) (p : PairNo) : (s.isActive p && s.renewalPends p) = true ↔
    (s.pair p).state = .active ∧
      ((s.pair p).renewal = true ∨ ∃ ref, (s.pair p).outRef = some ref ∧ 4096 ≤ dist s.disp.next ref) := by
  have hd : ∀ n, decide (Config.renewalDistance ≤ n) = true ↔ 4096 ≤ n := fun _ => decide_eq_true_iff
  cases h : (s.pair p).outRef <;>
    simp +contextual [State.renewalPends, State.renewalDue, State.isActive, h, -decide_eq_true_eq, hd]

/-- A PROGRESS that finds room is placed, and none that finds none (R9). -/
theorem placeProgress_at (p : PairNo) (s : State) :
    (placeProgress p s).port p = (if (s.port p).hasRoom 8 then
      ((s.port p).append [.progress s.disp.next]).handAll (s.pair p).state.gateOpen else s.port p) ∧
    (placeProgress p s).pair p = (if (s.port p).hasRoom 8 then
      { s.pair p with progressTimer := none, outRef := some s.disp.next, renewal := false } else s.pair p) := by
  have hsize : (Fragment.progress s.disp.next).size = 8 := rfl
  unfold placeProgress
  cases hr : (s.port p).hasRoom 8 with
  | true =>
    rw [place_of_room (hsize ▸ hr)]
    exact ⟨(port_modPair p p _ _).trans (stage_port_self p _ s), by
      rw [pair_modPair, stage_pair]
      rfl⟩
  | false =>
    rw [place_of_full (hsize ▸ hr)]
    exact ⟨rfl, rfl⟩

/-- A renewal test acts on its own pair as `renewedAt` says (R9). -/
theorem renewalTest_at (p : PairNo) (s : State) :
    ((renewalTest p s).port p, (renewalTest p s).pair p) = renewedAt s.disp.next (s.port p) (s.pair p) := by
  unfold renewalTest renewedAt
  simp only [renewalPends_iff]
  split
  · rename_i h
    obtain ⟨hport, hpair⟩ := placeProgress_at p (s.modPair p fun r => { r with renewal := true })
    rw [hport, hpair]
    simp only [port_modPair, pair_modPair, modPair_disp, h.1, PairState.gateOpen]
    split <;> rfl
  · rfl

/-- Tests made for pairs in turn act on each of them as one test does, and on no other pair (R9). -/
theorem foldl_renewalTest_at (l : List PairNo) (hl : l.Nodup) (s : State) (q : PairNo) :
    let t := l.foldl (fun s p => renewalTest p s) s
    (t.port q, t.pair q) = if q ∈ l then renewedAt s.disp.next (s.port q) (s.pair q) else (s.port q, s.pair q) := by
  induction l generalizing s with
  | nil => rfl
  | cons p l ih =>
    obtain ⟨hp, hl⟩ := List.nodup_cons.1 hl
    have h := ih hl (renewalTest p s)
    simp only [List.foldl_cons, (renewalTest_renewalFrame p s).disp] at h ⊢
    rw [h]
    by_cases hq : q = p
    · subst hq
      rw [if_neg hp, if_pos (by simp), renewalTest_at]
    · rw [(renewalTest_pairFrame p s).ports q hq, (renewalTest_pairFrame p s).pairs q hq]
      simp [hq]

/-- The renewal tests of all pairs, pair by pair (R9, R115). -/
theorem renewalTests_at (s : State) (q : PairNo) :
    ((renewalTests s).port q, (renewalTests s).pair q) = renewedAt s.disp.next (s.port q) (s.pair q) :=
  (foldl_renewalTest_at allPairs (by decide) s q).trans (if_pos (mem_allPairs q))

/-! ### The end of a run (R104, R105) -/

/-- Where every class is empty, no frame is selected (R99). -/
theorem selectFrame_of_empty {s : State} (h : ∀ k, (s.cls k).frames = []) : selectFrame s = none := by
  have hp : priorityChoice s = none := List.find?_eq_none.2 fun k _ => by simp [h k]
  simp [selectFrame, hp]

/-- No frame is being split and none waits: the dispatcher can only ask for one. -/
structure NothingToSplit (s : State) : Prop where
  split : s.disp.split = none
  empty : ∀ k, (s.cls k).frames = []

theorem NothingToSplit.of_eq {s t : State} (h : NothingToSplit s) (hd : t.disp.split = s.disp.split)
    (hc : t.classes = s.classes) : NothingToSplit t :=
  ⟨hd.trans h.split, fun k => by
    have := h.empty k
    rwa [State.cls, ← hc] at this⟩

/-- The request for a frame is left standing (R105). -/
def State.asking (s : State) : State := s.modDisp fun d => { d with standing := true }

theorem dispatchMove_of_nothing {s : State} (h : NothingToSplit s) :
    dispatchMove s = if s.disp.standing then none else some (s.asking, false) := by
  simp only [dispatchMove, h.split, selectFrame_of_empty h.empty]
  rfl

theorem mayStop_of_nothing {s : State} (h : NothingToSplit s) : s.mayStop = false := by
  simp [State.mayStop, h.split]

/-! ### One round of a run -/

/-- The state but for the count of free values used. -/
def State.withFree (c : Nat) (s : State) : State := { s with freeCount := c }

/-- A free value asked for or not. -/
theorem race_if (b : Bool) (s : State) :
    ∃ first c, (if b then s.race else (false, s)) = (first, s.withFree c) := by
  cases b with
  | true => exact ⟨_, _, rfl⟩
  | false => exact ⟨false, s.freeCount, rfl⟩

/-- A run that cannot stop rests where no move is left. -/
theorem dispatchRun_rest {s : State} (hs : s.mayStop = false) (h : dispatchMove s = none) (n : Nat) :
    dispatchRun (n + 1) false s = s := by
  rw [dispatchRun]
  simp [hs, h]

/-- A run that cannot stop makes the next move. -/
theorem dispatchRun_move {s t : State} {b : Bool} (hs : s.mayStop = false) (h : dispatchMove s = some (t, b)) (n : Nat) :
    dispatchRun (n + 1) false s = dispatchRun n b t := by
  rw [dispatchRun]
  simp [hs, h]

/-- A run that may stop stops, or makes the next move, by a free value (R114) [32]. -/
theorem dispatchRun_stop_or_move {s : State} (n : Nat) (hm : ∀ c, ∃ t b, dispatchMove (s.withFree c) = some (t, b)) :
    ∃ c, dispatchRun (n + 1) false s = stopRun (s.withFree c) ∧ s.mayStop = true ∨
      ∃ t b, dispatchMove (s.withFree c) = some (t, b) ∧ dispatchRun (n + 1) false s = dispatchRun n b t := by
  rw [dispatchRun]
  cases hs : s.mayStop with
  | false =>
    obtain ⟨t, b, h⟩ := hm s.freeCount
    have h' : dispatchMove s = some (t, b) := h
    exact ⟨s.freeCount, .inr ⟨t, b, h, by simp [h']⟩⟩
  | true =>
    obtain ⟨first, c, hr⟩ := race_if true s
    rw [hr]
    cases first with
    | true => exact ⟨c, .inl ⟨rfl, rfl⟩⟩
    | false =>
      obtain ⟨t, b, h⟩ := hm c
      exact ⟨c, .inr ⟨t, b, h, by simp [h]⟩⟩

/-- Renewal tests that are owed are made before the next decision, or after it where they would place a PROGRESS [8]. -/
theorem dispatchRun_owed_cases (n : Nat) (s : State) :
    ∃ c, dispatchRun (n + 1) true s = dispatchRun n false (renewalTests (s.withFree c)) ∨
      ∃ t b, dispatchMove (s.withFree c) = some (t, b) ∧ dispatchRun (n + 1) true s = dispatchRun n true t := by
  rw [dispatchRun]
  obtain ⟨first, c, hr⟩ := race_if s.renewalWanted s
  rw [hr]
  refine ⟨c, ?_⟩
  cases first with
  | false => exact .inl rfl
  | true =>
    cases hm : dispatchMove (s.withFree c) with
    | none => exact .inl (by simp [hm])
    | some r => exact .inr ⟨r.1, r.2, rfl, by simp [hm]⟩

/-! ### A run with nothing to split -/

/-- A run with nothing to split ends with the request standing (R104, R105). -/
theorem dispatchRun_of_nothing {s : State} (h : NothingToSplit s) (n : Nat) : dispatchRun (n + 2) false s = s.asking := by
  have ha : NothingToSplit s.asking := h.of_eq rfl rfl
  have hm := dispatchMove_of_nothing h
  cases hs : s.disp.standing with
  | true =>
    rw [hs, if_pos rfl] at hm
    have hself : s.asking = s := by
      rw [State.asking, State.modDisp, ← hs]
    rw [hself, dispatchRun_rest (mayStop_of_nothing h) hm]
  | false =>
    rw [hs, if_neg (by decide)] at hm
    rw [dispatchRun_move (mayStop_of_nothing h) hm,
      dispatchRun_rest (mayStop_of_nothing ha) ((dispatchMove_of_nothing ha).trans (if_pos rfl))]

/-- The state `t` is `s` after its renewal tests, with the request for a frame standing. -/
structure RunEnded (s t : State) : Prop where
  disp : t.disp = { s.disp with standing := true }
  counters : t.counters = s.counters
  cells : t.cells = s.cells
  renewed : ∀ q, (t.port q, t.pair q) = renewedAt s.disp.next (s.port q) (s.pair q)

/-- What a run starts from, its request standing or not and some free values used. -/
structure SameWork (s v : State) : Prop where
  next : v.disp.next = s.disp.next
  split : v.disp.split = s.disp.split
  held : v.disp.held = s.disp.held
  midRun : v.disp.midRun = s.disp.midRun
  counters : v.counters = s.counters
  cells : v.cells = s.cells
  classes : v.classes = s.classes
  ports : v.ports = s.ports
  pairs : v.pairs = s.pairs

/-- Tests made and the request left standing. -/
theorem RunEnded.of_tests {s v : State} (h : SameWork s v) : RunEnded s (renewalTests v).asking := by
  have hf := renewalTests_renewalFrame v
  have hq := renewalTests_at v
  generalize renewalTests v = t at hf hq
  refine ⟨?_, hf.counters.trans h.counters, hf.cells.trans h.cells, fun q => ?_⟩
  · show { t.disp with standing := true } = _
    simp only [hf.disp, h.next, h.split, h.held, h.midRun]
  · rw [← h.next, ← port_congr h.ports q, ← pair_congr h.pairs q]
    exact hq q

/-- After its tests, a run with nothing to split only asks. -/
theorem dispatchRun_after_tests {s v : State} (hs : NothingToSplit s) (h : SameWork s v) (n : Nat) :
    RunEnded s (dispatchRun (n + 2) false (renewalTests v)) := by
  have hf := renewalTests_renewalFrame v
  rw [dispatchRun_of_nothing (hs.of_eq ((congrArg Dispatcher.split hf.disp).trans h.split) (hf.classes.trans h.classes))]
  exact .of_tests h

/-- With nothing to split, the renewal tests that are owed and the request for a frame may come in either order [8]. -/
theorem dispatchRun_owed {s : State} (hs : NothingToSplit s) (hstand : s.disp.standing = false) (n : Nat) :
    RunEnded s (dispatchRun (n + 4) true s) := by
  obtain ⟨c, h | ⟨t, b, hm, h⟩⟩ := dispatchRun_owed_cases (n + 3) s
  · rw [h]
    exact dispatchRun_after_tests hs (v := s.withFree c) ⟨rfl, rfl, rfl, rfl, rfl, rfl, rfl, rfl, rfl⟩ (n + 1)
  · have hv : NothingToSplit (s.withFree c) := hs.of_eq rfl rfl
    have hns : (s.withFree c).disp.standing = false := hstand
    rw [dispatchMove_of_nothing hv, hns, if_neg (by decide)] at hm
    obtain ⟨rfl, rfl⟩ := Prod.mk.inj (Option.some.inj hm)
    rw [h]
    obtain ⟨c', h' | ⟨t', b', hm', -⟩⟩ := dispatchRun_owed_cases (n + 2) (s.withFree c).asking
    · rw [h']
      exact dispatchRun_after_tests hs (v := ((s.withFree c).asking).withFree c') ⟨rfl, rfl, rfl, rfl, rfl, rfl, rfl, rfl, rfl⟩ n
    · have ha : NothingToSplit (((s.withFree c).asking).withFree c') := hs.of_eq rfl rfl
      cases ((dispatchMove_of_nothing ha).trans (if_pos rfl)).symm.trans hm'

end Sys2Proof.Machine

/-! PROOFS. The choice of a pair, the moves of a frame being split, and a frame of one fragment as a whole (R105 to R117). -/

namespace Sys2Proof.Machine

/-! ### The choice (R111 to R113) -/

/-- What makes a pair eligible (R111, R8). -/
theorem eligible_iff (s : State) (c : Nat) (p : PairNo) : s.eligible c p = true ↔
    (s.pair p).state = .active ∧ 64 ≤ (s.port p).report.upRate * (s.pair p).derate / 100 ∧
      (s.port p).queue.length < 4 ∧ (s.port p).backlog + c ≤ 3072 ∧
      ∃ ref, (s.pair p).outRef = some ref ∧ dist s.disp.next ref ≤ 8190 := by
  have hu : s.usable p = true ↔ 64 ≤ (s.port p).report.upRate * (s.pair p).derate / 100 := decide_eq_true_iff
  have hd : ∀ n, decide (n ≤ Config.referenceDistance) = true ↔ n ≤ 8190 := fun _ => decide_eq_true_iff
  cases h : (s.pair p).outRef <;>
    simp [State.eligible, State.isActive, hu, Port.hasRoom_iff, h, -decide_eq_true_eq, hd, and_assoc]

/-- Run through pairs in ascending order, the choice ends at the one with the least estimate, the lowest on a tie (R113). -/
theorem foldl_sooner_eq {s : State} {c : Nat} {p : PairNo} (l : List PairNo) (a : PairNo)
    (hsorted : (a :: l).Pairwise (· < ·)) (hp : p ∈ a :: l)
    (hleast : ∀ q ∈ a :: l, q ≠ p → s.estimate c p < s.estimate c q ∨ s.estimate c p = s.estimate c q ∧ p < q) :
    l.foldl (s.sooner c) a = p := by
  induction l generalizing a with
  | nil => exact (List.mem_singleton.1 hp).symm
  | cons x l ih =>
    have hax : a < x := List.rel_of_pairwise_cons hsorted (by simp)
    obtain ⟨-, hxl⟩ := List.pairwise_cons.1 hsorted
    have hal : (a :: l).Pairwise (· < ·) := hsorted.sublist (by simp)
    have hleast_x : ∀ q ∈ x :: l, q ≠ p → _ := fun q hq => hleast q (List.mem_cons_of_mem a hq)
    have hleast_a : ∀ q ∈ a :: l, q ≠ p → _ := fun q hq =>
      hleast q ((List.mem_cons.1 hq).elim (· ▸ List.mem_cons_self) fun h => by simp [h])
    rw [List.foldl_cons]
    by_cases hpx : p = x
    · subst hpx
      have hlt : s.estimate c p < s.estimate c a := by
        rcases hleast a (by simp) (ne_of_lt hax) with h | h
        · exact h
        · exact absurd h.2 (not_lt.2 hax.le)
      rw [State.sooner, if_pos hlt]
      exact ih p hxl (by simp) hleast_x
    · by_cases hpa : p = a
      · subst hpa
        have hnlt : ¬s.estimate c x < s.estimate c p := by
          rcases hleast x (by simp) (Ne.symm hpx) with h | h <;> omega
        rw [State.sooner, if_neg hnlt]
        exact ih p hal (by simp) hleast_a
      · have hpl : p ∈ l := by simpa [hpa, hpx] using hp
        unfold State.sooner
        split
        · exact ih x hxl (by simp [hpl]) hleast_x
        · exact ih a hal (by simp [hpl]) hleast_a

/-- The pair chosen is the eligible one with the least estimate, the lowest on a tie (R113). -/
theorem choose_eq_some {s : State} {c : Nat} {p : PairNo} (hp : s.eligible c p = true)
    (hleast : ∀ q, q ≠ p → s.eligible c q = true →
      s.estimate c p < s.estimate c q ∨ s.estimate c p = s.estimate c q ∧ p < q) : choose s c = some p := by
  have hmem : p ∈ allPairs.filter (s.eligible c) := List.mem_filter.2 ⟨mem_allPairs p, hp⟩
  have hsorted : (allPairs.filter (s.eligible c)).Pairwise (· < ·) := List.Pairwise.filter _ (by decide)
  unfold choose
  cases hl : allPairs.filter (s.eligible c) with
  | nil => simp [hl] at hmem
  | cons a l =>
    rw [hl] at hmem hsorted
    refine congrArg some (foldl_sooner_eq l a hsorted hmem fun q hq hne => hleast q hne ?_)
    exact (List.mem_filter.1 (hl ▸ hq)).2

/-! ### The moves of a frame being split (R115 to R117) -/

theorem dispatchMove_of_chosen {s : State} {plan : SplitPlan} {p : PairNo} (hs : s.disp.split = some plan)
    (hp : choose s plan.size = some p) : dispatchMove s = some
      (if plan.current = plan.k then finishFrame plan (placeFragment p plan s) else placeFragment p plan s, true) := by
  simp [dispatchMove, hs, hp]

/-- A fragment is held and the hold counted (R117). -/
def State.holding (s : State) : State :=
  (s.modDisp fun d => { d with held := true, midRun := false }).count .dispatchHolds

theorem dispatchMove_of_none {s : State} {plan : SplitPlan} (hs : s.disp.split = some plan)
    (hp : choose s plan.size = none) :
    dispatchMove s = if s.disp.held && !s.disp.midRun then none else some (s.holding, false) := by
  simp [dispatchMove, hs, hp, State.holding]

/-- The state `t` is `s` with the frame of `plan` done (R116). -/
structure FrameFinished (plan : SplitPlan) (s t : State) : Prop where
  disp : t.disp = { s.disp with split := none }
  ports : t.ports = s.ports
  pairs : t.pairs = s.pairs
  classes : t.classes = s.classes
  usedOut : t.cells.usedOut = s.cells.usedOut - plan.cells
  frames : t.counter .framesDispatched = countUp (s.counter .framesDispatched) 1
  fragments : t.counter .fragmentsDispatched = s.counter .fragmentsDispatched
  holds : t.counter .dispatchHolds = s.counter .dispatchHolds

theorem returnCells_counter {c : BondCounter} (h : c.isDispatch = true) (n : Nat) (s : State) :
    (returnCells .outbound n s).counter c = s.counter c :=
  (evaluate_outbound _).counter c h

theorem finishFrame_finished (plan : SplitPlan) (s : State) : FrameFinished plan s (finishFrame plan s) := by
  unfold finishFrame
  have h := returnCells_frame .outbound plan.cells ((s.modDisp fun d => { d with split := none }).count .framesDispatched)
  refine ⟨h.disp, h.ports, h.pairs, h.classes, returnCells_usedOut _ _, ?_, ?_, ?_⟩
  · rw [returnCells_counter rfl, State.count, counter_countBy]
    rfl
  · rw [returnCells_counter rfl, State.count, counter_countBy_ne (by decide)]
    rfl
  · rw [returnCells_counter rfl, State.count, counter_countBy_ne (by decide)]
    rfl

/-! ### A frame of one fragment (R106, R113, R116, R117) -/

/-- A frame within the greatest payload is split into one fragment that carries it all (R106, R107). -/
theorem planOf_single {pMax : Nat} {g : OutFrame} (h1 : 1 ≤ g.octets.length) (hp : g.octets.length ≤ pMax) :
    (planOf pMax g).current = (planOf pMax g).k ∧ (planOf pMax g).size = g.octets.length + 8 ∧
      ∀ seq, (planOf pMax g).fragment seq = .data true true seq g.octets := by
  have hk : ceilDiv g.octets.length pMax = 1 := by
    unfold ceilDiv
    exact Nat.div_eq_of_lt_le (by omega) (by omega)
  have hpay : (planOf pMax g).payloadLength = g.octets.length := by
    simp [SplitPlan.payloadLength, planOf, hk, Nat.mod_one]
  refine ⟨hk.symm, by rw [SplitPlan.size, hpay], fun seq => ?_⟩
  rw [SplitPlan.fragment, hpay]
  simp [planOf, hk]

/-- A pair whose reference stands at the next number and that has no renewal pending is left alone by its test (R9). -/
theorem renewedAt_current {next : Seq} {x : Port} {r : Pair} (hr : r.renewal = false) (ho : r.outRef = some next) :
    renewedAt next x r = (x, r) :=
  if_neg (by simp [hr, ho])

/-- The state in which the dispatcher decides the first fragment of an admitted frame. -/
theorem beginSplit_of_admitted {s w : State} {n : Nat} (h : AdmittedTo s n w) (g : OutFrame) :
    let u := beginSplit g w
    u.disp = { s.disp with split := some (planOf s.cfg.pMax g), held := false, standing := false, midRun := false } ∧
      u.ports = s.ports ∧ u.pairs = s.pairs ∧ u.classes = s.classes ∧ u.cells.usedOut = s.cells.usedOut + n ∧
      (∀ c : BondCounter, c.isDispatch = true → u.counter c = s.counter c) ∧ u.pending = s.pending ∧
      u.nextOrder = s.nextOrder + 1 := by
  have hf := h.frame
  refine ⟨?_, hf.ports, hf.pairs, hf.classes, h.usedOut, h.counter, hf.pending, hf.nextOrder⟩
  rw [beginSplit, hf.cfg, State.modDisp, hf.disp]

/-- Before the first fragment of a frame no run stops (R114). -/
theorem mayStop_of_first {s : State} {plan : SplitPlan} (hs : s.disp.split = some plan) (hp : plan.current ≤ 1) :
    s.mayStop = false := by
  have : ¬2 ≤ plan.current := by omega
  simp [State.mayStop, hs, this]

/-- The run that places a frame of one fragment (R113, R115, R116). -/
theorem dispatchRun_single {u : State} {plan : SplitPlan} {p : PairNo} (hs : u.disp.split = some plan)
    (hlast : plan.current = plan.k) (hfirst : plan.current ≤ 1) (hstand : u.disp.standing = false)
    (hempty : ∀ k, (u.cls k).frames = []) (hp : choose u plan.size = some p) (n : Nat) :
    RunEnded (finishFrame plan (placeFragment p plan u)) (dispatchRun (n + 5) false u) := by
  have hplaced := placeFragment_placed p plan u
  have hdone := finishFrame_finished plan (placeFragment p plan u)
  have hm := dispatchMove_of_chosen hs hp
  rw [if_pos hlast] at hm
  rw [dispatchRun_move (mayStop_of_first hs hfirst) hm]
  refine dispatchRun_owed ⟨by rw [hdone.disp], fun k => ?_⟩ ?_ n
  · rw [State.cls, hdone.classes, hplaced.classes]
    exact hempty k
  · rw [hdone.disp, hplaced.disp]
    exact hstand

/-- The run that holds a fragment no pair is eligible for (R117). -/
theorem dispatchRun_hold {u : State} {plan : SplitPlan} (hs : u.disp.split = some plan) (hfirst : plan.current ≤ 1)
    (hheld : u.disp.held = false) (hp : choose u plan.size = none) (n : Nat) :
    dispatchRun (n + 2) false u = u.holding := by
  have hm := dispatchMove_of_none hs hp
  have hm' : dispatchMove u.holding = none := (dispatchMove_of_none (s := u.holding) (plan := plan) hs hp).trans (if_pos rfl)
  rw [hheld] at hm
  rw [dispatchRun_move (mayStop_of_first hs hfirst) hm, dispatchRun_rest (mayStop_of_first (s := u.holding) hs hfirst) hm']

/-- The state `t` is `s` after a frame of one fragment with octets `f` has gone to pair `p` (R113, R115, R116, R9). -/
structure FrameSent (s : State) (f : List Octet) (p : PairNo) (t : State) : Prop where
  disp : t.disp = { next := s.disp.next + 1, split := none, held := false, standing := true }
  port : t.port p = ((s.port p).append [.data true true s.disp.next f]).handAll true
  pair : t.pair p = { s.pair p with progressTimer := none, outRef := some (s.disp.next + 1), renewal := false }
  others : ∀ q, q ≠ p → (t.port q, t.pair q) = renewedAt (s.disp.next + 1) (s.port q) (s.pair q)
  fragments : t.counter .fragmentsDispatched = countUp (s.counter .fragmentsDispatched) 1
  frames : t.counter .framesDispatched = countUp (s.counter .framesDispatched) 1
  usedOut : t.cells.usedOut = s.cells.usedOut
  nextOrder : t.nextOrder = s.nextOrder + 1

/-- A frame of one fragment admitted and sent to the pair chosen. -/
theorem dispatch_single {s w : State} {g : OutFrame} {p : PairNo} (h : AdmittedTo s g.cells w)
    (h1 : 1 ≤ g.octets.length) (hfit : g.octets.length ≤ s.cfg.pMax) (hempty : ∀ k, (s.cls k).frames = [])
    (hactive : (s.pair p).state = .active)
    (hp : choose (beginSplit g w) (g.octets.length + 8) = some p) :
    FrameSent s g.octets p (dispatch (beginSplit g w)) := by
  obtain ⟨hlast, hsize, hfrag⟩ := planOf_single h1 hfit
  obtain ⟨hdisp, hports, hpairs, hclasses, hused, hcount, -, horder⟩ := beginSplit_of_admitted h g
  have hcells : (planOf s.cfg.pMax g).cells = g.cells := rfl
  have hcur : (planOf s.cfg.pMax g).current ≤ 1 := le_rfl
  have hevent := (dispatch_frame (beginSplit g w)).event.nextOrder
  have hempty' : ∀ k, ((beginSplit g w).cls k).frames = [] := fun k => by
    rw [State.cls, hclasses]
    exact hempty k
  unfold dispatch at hevent ⊢
  generalize beginSplit g w = u at *
  generalize planOf s.cfg.pMax g = plan at *
  have hend := dispatchRun_single (n := 123) (by rw [hdisp]) hlast hcur (by rw [hdisp]) hempty' (hsize ▸ hp)
  have hplaced := placeFragment_placed p plan u
  have hdone := finishFrame_finished plan (placeFragment p plan u)
  change RunEnded _ (dispatchRun dispatchFuel false u) at hend
  generalize finishFrame plan (placeFragment p plan u) = v at *
  generalize placeFragment p plan u = v' at *
  generalize dispatchRun dispatchFuel false u = e at *
  have hdrain := drainTells_frame e
  have hkept := drainTells_outbound e
  generalize drainTells e = t at *
  have hnext : v.disp.next = s.disp.next + 1 := by rw [hdone.disp, hplaced.disp, hdisp]
  have hport : v.port p = ((s.port p).append [.data true true s.disp.next g.octets]).handAll true := by
    rw [port_congr hdone.ports, hplaced.port, port_congr hports, pair_congr hpairs, hactive, hfrag, hdisp]
    rfl
  have hpair : v.pair p = { s.pair p with progressTimer := none, outRef := some (s.disp.next + 1), renewal := false } := by
    rw [pair_congr hdone.pairs, hplaced.pair, pair_congr hpairs, hdisp]
  have hself := hend.renewed p
  rw [renewedAt_current (by rw [hpair]) (by rw [hpair, hnext])] at hself
  obtain ⟨hself1, hself2⟩ := Prod.mk.inj hself
  refine ⟨?_, ?_, ?_, fun q hq => ?_, ?_, ?_, ?_, hevent.trans horder⟩
  · rw [hdrain.disp, hend.disp, hdone.disp, hplaced.disp, hdisp]
  · rw [port_congr hdrain.ports, hself1, hport]
  · rw [pair_congr hdrain.pairs, hself2, hpair]
  · rw [port_congr hdrain.ports, pair_congr hdrain.pairs, hend.renewed q, hnext, port_congr hdone.ports,
      pair_congr hdone.pairs, hplaced.ports q hq, hplaced.pairs q hq, port_congr hports, pair_congr hpairs]
  · rw [hkept.counter _ rfl, State.counter, hend.counters, ← State.counter, hdone.fragments, hplaced.dispatched,
      hcount _ rfl]
  · rw [hkept.counter _ rfl, State.counter, hend.counters, ← State.counter, hdone.frames,
      hplaced.counter _ (by decide), hcount _ rfl]
  · rw [hkept.usedOut, hend.cells, hdone.usedOut, hplaced.cells, hused, hcells, Nat.add_sub_cancel]

/-- The state `t` is `s` with an admitted frame of `n` cells held before its first fragment (R117). -/
structure FrameHeld (s : State) (plan : SplitPlan) (n : Nat) (t : State) : Prop where
  disp : t.disp = { next := s.disp.next, split := some plan, held := true, standing := false }
  ports : t.ports = s.ports
  pairs : t.pairs = s.pairs
  holds : t.counter .dispatchHolds = countUp (s.counter .dispatchHolds) 1
  usedOut : t.cells.usedOut = s.cells.usedOut + n

/-- A frame of one fragment admitted while no pair is eligible for it. -/
theorem dispatch_single_held {s w : State} {g : OutFrame} (h : AdmittedTo s g.cells w) (h1 : 1 ≤ g.octets.length)
    (hfit : g.octets.length ≤ s.cfg.pMax) (hp : choose (beginSplit g w) (g.octets.length + 8) = none) :
    FrameHeld s (planOf s.cfg.pMax g) g.cells (dispatch (beginSplit g w)) := by
  obtain ⟨-, hsize, -⟩ := planOf_single h1 hfit
  obtain ⟨hdisp, hports, hpairs, -, hused, hcount, -, -⟩ := beginSplit_of_admitted h g
  have hcur : (planOf s.cfg.pMax g).current ≤ 1 := le_rfl
  unfold dispatch
  generalize beginSplit g w = u at *
  have hrun : dispatchRun dispatchFuel false u = u.holding :=
    dispatchRun_hold (n := 126) (by rw [hdisp]) hcur (by rw [hdisp]) (hsize ▸ hp)
  rw [hrun]
  have hdrain := drainTells_frame u.holding
  have hkept := drainTells_outbound u.holding
  generalize drainTells u.holding = t at hdrain hkept
  refine ⟨?_, hdrain.ports.trans hports, hdrain.pairs.trans hpairs, ?_, hkept.usedOut.trans hused⟩
  · rw [hdrain.disp, State.holding, count_disp, State.modDisp, hdisp]
  · rw [hkept.counter _ rfl, State.holding, State.count, counter_countBy, ← hcount _ rfl]
    rfl

/-- What a renewal test can make of a pair and its port, case by case (R9). -/
theorem renewedAt_cases (next : Seq) (x : Port) (r : Pair) :
    let due := r.state = .active ∧ (r.renewal = true ∨ ∃ ref, r.outRef = some ref ∧ 4096 ≤ dist next ref)
    (renewedAt next x r).2.state = r.state ∧ (¬due → renewedAt next x r = (x, r)) ∧
      (due → x.hasRoom 8 = true → renewedAt next x r = ((x.append [.progress next]).handAll true,
        { r with progressTimer := none, outRef := some next, renewal := false })) ∧
      (due → x.hasRoom 8 = false → renewedAt next x r = (x, { r with renewal := true })) := by
  refine ⟨?_, fun h => if_neg h, fun h hr => (if_pos h).trans (if_pos hr),
    fun h hr => (if_pos h).trans (if_neg (Bool.eq_false_iff.1 hr))⟩
  unfold renewedAt
  split
  · split <;> rfl
  · rfl

/-- Settles O50: the admitted frame is one fragment, which the choice gives to the least estimate (R113) or to none
(R117); the tests that its number makes due act on every other pair by themselves (R9). -/
theorem frameGoesToTheChosenPair : Obligations.FrameGoesToTheChosenPair := by
  unfold Obligations.FrameGoesToTheChosenPair
  intro s f hmin hmax hfit hrules hframes hlimit hcells hstand hsplit size next' rate eligible estimate due room c
  have hstart : ∀ {p : PairNo}, (s.pair p).state = .active → ∃ w, AdmittedTo s (s.offeredFrame f).cells w ∧
      exec c s = .next (dispatch (beginSplit (s.offeredFrame f) w)) := fun hp =>
    exec_lanFrameReceived_standing hmin hmax hrules hframes hlimit hcells hstand hp
  have h1 : 1 ≤ (s.offeredFrame f).octets.length := Nat.le_trans (by decide) hmin
  have hview : ∀ {w}, AdmittedTo s (s.offeredFrame f).cells w → ∀ q,
      ((beginSplit (s.offeredFrame f) w).eligible size q = true ↔ eligible q) ∧
      (beginSplit (s.offeredFrame f) w).estimate size q = estimate q := fun hw q => by
    obtain ⟨hdisp, hports, hpairs, -⟩ := beginSplit_of_admitted hw (s.offeredFrame f)
    rw [eligible_iff, State.estimate, State.effUp, port_congr hports, pair_congr hpairs, hdisp]
    exact ⟨Iff.rfl, rfl⟩
  constructor
  · intro p hp hleast
    obtain ⟨w, hw, hexec⟩ := hstart hp.1
    have hchoose : choose (beginSplit (s.offeredFrame f) w) size = some p :=
      choose_eq_some (((hview hw p).1).2 hp) fun q hq he => by
        rw [(hview hw p).2, (hview hw q).2]
        exact hleast q hq ((hview hw q).1.1 he)
    have hsent := dispatch_single hw h1 hfit hframes hp.1 hchoose
    refine ⟨_, hexec, hsent.disp, ?_, ?_, ?_, ?_, fun q hq => ?_, hsent.fragments, hsent.frames, hsent.usedOut,
      hsent.nextOrder⟩
    · rw [hsent.port, (Port.handAll_keeps _ _).1]
      simp [Port.append, State.offeredFrame]
    · rw [hsent.pair]
    · rw [hsent.pair]
    · rw [hsent.pair]
    · have hother := hsent.others q hq
      generalize dispatch (beginSplit (s.offeredFrame f) w) = t at hother ⊢
      obtain ⟨hstate, hidle, hroom, hfull⟩ := renewedAt_cases (s.disp.next + 1) (s.port q) (s.pair q)
      rw [← hother] at hstate hidle hroom hfull
      refine ⟨hstate, fun hd => Prod.mk.inj (hidle hd), fun hd hr => ?_, fun hd hr => ?_⟩
      · obtain ⟨hport, hpair⟩ := Prod.mk.inj (hroom hd (Port.hasRoom_iff.2 hr))
        rw [hport, hpair, (Port.handAll_keeps _ _).1]
        exact ⟨by simp [Port.append, next'], rfl, rfl, rfl⟩
      · exact Prod.mk.inj (hfull hd (Bool.eq_false_iff.2 fun h => hr (Port.hasRoom_iff.1 h)))
  · rintro ⟨p, hp⟩ hnone
    obtain ⟨w, hw, hexec⟩ := hstart hp
    have hchoose : choose (beginSplit (s.offeredFrame f) w) size = none :=
      choose_none.2 fun q _ => Bool.eq_false_iff.2 fun he => hnone q ((hview hw q).1.1 he)
    have hheld := dispatch_single_held hw h1 hfit hchoose
    exact ⟨_, hexec, by rw [hheld.disp], by rw [hheld.disp], by rw [hheld.disp]; rfl, by rw [hheld.disp], hheld.ports,
      hheld.pairs, hheld.holds, hheld.usedOut⟩

end Sys2Proof.Machine

/-! PROOFS. A frame of several fragments while one pair is ACTIVE: it goes out in order until its line queue is full, or the
run stops for an event (R104 to R107, R113 to R117). -/

namespace Sys2Proof.Machine

/-! ### The split plan after some of its fragments (R106, R107, R115) -/

/-- The size of the fragment after the first `j` of a balanced split of `n` octets into `k` (R107). -/
def splitSize (n k j : Nat) : Nat := if j < n % k then ceilDiv n k else n / k

/-- The octets in the first `j` fragments of a balanced split. -/
def splitBefore (n k j : Nat) : Nat := ((List.range j).map (splitSize n k)).sum

theorem splitBefore_succ (n k j : Nat) : splitBefore n k (j + 1) = splitBefore n k j + splitSize n k j := by
  simp [splitBefore, List.range_succ]

/-- The first `j` fragments hold the quotient each, and one octet more while the remainder lasts (R107). -/
theorem splitBefore_eq {n k : Nat} (hk : 0 < k) (j : Nat) : splitBefore n k j = j * (n / k) + min j (n % k) := by
  induction j with
  | zero => simp [splitBefore]
  | succ j ih =>
    rw [splitBefore_succ, ih, splitSize, Nat.succ_mul]
    split
    · have hceil : ceilDiv n k = n / k + 1 := by
        have hn := Nat.div_add_mod n k
        have hlt := Nat.mod_lt n hk
        rw [Nat.mul_comm] at hn
        refine Nat.div_eq_of_lt_le ?_ ?_
        · rw [Nat.succ_mul]
          omega
        · rw [Nat.succ_mul, Nat.succ_mul]
          omega
      omega
    · omega

theorem splitBefore_le {n k j : Nat} (hk : 0 < k) (hj : j ≤ k) : splitBefore n k j ≤ n := by
  have hn := Nat.div_add_mod n k
  have := Nat.mul_le_mul_right (n / k) hj
  rw [splitBefore_eq hk]
  omega

/-- The plan after its first `j` fragments have been placed. -/
def SplitPlan.after (plan : SplitPlan) (j : Nat) : SplitPlan := Nat.repeat SplitPlan.advance j plan

theorem SplitPlan.after_succ (plan : SplitPlan) (j : Nat) : plan.after (j + 1) = (plan.after j).advance := rfl

/-- What the plan of a frame is after its first `j` fragments (R107, R115). -/
theorem planOf_after (pMax : Nat) (g : OutFrame) (j : Nat) :
    let n := g.octets.length
    let k := ceilDiv n pMax
    (planOf pMax g).after j = { planOf pMax g with current := j + 1, offset := splitBefore n k j } ∧
      ((planOf pMax g).after j).payloadLength = splitSize n k j := by
  intro n k
  have hsize : ∀ i, ({ planOf pMax g with current := i + 1, offset := splitBefore n k i } : SplitPlan).payloadLength =
      splitSize n k i := fun i => by
    simp only [SplitPlan.payloadLength, splitSize, Nat.succ_le_iff]
    rfl
  have hafter : (planOf pMax g).after j = { planOf pMax g with current := j + 1, offset := splitBefore n k j } := by
    induction j with
    | zero => rfl
    | succ j ih => rw [SplitPlan.after_succ, ih, SplitPlan.advance, hsize, splitBefore_succ]
  exact ⟨hafter, by rw [hafter, hsize]⟩

/-! ### A run with one ACTIVE pair -/

/-- A counter after `d` events, each counted by itself. -/
def countedUp (c d : Nat) : Nat := if d = 0 then c else countUp c d

theorem countedUp_succ (c d : Nat) : countedUp c (d + 1) = countUp (countedUp c d) 1 := by
  by_cases hd : d = 0
  · subst hd
    rfl
  · simp only [countedUp, hd, Nat.succ_ne_zero, if_false, countUp]
    omega

/-- The state `u` is about to decide the first fragment of the frame `g`, with `p` the one ACTIVE pair, its reference near
and its line queue's octet limit far enough for the whole frame. -/
structure LoneRun (u : State) (p : PairNo) (ref : Seq) (pMax : Nat) (g : OutFrame) : Prop where
  disp : u.disp = { next := u.disp.next, split := some (planOf pMax g), held := false, standing := false }
  active : (u.pair p).state = .active
  alone : ∀ q, q ≠ p → (u.pair q).state ≠ .active
  usable : 64 ≤ (u.port p).report.upRate * (u.pair p).derate / 100
  reference : (u.pair p).outRef = some ref
  near : dist u.disp.next ref ≤ 8190
  empty : ∀ k, (u.cls k).frames = []
  count : 0 < ceilDiv g.octets.length pMax
  room : (u.port p).backlog + g.octets.length + 8 * ceilDiv g.octets.length pMax ≤ 3072

/-- The fragment after the first `j` of a frame, under the number it takes. -/
def fragmentAt (pMax : Nat) (g : OutFrame) (next : Seq) (j : Nat) : Fragment :=
  ((planOf pMax g).after j).fragment (next + BitVec.ofNat 14 j)

/-- The first `j` fragments of the frame `g` have been placed on pair `p` since `u` (R115). -/
structure Progress (u : State) (p : PairNo) (ref : Seq) (pMax : Nat) (g : OutFrame) (j : Nat) (v : State) : Prop where
  next : v.disp.next = u.disp.next + BitVec.ofNat 14 j
  queue : (v.port p).queue.map (·.frag) =
    (u.port p).queue.map (·.frag) ++ (List.range j).map (fragmentAt pMax g u.disp.next)
  reference : (v.pair p).outRef = some (if j = 0 then ref else u.disp.next + BitVec.ofNat 14 j)
  dispatched : v.counter .fragmentsDispatched = countedUp (u.counter .fragmentsDispatched) j

/-- The run is between two fragments of the frame, or before its first. -/
structure Placing (u : State) (p : PairNo) (ref : Seq) (pMax : Nat) (g : OutFrame) (j : Nat) (v : State) : Prop where
  progress : Progress u p ref pMax g j v
  frame : DispatchFrame u v
  disp : v.disp = { next := v.disp.next, split := some ((planOf pMax g).after j), held := false, standing := false }
  renewal : j ≠ 0 → (v.pair p).renewal = false
  backlog : (v.port p).backlog ≤
    (u.port p).backlog + splitBefore g.octets.length (ceilDiv g.octets.length pMax) j + 8 * j
  classes : v.classes = u.classes
  frames : v.counter .framesDispatched = u.counter .framesDispatched
  holds : v.counter .dispatchHolds = u.counter .dispatchHolds
  usedOut : v.cells.usedOut = u.cells.usedOut

section
variable {u v : State} {p : PairNo} {ref : Seq} {pMax : Nat} {g : OutFrame} {j : Nat}

theorem LoneRun.placing (h : LoneRun u p ref pMax g) : Placing u p ref pMax g 0 u :=
  ⟨⟨by simp, by simp, h.reference, rfl⟩, .refl u, h.disp, fun h => absurd rfl h, by simp [splitBefore], rfl, rfl, rfl, rfl⟩

theorem Placing.withFree (h : Placing u p ref pMax g j v) (c : Nat) : Placing u p ref pMax g j (v.withFree c) :=
  ⟨⟨h.progress.next, h.progress.queue, h.progress.reference, h.progress.dispatched⟩,
    h.frame.trans ⟨by constructor <;> rfl, rfl, fun _ => rfl, fun _ => rfl, fun _ _ => ⟨rfl, rfl⟩⟩,
    h.disp, h.renewal, h.backlog, h.classes, h.frames, h.holds, h.usedOut⟩

theorem Progress.length (h : Progress u p ref pMax g j v) : (v.port p).queue.length = (u.port p).queue.length + j := by
  simpa using congrArg List.length h.queue

/-- Only the ACTIVE pair can be eligible, and it is while its line queue has a free entry (R111). -/
theorem Placing.eligible_iff (hu : LoneRun u p ref pMax g) (h : Placing u p ref pMax g j v)
    (hj : j < ceilDiv g.octets.length pMax) (q : PairNo) :
    v.eligible ((planOf pMax g).after j).size q = true ↔ q = p ∧ (u.port p).queue.length + j < 4 := by
  have hbefore := splitBefore_le (n := g.octets.length) hu.count (Nat.succ_le_of_lt hj)
  have hroom := hu.room
  have hbacklog := h.backlog
  rw [splitBefore_succ] at hbefore
  rw [Sys2Proof.Machine.eligible_iff, SplitPlan.size, (planOf_after pMax g j).2]
  constructor
  · rintro ⟨hactive, -, hlen, -⟩
    have hq : q = p := by
      by_contra hne
      rw [h.frame.pairs q] at hactive
      exact hu.alone q hne hactive
    subst hq
    exact ⟨rfl, h.progress.length ▸ hlen⟩
  · rintro ⟨rfl, hlen⟩
    refine ⟨?_, ?_, h.progress.length ▸ hlen, by omega, _, h.progress.reference, ?_⟩
    · rw [h.frame.pairs q]
      exact hu.active
    · rw [h.frame.pairs q, h.frame.ports q]
      exact hu.usable
    · rw [h.progress.next]
      split
      · subst j
        simpa using hu.near
      · simp

theorem Placing.choose_eq (hu : LoneRun u p ref pMax g) (h : Placing u p ref pMax g j v)
    (hj : j < ceilDiv g.octets.length pMax) : choose v ((planOf pMax g).after j).size =
      if (u.port p).queue.length + j < 4 then some p else none := by
  split
  · exact choose_eq_some ((h.eligible_iff hu hj p).2 ⟨rfl, ‹_›⟩) fun q hq he =>
      absurd ((h.eligible_iff hu hj q).1 he).1 hq
  · exact choose_none.2 fun q _ => Bool.eq_false_iff.2 fun he => absurd ((h.eligible_iff hu hj q).1 he).2 ‹_›

theorem append_backlog_le (x : Port) (f : Fragment) : (x.append [f]).backlog ≤ x.backlog + f.size := by
  have hf : queueSize [Entry.staged f] = f.size := by simp [queueSize]
  simp only [Port.backlog, Port.append, queueSize_append, List.map_cons, List.map_nil, hf]
  omega

theorem fragment_size_le_size (plan : SplitPlan) (seq : Seq) : (plan.fragment seq).size ≤ plan.size := by
  have := List.length_take_le plan.payloadLength (plan.octets.drop plan.offset)
  exact Nat.add_le_add_right this 8

/-- The next fragment placed (R115). -/
theorem Placing.step (hu : LoneRun u p ref pMax g) (h : Placing u p ref pMax g j v)  :
    Placing u p ref pMax g (j + 1) (placeFragment p ((planOf pMax g).after j) v) := by
  have hactive : v.isActive p = true := by
    rw [h.frame.isActive, State.isActive, hu.active]
    rfl
  have hp := placeFragment_placed p ((planOf pMax g).after j) v
  have hf := placeFragment_frame hactive ((planOf pMax g).after j)
  generalize placeFragment p ((planOf pMax g).after j) v = t at hp hf
  have hnext : v.disp.next + 1 = u.disp.next + BitVec.ofNat 14 (j + 1) := by
    rw [h.progress.next, BitVec.ofNat_add]
    bv_omega
  refine ⟨⟨?_, ?_, ?_, ?_⟩, h.frame.trans hf, ?_, fun _ => by rw [hp.pair], ?_, hp.classes.trans h.classes, ?_, ?_, ?_⟩
  · rw [hp.disp, hnext]
  · rw [hp.port, (Port.handAll_keeps _ _).1, h.progress.next]
    simp [Port.append, h.progress.queue, List.range_succ, fragmentAt]
  · rw [hp.pair, hnext]
    rfl
  · rw [hp.dispatched, h.progress.dispatched, countedUp_succ]
  · rw [hp.disp, h.disp]
    rfl
  · have hsize := fragment_size_le_size ((planOf pMax g).after j) v.disp.next
    have happ := append_backlog_le (v.port p) (((planOf pMax g).after j).fragment v.disp.next)
    have hback := h.backlog
    rw [SplitPlan.size, (planOf_after pMax g j).2] at hsize
    rw [hp.port, Port.handAll_backlog, splitBefore_succ]
    omega
  · rw [hp.counter _ (by decide), h.frames]
  · rw [hp.counter _ (by decide), h.holds]
  · rw [hp.cells, h.usedOut]

/-! ### Between two fragments -/

/-- Where no renewal is due or pending, the tests that are owed change nothing and cost no free value (R9). -/
theorem dispatchRun_owed_idle {s : State} (h : ∀ q, (s.isActive q && s.renewalPends q) = false) (n : Nat) :
    dispatchRun (n + 1) true s = dispatchRun n false s := by
  have htests : renewalTests s = s :=
    forPairs_induct (P := (· = s)) (fun q t ht => by rw [ht, renewalTest, h q]; rfl) s rfl
  have hwanted : s.renewalWanted = false := List.any_eq_false.2 fun q _ => by simp [h q]
  rw [dispatchRun]
  simp [hwanted, htests]

/-- After a placement no renewal is due or pending on any pair: the ACTIVE one has its reference at the next number (R8,
R9). -/
theorem Placing.no_renewal (hu : LoneRun u p ref pMax g) (h : Placing u p ref pMax g j v) (hj : j ≠ 0) (q : PairNo) :
    (v.isActive q && v.renewalPends q) = false := by
  rw [Bool.eq_false_iff, ne_eq, renewalPends_iff]
  rintro ⟨hactive, hpends⟩
  have hq : q = p := by
    by_contra hne
    rw [h.frame.pairs q] at hactive
    exact hu.alone q hne hactive
  subst hq
  rcases hpends with hr | ⟨r, hr, hd⟩
  · rw [h.renewal hj] at hr
    cases hr
  · rw [h.progress.reference, if_neg hj] at hr
    rw [h.progress.next, ← Option.some.inj hr, dist_self] at hd
    omega

/-- Whether an event at a pair waits rests on the commands that wait, the pairs, the ports and the management link but for
its notice counts (R114). -/
theorem eventWaits_congr {s t : State} (hpending : t.pending = s.pending)
    (hmgmt : t.mgmt = { s.mgmt with notices := t.mgmt.notices }) (hports : t.ports = s.ports) (hpairs : t.pairs = s.pairs) :
    t.eventWaits = s.eventWaits := by
  cases s
  cases t
  simp only at hpending hmgmt hports hpairs
  subst hpending hports hpairs
  rw [hmgmt]
  rfl

/-! ### How a run ends -/

/-- A run has ended with `placed` fragments of the frame placed: the frame done, the next fragment held, or the run stopped
for an event (R114, R116, R117). -/
structure Outcome (u : State) (p : PairNo) (ref : Seq) (pMax : Nat) (g : OutFrame) (placed : Nat) (e : State) : Prop where
  progress : Progress u p ref pMax g placed e
  bound : placed ≤ min (ceilDiv g.octets.length pMax) (4 - (u.port p).queue.length)
  full : e.disp.midRun = false → placed = min (ceilDiv g.octets.length pMax) (4 - (u.port p).queue.length)
  stopped : e.disp.midRun = true → 1 ≤ placed ∧ placed < ceilDiv g.octets.length pMax ∧ e.eventWaits = true
  held : e.disp.held = decide (placed < ceilDiv g.octets.length pMax)
  split : e.disp.split.isSome = decide (placed < ceilDiv g.octets.length pMax)
  standing : e.disp.standing = decide (placed = ceilDiv g.octets.length pMax)
  frames : e.counter .framesDispatched =
    countedUp (u.counter .framesDispatched) (if placed = ceilDiv g.octets.length pMax then 1 else 0)
  holds : e.counter .dispatchHolds = countedUp (u.counter .dispatchHolds)
    (if placed = ceilDiv g.octets.length pMax ∨ e.disp.midRun = true then 0 else 1)
  usedOut : e.cells.usedOut =
    u.cells.usedOut - (if placed = ceilDiv g.octets.length pMax then g.cells else 0)

/-- The run stops between two fragments (R114) [32]. -/
theorem Placing.outcome_stopped (h : Placing u p ref pMax g j v) (h1 : 1 ≤ j) (hk : j < ceilDiv g.octets.length pMax)
    (hroom : j ≤ 4 - (u.port p).queue.length) (he : v.eventWaits = true) : Outcome u p ref pMax g j (stopRun v) := by
  have hd : (stopRun v).disp = { v.disp with held := true, midRun := true } := rfl
  have hne : j ≠ ceilDiv g.octets.length pMax := hk.ne
  refine ⟨⟨h.progress.next, h.progress.queue, h.progress.reference, h.progress.dispatched⟩, by omega, ?_, ?_, ?_, ?_, ?_,
    ?_, ?_, ?_⟩
  · intro hm
    cases hm
  · exact fun _ => ⟨h1, hk, (eventWaits_congr (t := stopRun v) rfl rfl rfl rfl).trans he⟩
  · rw [hd, decide_eq_true hk]
  · rw [hd, h.disp, decide_eq_true hk]
    rfl
  · rw [hd, h.disp, decide_eq_false hne]
  · rw [if_neg hne]
    exact h.frames
  · rw [if_pos (Or.inr (congrArg Dispatcher.midRun hd))]
    exact h.holds
  · rw [if_neg hne]
    exact h.usedOut

/-- The next fragment is held, the line queue having no free entry (R117). -/
theorem Placing.outcome_held (h : Placing u p ref pMax g j v) (hk : j < ceilDiv g.octets.length pMax)
    (hfull : j = 4 - (u.port p).queue.length) : Outcome u p ref pMax g j v.holding := by
  have hd : v.holding.disp = { v.disp with held := true, midRun := false } := rfl
  have hne : j ≠ ceilDiv g.octets.length pMax := hk.ne
  have hcount : ∀ c : BondCounter, c.place ≠ BondCounter.dispatchHolds.place → v.holding.counter c = v.counter c :=
    fun c hc => counter_countBy_ne hc 1 _
  refine ⟨⟨h.progress.next, h.progress.queue, h.progress.reference, ?_⟩, by omega, fun _ => by omega, ?_, ?_, ?_, ?_,
    ?_, ?_, ?_⟩
  · rw [hcount _ (by decide), h.progress.dispatched]
  · intro hm
    cases hm
  · rw [hd, decide_eq_true hk]
  · rw [hd, h.disp, decide_eq_true hk]
    rfl
  · rw [hd, h.disp, decide_eq_false hne]
  · rw [if_neg hne, hcount _ (by decide)]
    exact h.frames
  · rw [if_neg (by simp [hd, hne]), countedUp, if_neg (by decide), ← h.holds]
    exact counter_countBy .dispatchHolds 1 _
  · rw [if_neg hne]
    exact h.usedOut

/-- The frame is done: its last fragment is placed, its cells are returned, and the request for a frame stands (R116). -/
theorem Placing.outcome_finished (h : Placing u p ref pMax g j v) (hj : j ≠ 0)
    (hk : j = ceilDiv g.octets.length pMax) (hroom : j ≤ 4 - (u.port p).queue.length) {plan : SplitPlan}
    (hcells : plan.cells = g.cells) {w e : State} (hw : FrameFinished plan v w) (he : RunEnded w e) :
    Outcome u p ref pMax g j e := by
  have hd : e.disp = { next := v.disp.next, split := none, held := false, standing := true } := by
    rw [he.disp, hw.disp, h.disp]
  have hcount : ∀ c : BondCounter, e.counter c = w.counter c := fun c => by rw [State.counter, he.counters, ← State.counter]
  have href := h.progress.reference
  rw [if_neg hj, ← h.progress.next] at href
  have hself := he.renewed p
  rw [renewedAt_current (by rw [pair_congr hw.pairs, h.renewal hj]) (by rw [pair_congr hw.pairs, href, hw.disp])] at hself
  obtain ⟨hport, hpair⟩ := Prod.mk.inj hself
  rw [port_congr hw.ports] at hport
  rw [pair_congr hw.pairs] at hpair
  have hlt : ¬j < ceilDiv g.octets.length pMax := by omega
  refine ⟨⟨?_, ?_, ?_, ?_⟩, by omega, fun _ => by omega, ?_, ?_, ?_, ?_, ?_, ?_, ?_⟩
  · rw [hd, h.progress.next]
  · rw [hport, h.progress.queue]
  · rw [hpair, h.progress.reference]
  · rw [hcount, hw.fragments, h.progress.dispatched]
  · intro hm
    rw [hd] at hm
    cases hm
  · rw [hd, decide_eq_false hlt]
  · rw [hd, decide_eq_false hlt]
    rfl
  · rw [hd, decide_eq_true hk]
  · rw [if_pos hk, hcount, hw.frames, h.frames]
    rfl
  · rw [if_pos (Or.inl hk), hcount, hw.holds, h.holds]
    rfl
  · rw [if_pos hk, he.cells, hw.usedOut, h.usedOut, hcells]

/-- A held fragment that no pair is eligible for is where the run rests (R117). -/
theorem Placing.dispatchRun_holding (hu : LoneRun u p ref pMax g) (h : Placing u p ref pMax g j v)
    (hj : j < ceilDiv g.octets.length pMax) (hfull : ¬(u.port p).queue.length + j < 4) (n : Nat) :
    dispatchRun (n + 1) false v.holding = v.holding := by
  have hsplit : v.holding.disp.split = some ((planOf pMax g).after j) := by
    show v.disp.split = _
    rw [h.disp]
  have hnone : choose v.holding ((planOf pMax g).after j).size = none := (h.choose_eq hu hj).trans (if_neg hfull)
  refine dispatchRun_rest ?_ ((dispatchMove_of_none hsplit hnone).trans (if_pos rfl)) n
  have : (!v.holding.disp.held || v.holding.disp.midRun) = false := rfl
  simp [State.mayStop, hsplit, this]

/-- A run can stop only after a first fragment, and for an event that waits (R114). -/
theorem Placing.of_mayStop (h : Placing u p ref pMax g j v) (hs : v.mayStop = true) : 1 ≤ j ∧ v.eventWaits = true := by
  have hsplit : v.disp.split = some ((planOf pMax g).after j) := by rw [h.disp]
  have hcurrent : ((planOf pMax g).after j).current = j + 1 := by rw [(planOf_after pMax g j).1]
  simp only [State.mayStop, hsplit, hcurrent, Bool.and_eq_true, decide_eq_true_eq] at hs
  exact ⟨by omega, hs.2⟩

/-- A run that stops here has ended well. -/
theorem Placing.exists_outcome_stopped (h : Placing u p ref pMax g j v) (hk : j < ceilDiv g.octets.length pMax)
    (hroom : j ≤ 4 - (u.port p).queue.length) (hs : v.mayStop = true) (c : Nat) :
    Outcome u p ref pMax g j (stopRun (v.withFree c)) :=
  (h.withFree c).outcome_stopped (h.of_mayStop hs).1 hk hroom
    ((eventWaits_congr (t := v.withFree c) rfl rfl rfl rfl).trans (h.of_mayStop hs).2)

/-- With no free entry left in the line queue, the run holds the next fragment or stops before it (R114, R117). -/
theorem Placing.dispatchRun_full (hu : LoneRun u p ref pMax g) (h : Placing u p ref pMax g j v)
    (hk : j < ceilDiv g.octets.length pMax) (hroom : j ≤ 4 - (u.port p).queue.length)
    (hfull : ¬(u.port p).queue.length + j < 4) (n : Nat) :
    ∃ placed, Outcome u p ref pMax g placed (dispatchRun (n + 2) false v) := by
  have hmove : ∀ c, dispatchMove (v.withFree c) = some ((v.withFree c).holding, false) := fun c => by
    have hc := h.withFree c
    have hheld : (v.withFree c).disp.held = false := by rw [hc.disp]
    rw [dispatchMove_of_none (by rw [hc.disp]) ((hc.choose_eq hu hk).trans (if_neg hfull)), hheld]
    rfl
  obtain ⟨c, ⟨hrun, hs⟩ | ⟨t, b, hm, hrun⟩⟩ := dispatchRun_stop_or_move (n + 1) fun c => ⟨_, _, hmove c⟩
  · rw [hrun]
    exact ⟨j, h.exists_outcome_stopped hk hroom hs c⟩
  · obtain ⟨rfl, rfl⟩ := Prod.mk.inj (Option.some.inj (hm.symm.trans (hmove c)))
    rw [hrun, (h.withFree c).dispatchRun_holding hu hk hfull]
    exact ⟨j, (h.withFree c).outcome_held hk (by omega)⟩

/-- The run from between two fragments of the frame, or from before its first, ends as `Outcome` says: by induction on the
entries still free (R104, R114 to R117). -/
theorem Placing.dispatchRun_outcome (hu : LoneRun u p ref pMax g) (m : Nat) (h : Placing u p ref pMax g j v)
    (hk : j < ceilDiv g.octets.length pMax) (hroom : j ≤ 4 - (u.port p).queue.length)
    (hm : 4 - (u.port p).queue.length ≤ j + m) (n : Nat) :
    ∃ placed, Outcome u p ref pMax g placed (dispatchRun (n + 2 * m + 6) false v) := by
  induction m generalizing j v with
  | zero => exact h.dispatchRun_full hu hk hroom (by omega) (n + 4)
  | succ m ih =>
    by_cases hfree : (u.port p).queue.length + j < 4
    · have hmove : ∀ c, dispatchMove (v.withFree c) = _ := fun c =>
        dispatchMove_of_chosen (by rw [(h.withFree c).disp]) (((h.withFree c).choose_eq hu hk).trans (if_pos hfree))
      obtain ⟨c, ⟨hrun, hs⟩ | ⟨t, b, hmv, hrun⟩⟩ := dispatchRun_stop_or_move (n + 2 * m + 7) fun c => ⟨_, _, hmove c⟩
      · rw [show n + 2 * (m + 1) + 6 = n + 2 * m + 7 + 1 by omega, hrun]
        exact ⟨j, h.exists_outcome_stopped hk hroom hs c⟩
      · obtain ⟨rfl, rfl⟩ := Prod.mk.inj (Option.some.inj (hmv.symm.trans (hmove c)))
        rw [show n + 2 * (m + 1) + 6 = n + 2 * m + 7 + 1 by omega, hrun]
        have hnext := (h.withFree c).step hu
        have hcurrent : ((planOf pMax g).after j).current = j + 1 := by rw [(planOf_after pMax g j).1]
        have hplan : ((planOf pMax g).after j).k = ceilDiv g.octets.length pMax ∧
            ((planOf pMax g).after j).cells = g.cells := by
          rw [(planOf_after pMax g j).1]
          exact ⟨rfl, rfl⟩
        rw [hcurrent, hplan.1]
        split
        · rename_i hlast
          have hdone := finishFrame_finished ((planOf pMax g).after j)
            (placeFragment p ((planOf pMax g).after j) (v.withFree c))
          have hend := dispatchRun_owed (s := finishFrame ((planOf pMax g).after j)
            (placeFragment p ((planOf pMax g).after j) (v.withFree c))) ⟨by rw [hdone.disp], fun k => ?_⟩
            (by rw [hdone.disp, hnext.disp]) (n + 2 * m + 3)
          · exact ⟨j + 1, hnext.outcome_finished (Nat.succ_ne_zero j) hlast (by omega) hplan.2 hdone hend⟩
          · rw [State.cls, hdone.classes, hnext.classes]
            exact hu.empty k
        · rw [dispatchRun_owed_idle (hnext.no_renewal hu (Nat.succ_ne_zero j))]
          exact ih hnext (by omega) (by omega) (by omega)
    · exact h.dispatchRun_full hu hk hroom hfree (n + 2 * (m + 1) + 4)

/-- The pressure events taken after a run change nothing of how it ended (R75, R152). -/
theorem Outcome.drained {placed : Nat} {e : State} (h : Outcome u p ref pMax g placed e) :
    Outcome u p ref pMax g placed (drainTells e) := by
  have hd := drainTells_frame e
  have hk := drainTells_outbound e
  refine ⟨⟨?_, ?_, ?_, ?_⟩, h.bound, ?_, fun hm => ?_, ?_, ?_, ?_, ?_, ?_, ?_⟩
  · rw [hd.disp, h.progress.next]
  · rw [port_congr hd.ports, h.progress.queue]
  · rw [pair_congr hd.pairs, h.progress.reference]
  · rw [hk.counter _ rfl, h.progress.dispatched]
  · rw [hd.disp]
    exact h.full
  · rw [hd.disp] at hm
    rw [eventWaits_congr hd.pending hd.mgmt hd.ports hd.pairs]
    exact h.stopped hm
  · rw [hd.disp, h.held]
  · rw [hd.disp, h.split]
  · rw [hd.disp, h.standing]
  · rw [hk.counter _ rfl, h.frames]
  · rw [hk.counter _ rfl, h.holds, hd.disp]
  · rw [hk.usedOut, h.usedOut]

/-- The run that a new frame starts ends as `Outcome` says (R104). -/
theorem LoneRun.dispatch_outcome (hu : LoneRun u p ref pMax g) :
    ∃ placed, Outcome u p ref pMax g placed (dispatch u) := by
  obtain ⟨placed, h⟩ := hu.placing.dispatchRun_outcome hu 4 hu.count (Nat.zero_le _) (by omega) 114
  exact ⟨placed, h.drained⟩

end

/-- The fragments of a frame are its cuts in order, START on the first and END on the last (R2, R107). -/
theorem fragmentAt_eq (pMax : Nat) (g : OutFrame) (next : Seq) (j : Nat) :
    let n := g.octets.length
    let k := ceilDiv n pMax
    fragmentAt pMax g next j = .data (j == 0) (j + 1 == k) (next + BitVec.ofNat 14 j)
      ((g.octets.drop (splitBefore n k j)).take (splitSize n k j)) := by
  obtain ⟨hplan, hsize⟩ := planOf_after pMax g j
  rw [fragmentAt, SplitPlan.fragment, hsize, hplan]
  simp [planOf]

theorem ceilDiv_pos {n d : Nat} (hn : 0 < n) (hd : 0 < d) : 0 < ceilDiv n d :=
  Nat.div_pos (by omega) hd

/-- Settles O51, by induction on the entries still free in the ACTIVE pair's line queue (`Placing.dispatchRun_outcome`). -/
theorem longFrameIsPlacedInOrder : Obligations.LongFrameIsPlacedInOrder := by
  unfold Obligations.LongFrameIsPlacedInOrder
  intro s f p ref hmin hmax hp64 _ hrules hframes hlimit hcells hstand _ hactive halone husable href hnear n k size before up
    hroom
  obtain ⟨w, hw, hexec⟩ := exec_lanFrameReceived_standing hmin hmax hrules hframes hlimit hcells hstand hactive
  obtain ⟨hdisp, hports, hpairs, hclasses, hused, hcount, hpending, -⟩ := beginSplit_of_admitted hw (s.offeredFrame f)
  have hframe := dispatch_frame (beginSplit (s.offeredFrame f) w)
  generalize beginSplit (s.offeredFrame f) w = u at *
  have hnext : u.disp.next = s.disp.next := by rw [hdisp]
  have hpair : ∀ q, u.pair q = s.pair q := pair_congr hpairs
  have hport : ∀ q, u.port q = s.port q := port_congr hports
  have hu : LoneRun u p ref s.cfg.pMax (s.offeredFrame f) :=
    { disp := by rw [hdisp]
      active := by rw [hpair, hactive]
      alone := fun q hq => by
        rw [hpair]
        exact halone q hq
      usable := by rwa [hpair, hport]
      reference := by rw [hpair, href]
      near := by rwa [hnext]
      empty := fun c => by
        rw [State.cls, hclasses]
        exact hframes c
      count := ceilDiv_pos (Nat.lt_of_lt_of_le (by decide) hmin) (Nat.lt_of_lt_of_le (by decide) hp64)
      room := by rwa [hport] }
  obtain ⟨placed, h⟩ := hu.dispatch_outcome
  have hbound := h.bound
  have hfull := h.full
  rw [hport] at hbound hfull
  refine ⟨_, placed, hexec, hbound, hfull, h.stopped, hframe.event.pending.trans hpending, ?_, ?_, h.held, h.split, h.standing,
    ?_, fun q hq => ?_, ?_, ?_, ?_, ?_⟩
  · rw [h.progress.queue, hport, hnext]
    exact congrArg _ (List.map_congr_left fun j _ => fragmentAt_eq s.cfg.pMax (s.offeredFrame f) s.disp.next j)
  · rw [h.progress.next, hnext]
  · rw [h.progress.reference, hnext]
  · obtain ⟨hsame, hsame'⟩ := hframe.idle q (by simpa [State.isActive, hpair] using halone q hq)
    exact ⟨hsame.trans (hpair q), hsame'.trans (hport q)⟩
  · rw [h.progress.dispatched, hcount _ rfl]
    rfl
  · rw [h.frames, hcount _ rfl]
    rfl
  · rw [h.holds, hcount _ rfl]
    rfl
  · rw [h.usedOut, hused]
    show _ - (if placed = k then ceilDiv n 128 else 0) = _
    split
    · exact Nat.add_sub_cancel ..
    · rfl

end Sys2Proof.Machine

/-! PROOFS. What the inbound path keeps of the rest of the part: the bounds of its own queues, the notices of the other
blocks and the NO-PATH count; and, but for joins, leaves and reports, the live set and T_reorder. -/

namespace Sys2Proof.Machine

/-- The notices that the inbound path raises (R80, R150, R158). -/
def NoticeInst.inbound : NoticeInst → Bool
  | .flushDone | .storeLevel | .gapRecorded => true
  | _ => false

theorem inbound_iff (i : NoticeInst) :
    i.inbound = true ↔ i.place.val = 17 ∨ i.place.val = 22 ∨ i.place.val = 23 := by
  cases i with
  | pairState p | commandDone p | queueFull p =>
    have := p.isLt
    simp only [NoticeInst.inbound, NoticeInst.place, Bool.false_eq_true, false_iff]
    omega
  | _ => simp [NoticeInst.inbound, NoticeInst.place]

/-- What the inbound path keeps: the bounds of the gap records and of the LAN transmit queue (R159, R163), the notices of
the other blocks, and the NO-PATH count. -/
structure InboundKept (s t : State) : Prop where
  gaps : s.rx.gaps.length ≤ 16 → t.rx.gaps.length ≤ 16
  lanQueue : s.lan.txQueue.length ≤ 8 → t.lan.txQueue.length ≤ 8
  notices : ∀ i : NoticeInst, i.inbound = false → t.occurrences i = s.occurrences i
  noPath : t.counter .noPath = s.counter .noPath

/-- What delivery keeps beside: the live set and T_reorder. -/
structure DeliveryKept (s t : State) : Prop extends InboundKept s t where
  live : t.rx.live = s.rx.live
  tReorder : t.rx.tReorder = s.rx.tReorder

theorem InboundKept.refl (s : State) : InboundKept s s := ⟨id, id, fun _ _ => rfl, rfl⟩

theorem InboundKept.trans {s t u : State} (h : InboundKept s t) (k : InboundKept t u) : InboundKept s u :=
  ⟨k.gaps ∘ h.gaps, k.lanQueue ∘ h.lanQueue, fun i hi => (k.notices i hi).trans (h.notices i hi),
    k.noPath.trans h.noPath⟩

theorem DeliveryKept.refl (s : State) : DeliveryKept s s := ⟨.refl s, rfl, rfl⟩

theorem DeliveryKept.trans {s t u : State} (h : DeliveryKept s t) (k : DeliveryKept t u) : DeliveryKept s u :=
  ⟨h.toInboundKept.trans k.toInboundKept, k.live.trans h.live, k.tReorder.trans h.tReorder⟩

/-- An act on other parts of the state keeps all of it. -/
theorem DeliveryKept.of_eq {s t : State} (hr : t.rx = s.rx) (hl : t.lan = s.lan)
    (hn : t.mgmt.notices = s.mgmt.notices) (hc : t.counters = s.counters) : DeliveryKept s t :=
  ⟨⟨fun h => hr ▸ h, fun h => hl ▸ h, fun i _ => by simp [State.occurrences, hn], by simp [State.counter, hc]⟩,
    by rw [hr], by rw [hr]⟩

/-- A change of the Reorder Engine's own state that lets the gap records be. -/
theorem modRx_inbound {f : Receiver → Receiver} {s : State}
    (h : s.rx.gaps.length ≤ 16 → (f s.rx).gaps.length ≤ 16) : InboundKept s (s.modRx f) :=
  ⟨h, id, fun _ _ => rfl, rfl⟩

/-! ### Counters and notices -/

theorem countBy_delivery {c : BondCounter} (h : BondCounter.noPath.place ≠ c.place) (n : Nat) (s : State) :
    DeliveryKept s (s.countBy c n) :=
  ⟨⟨id, id, fun _ _ => rfl, counter_countBy_ne h n s⟩, rfl, rfl⟩

theorem occurrences_raise_ne {i j : NoticeInst} (h : j.place ≠ i.place) (s : State) :
    (s.raise i).occurrences j = s.occurrences j := by
  unfold State.raise
  split
  · rfl
  · exact occurrences_setOccurrences_ne h _ s

theorem raise_delivery {i : NoticeInst} (h : i.inbound = true) (s : State) : DeliveryKept s (s.raise i) := by
  refine ⟨⟨by simp, by simp, fun j hj => occurrences_raise_ne (fun hp => ?_) s, by simp [State.counter]⟩, by simp,
    by simp⟩
  rw [inbound_iff, ← hp, ← inbound_iff, hj] at h
  cases h

/-! ### Cell Memory -/

theorem evalPressure_delivery (s : State) : DeliveryKept s (evalPressure s) := by
  unfold evalPressure
  split
  · exact .refl s
  · refine DeliveryKept.trans (t := if s.cells.pressed then s.count .pressureEntries else s) ?_ (.of_eq rfl rfl rfl rfl)
    split
    · exact countBy_delivery (by decide) 1 s
    · exact .refl s

theorem evalLevel_delivery (s : State) : DeliveryKept s (evalLevel s) := by
  unfold evalLevel
  split
  · exact .refl s
  · exact (raise_delivery rfl s).trans (.of_eq rfl rfl rfl rfl)

theorem evaluate_delivery (s : State) : DeliveryKept s (evaluate s) :=
  (evalPressure_delivery s).trans (evalLevel_delivery _)

theorem returnCells_delivery (side : Side) (n : Nat) (s : State) : DeliveryKept s (returnCells side n s) := by
  refine DeliveryKept.trans ?_ (evaluate_delivery _)
  exact .of_eq rfl rfl rfl rfl

theorem requestCells_delivery {side : Side} {n : Nat} {s t : State} (h : requestCells side n s = some t) :
    DeliveryKept s t := by
  unfold requestCells at h
  split at h
  · injection h with h
    subst h
    refine DeliveryKept.trans ?_ (evaluate_delivery _)
    exact .of_eq rfl rfl rfl rfl
  · cases h

/-- A discard of cells with a count. -/
theorem count_return_delivery {c : BondCounter} (h : BondCounter.noPath.place ≠ c.place) (side : Side) (n : Nat)
    (s : State) : DeliveryKept s (returnCells side n (s.count c)) :=
  (countBy_delivery h 1 s).trans (returnCells_delivery side n _)

/-! ### Frame Assembler -/

theorem setAsm_delivery (a : Assembler) (s : State) : DeliveryKept s (s.setAsm a) := .of_eq rfl rfl rfl rfl

/-- The LAN transmit queue takes a frame only below its bound (R163). -/
theorem lanAccept_delivery (f : LanFrame) (s : State) : DeliveryKept s (lanAccept f s) := by
  unfold lanAccept
  split
  · split
    · exact count_return_delivery (by decide) _ _ s
    · rename_i hfull
      refine ⟨⟨id, fun _ => ?_, fun _ _ => rfl, rfl⟩, rfl, rfl⟩
      have : ¬8 ≤ s.lan.txQueue.length := fun h => hfull (decide_eq_true h)
      simp only [List.length_append, List.length_singleton]
      omega
  · exact count_return_delivery (by decide) _ _ s

theorem asmComplete_delivery (octets : List Octet) (n : Nat) (s : State) :
    DeliveryKept s (asmComplete octets n s) := by
  unfold asmComplete
  split
  · exact (setAsm_delivery _ s).trans (count_return_delivery (by decide) _ _ _)
  · exact ((setAsm_delivery _ s).trans (countBy_delivery (by decide) 1 _)).trans (lanAccept_delivery _ _)

theorem asmKeep_delivery (soFar : List Octet) (held : Nat) (r : FragRecord) (s : State) :
    DeliveryKept s (asmKeep soFar held r s) := by
  unfold asmKeep
  dsimp only
  split
  · exact ((setAsm_delivery _ s).trans (count_return_delivery (by decide) _ _ _)).trans (returnCells_delivery _ _ _)
  · split
    · exact (((setAsm_delivery _ s).trans (returnCells_delivery _ _ _)).trans (returnCells_delivery _ _ _)).trans
        (countBy_delivery (by decide) 1 _)
    · rename_i s' h
      have h' : DeliveryKept s s' := by
        split at h
        · injection h with h
          exact h ▸ DeliveryKept.refl s
        · exact requestCells_delivery h
      have hk := fun octets n => (h'.trans (setAsm_delivery (.collecting octets n) _)).trans
        (returnCells_delivery .inbound r.cells _)
      split
      · exact (hk _ _).trans (asmComplete_delivery _ _ _)
      · exact hk _ _

theorem asmDiscard_delivery {c : BondCounter} (h : BondCounter.noPath.place ≠ c.place) (s : State) :
    DeliveryKept s (asmDiscard c s) := by
  unfold asmDiscard
  split
  · exact count_return_delivery h _ _ s
  · exact .refl s

theorem asmTake_delivery (r : FragRecord) (s : State) : DeliveryKept s (asmTake r s) := by
  unfold asmTake
  split
  · exact (asmDiscard_delivery (by decide) s).trans (asmKeep_delivery _ _ _ _)
  · exact count_return_delivery (by decide) _ _ s
  · exact asmKeep_delivery _ _ _ _
  · dsimp only
    refine DeliveryKept.trans (DeliveryKept.trans ?_ (setAsm_delivery _ _)) (returnCells_delivery _ _ _)
    split
    · exact .refl s
    · exact countBy_delivery (by decide) 1 s

theorem asmLoss_delivery (s : State) : DeliveryKept s (asmLoss s) := by
  unfold asmLoss
  split
  · exact setAsm_delivery _ s
  · exact (asmDiscard_delivery (by decide) s).trans (setAsm_delivery _ _)
  · exact .refl s

theorem asmResync_delivery (s : State) : DeliveryKept s (asmResync s) :=
  (asmDiscard_delivery (by decide) s).trans (setAsm_delivery _ _)

/-! ### Delivery (R147 to R153) -/

/-- The gap record queue takes a record only below its bound (R159). -/
theorem recordGap_delivery (g : GapRecord) (s : State) : DeliveryKept s (recordGap g s) := by
  unfold recordGap
  split
  · rename_i newest hlast
    split
    · refine ⟨modRx_inbound fun h => ?_, rfl, rfl⟩
      have : s.rx.gaps ≠ [] := by
        intro hnil
        simp [hnil] at hlast
      have := List.length_pos_iff.2 this
      simp only [List.length_append, List.length_dropLast, List.length_singleton]
      omega
    · split
      · rename_i hroom
        refine ⟨modRx_inbound fun _ => ?_, rfl, rfl⟩
        have : s.rx.gaps.length < 16 := hroom
        simp only [List.length_append, List.length_singleton]
        omega
      · exact countBy_delivery (by decide) 1 s
  · exact DeliveryKept.trans ⟨modRx_inbound fun _ => Nat.le_of_ble_eq_true rfl, rfl, rfl⟩ (raise_delivery rfl _)

theorem setNes_delivery (q : Seq) (s : State) : DeliveryKept s (s.setNes q) := ⟨modRx_inbound id, rfl, rfl⟩

theorem declare_delivery (f : Seq) (n : Nat) (cause : LossCause) (live : BitVec 8) (s : State) :
    DeliveryKept s (declare f n cause live s) :=
  ((asmLoss_delivery s).trans (recordGap_delivery _ _)).trans (countBy_delivery (by decide) _ _)

theorem declareTo_delivery (q : Seq) (cause : LossCause) (s : State) : DeliveryKept s (declareTo q cause s) :=
  (declare_delivery _ _ _ _ s).trans (setNes_delivery _ _)

theorem handOn_delivery (r : FragRecord) (s : State) : DeliveryKept s (handOn r s) :=
  ((asmTake_delivery r s).trans ⟨modRx_inbound id, rfl, rfl⟩).trans (setNes_delivery _ _)

theorem gapMove_delivery {s t : State} (h : gapMove s = some t) : DeliveryKept s t := by
  unfold gapMove at h
  split at h
  · cases h
  · split at h
    · injection h with h
      subst h
      split
      · exact ⟨modRx_inbound id, rfl, rfl⟩
      · exact handOn_delivery _ s
    · split at h
      · injection h with h
        subst h
        exact declareTo_delivery _ _ s
      · cases h

theorem gapMoves_delivery (n : Nat) (s : State) : DeliveryKept s (gapMoves n s) := by
  induction n generalizing s with
  | zero => exact .refl s
  | succ n ih =>
    unfold gapMoves
    split
    · exact .refl s
    · exact (gapMove_delivery ‹_›).trans (ih _)

theorem gapTimerStep_delivery (s : State) : DeliveryKept s (gapTimerStep s) := by
  unfold gapTimerStep
  split
  · split
    · exact ⟨modRx_inbound id, rfl, rfl⟩
    · exact .refl s
  · exact ⟨modRx_inbound id, rfl, rfl⟩

theorem flushStep_delivery (s : State) : DeliveryKept s (flushStep s) := by
  unfold flushStep
  split
  · split
    · exact DeliveryKept.trans ⟨modRx_inbound id, rfl, rfl⟩ (raise_delivery rfl _)
    · exact .refl s
  · exact .refl s

theorem unsyncStep_delivery (s : State) : DeliveryKept s (unsyncStep s) := by
  unfold unsyncStep
  split
  · exact DeliveryKept.trans ⟨modRx_inbound id, rfl, rfl⟩ (asmResync_delivery _)
  · exact .refl s

/-- A gap step keeps the live set, T_reorder and all bounds (R149). -/
theorem gapStep_delivery (s : State) : DeliveryKept s (gapStep s) :=
  (((gapMoves_delivery _ s).trans (gapTimerStep_delivery _)).trans (flushStep_delivery _)).trans (unsyncStep_delivery _)

theorem takeTells_delivery (n : Nat) (s : State) : DeliveryKept s (takeTells n s) := by
  induction n generalizing s with
  | zero => exact .refl s
  | succ n ih =>
    unfold takeTells
    split
    · exact .refl s
    · refine DeliveryKept.trans (DeliveryKept.trans ?_ (gapStep_delivery _)) (ih _)
      exact ⟨⟨id, id, fun _ _ => rfl, rfl⟩, rfl, rfl⟩

theorem drainTells_delivery (s : State) : DeliveryKept s (drainTells s) := takeTells_delivery _ s

theorem rxFollow_delivery (s : State) : DeliveryKept s (rxFollow s) :=
  (gapStep_delivery s).trans (drainTells_delivery _)

theorem storeData_delivery (q : Seq) (a b : Bool) (l : List Octet) (s : State) :
    DeliveryKept s (storeData q a b l s) := by
  unfold storeData
  dsimp only
  split
  · exact (requestCells_delivery ‹_›).trans ⟨modRx_inbound id, rfl, rfl⟩
  · exact countBy_delivery (by decide) 1 s

theorem slideWalk_delivery (n : Nat) (t : Seq) (s : State) : DeliveryKept s (slideWalk n t s) := by
  induction n generalizing s with
  | zero => exact .refl s
  | succ n ih =>
    unfold slideWalk
    split
    · exact .refl s
    · split
      · split
        · split
          · exact (handOn_delivery _ s).trans (ih _)
          · exact (declareTo_delivery _ _ s).trans (ih _)
        · exact declareTo_delivery _ _ s
      · exact declareTo_delivery _ _ s

theorem slideTo_delivery (t : Seq) (s : State) : DeliveryKept s (slideTo t s) :=
  (slideWalk_delivery _ t s).trans ⟨modRx_inbound id, rfl, rfl⟩

theorem dropStore_delivery {c : Option BondCounter} (h : ∀ d, c = some d → BondCounter.noPath.place ≠ d.place) (n : Nat)
    (s : State) : DeliveryKept s (dropStore c n s) := by
  induction n generalizing s with
  | zero => exact .refl s
  | succ n ih =>
    unfold dropStore
    split
    · exact .refl s
    · rename_i r _
      have hw : DeliveryKept s (s.modRx fun x => { x with window := eraseSlot (slotOf r.seq) x.window }) :=
        ⟨modRx_inbound id, rfl, rfl⟩
      cases c with
      | none => exact (hw.trans (returnCells_delivery _ _ _)).trans (ih _)
      | some d => exact (hw.trans (count_return_delivery (h d rfl) _ _ _)).trans (ih _)

theorem endFlush_delivery (s : State) : DeliveryKept s (endFlush s) := by
  unfold endFlush
  split
  · exact DeliveryKept.trans ⟨modRx_inbound id, rfl, rfl⟩ (raise_delivery rfl _)
  · exact .refl s

/-! ### Events that change the live set or T_reorder -/

theorem setMark_inbound (p : PairNo) (m : Option Seq) (s : State) : InboundKept s (s.setMark p m) :=
  ⟨id, id, fun _ _ => rfl, rfl⟩

theorem recomputeT_inbound (s : State) : InboundKept s (recomputeT s) := by
  unfold recomputeT
  split
  · exact .refl s
  · exact modRx_inbound id

theorem membershipFollow_inbound (s : State) : InboundKept s (membershipFollow s) :=
  ((gapStep_delivery s).toInboundKept.trans (recomputeT_inbound _)).trans (drainTells_delivery _).toInboundKept

theorem rxJoin_inbound (p : PairNo) (m : Seq) (e : BitVec 8) (s : State) : InboundKept s (rxJoin p m e s) := by
  unfold rxJoin
  split
  · split
    · exact (setMark_inbound _ _ s).trans (membershipFollow_inbound _)
    · exact (setMark_inbound _ _ s).trans (rxFollow_delivery _).toInboundKept
  · refine InboundKept.trans ?_ (membershipFollow_inbound _)
    refine InboundKept.trans ?_ (countBy_delivery (by decide) 1 _).toInboundKept
    exact (modRx_inbound id).trans (setMark_inbound _ _ _)

theorem rxRemove_inbound (p : PairNo) (s : State) : InboundKept s (rxRemove p s) := by
  unfold rxRemove
  split
  · exact (setMark_inbound _ _ s).trans (membershipFollow_inbound _)
  · exact .refl s

theorem advanceMark_inbound (p : PairNo) (m : Seq) (s : State) : InboundKept s (advanceMark p m s) := by
  unfold advanceMark
  split
  · split
    · exact setMark_inbound _ _ s
    · exact .refl s
  · exact .refl s

theorem rxProgress_inbound (p : PairNo) (m : Seq) (s : State) : InboundKept s (rxProgress p m s) := by
  unfold rxProgress
  split
  · split
    · exact (setMark_inbound _ _ s).trans (rxFollow_delivery _).toInboundKept
    · exact .refl s
  · exact .refl s

theorem rxData_inbound (p : PairNo) (a b : Bool) (q : Seq) (l : List Octet) (s : State) :
    InboundKept s (rxData p a b q l s) := by
  have h0 : DeliveryKept s (s.count .dataArrived) := countBy_delivery (by decide) 1 s
  unfold rxData
  dsimp only
  split
  · have h1 := h0.toInboundKept.trans (advanceMark_inbound p (q + 1) (s.count .dataArrived))
    split
    · split
      · exact h1.trans ((storeData_delivery _ _ _ _ _).trans (rxFollow_delivery _)).toInboundKept
      · exact h1.trans ((countBy_delivery (by decide) 1 _).trans (rxFollow_delivery _)).toInboundKept
    · split
      · exact h1.trans ((((slideTo_delivery _ _).trans (storeData_delivery _ _ _ _ _)).trans
          (countBy_delivery (by decide) 1 _)).trans (rxFollow_delivery _)).toInboundKept
      · exact h1.trans ((countBy_delivery (by decide) 1 _).trans (rxFollow_delivery _)).toInboundKept
  · exact (h0.trans (countBy_delivery (by decide) 1 _)).toInboundKept

theorem rxPeerRestart_inbound (s : State) : InboundKept s (rxPeerRestart s) := by
  unfold rxPeerRestart
  dsimp only
  refine InboundKept.trans ?_ (drainTells_delivery _).toInboundKept
  refine InboundKept.trans ?_ (endFlush_delivery _).toInboundKept
  refine InboundKept.trans ?_ (modRx_inbound id)
  refine InboundKept.trans ?_ (asmResync_delivery _).toInboundKept
  refine InboundKept.trans ?_ (modRx_inbound id)
  split
  · exact (modRx_inbound id).trans ((dropStore_delivery (fun d hd => by cases hd; decide) _ _).trans
      (declare_delivery _ _ _ _ _)).toInboundKept
  · exact modRx_inbound id

theorem rxResetBond_inbound (s : State) : InboundKept s (rxResetBond s) :=
  InboundKept.trans (modRx_inbound fun _ => Nat.zero_le _) (endFlush_delivery _).toInboundKept

theorem rxLanFreed_inbound (s : State) : InboundKept s (rxLanFreed s) :=
  InboundKept.trans (modRx_inbound id) (rxFollow_delivery _).toInboundKept

theorem rxReport_inbound (p : PairNo) (s : State) : InboundKept s (rxReport p s) := by
  unfold rxReport
  split
  · exact (recomputeT_inbound s).trans (rxFollow_delivery _).toInboundKept
  · exact .refl s

theorem rxGapTimeout_inbound (s : State) : InboundKept s (rxGapTimeout s) := by
  unfold rxGapTimeout
  split
  · split
    · exact (((countBy_delivery (by decide) 1 s).trans (declareTo_delivery _ _ _)).trans (rxFollow_delivery _)).toInboundKept
    · exact .refl s
  · exact modRx_inbound id

theorem rxFlush_inbound (q : Seq) (s : State) : InboundKept s (rxFlush q s) :=
  InboundKept.trans (modRx_inbound id)
    ((countBy_delivery (by decide) 1 _).trans (rxFollow_delivery _)).toInboundKept

theorem returnFrames_delivery (fs : List OutFrame) (s : State) : DeliveryKept s (returnFrames fs s) := by
  induction fs generalizing s with
  | nil => exact .refl s
  | cons f fs ih => exact (returnCells_delivery _ _ s).trans (ih _)

theorem emptyOutbound_delivery (s : State) : DeliveryKept s (emptyOutbound s) := by
  have hd : ∀ (d : Dispatcher) (u : State), DeliveryKept u { u with disp := d } := fun _ _ => .of_eq rfl rfl rfl rfl
  have hc : DeliveryKept s { s with classes := s.classes.map ClassQueue.emptied } := .of_eq rfl rfl rfl rfl
  have h := hc.trans (returnFrames_delivery s.queued _)
  unfold emptyOutbound
  dsimp only
  split
  · exact (h.trans (hd _ _)).trans (returnCells_delivery _ _ _)
  · exact h.trans (hd _ _)

end Sys2Proof.Machine

/-! PROOFS. The Pair Port's acts as functions of the port alone: orders, emptying and the entry to a state, and the law of the
line queue under each (R19, R24, R25, R27, R31, R32, R39). -/

namespace Sys2Proof.Machine

/-! ### Orders (R19) -/

/-- A port that has sent its order once more. -/
def Port.orderSent (x : Port) : Port :=
  match x.order with
  | .unordered => x
  | .quiet => { x with sent := x.sent ++ [.order .quiet], residue := [] }
  | .train => { x with sent := x.sent ++ [.order .train] }

/-- A port under an order, which it has sent if it is a new one. -/
def Port.ordered (o : Order) (x : Port) : Port := if x.order = o then x else ({ x with order := o }).orderSent

theorem sendOrder_port (p : PairNo) (s : State) : (sendOrder p s).port p = (s.port p).orderSent := port_modPort p _ s

theorem setOrder_port (p : PairNo) (o : Order) (s : State) : (setOrder p o s).port p = (s.port p).ordered o := by
  unfold setOrder Port.ordered
  split
  · rfl
  · rw [sendOrder_port, port_modPort]

/-- Sending an order touches only what was sent and the residue. -/
theorem Port.orderSent_eq (x : Port) : x.orderSent = { x with sent := x.orderSent.sent, residue := x.orderSent.residue } := by
  unfold Port.orderSent
  split <;> rfl

theorem Port.orderSent_residue (x : Port) : x.orderSent.residue = x.residue ∨ x.orderSent.residue = [] := by
  unfold Port.orderSent
  split
  · exact .inl rfl
  · exact .inr rfl
  · exact .inl rfl

/-- Setting an order touches only the order, what was sent and the residue. -/
theorem Port.ordered_eq (o : Order) (x : Port) : x.ordered o =
    { x with order := o, sent := (x.ordered o).sent, residue := (x.ordered o).residue } := by
  unfold Port.ordered
  split
  · rename_i h
    subst h
    rfl
  · exact ({ x with order := o } : Port).orderSent_eq

theorem Port.ordered_residue (o : Order) (x : Port) : (x.ordered o).residue = x.residue ∨ (x.ordered o).residue = [] := by
  unfold Port.ordered
  split
  · exact .inl rfl
  · exact ({ x with order := o } : Port).orderSent_residue

/-! ### Emptying (R31) and entry to a state (R39) -/

/-- A port with its line queue emptied. -/
def Port.emptied (x : Port) : Port :=
  { x with queue := [], takenFromHead := 0,
           residue := x.residue ++ if x.order = .train ∧ x.report.line = .showtime then x.uncovered else [] }

theorem emptyQueue_port (p : PairNo) (s : State) : (emptyQueue p s).port p = (s.port p).emptied := by
  simp [emptyQueue, State.countPairBy, Port.emptied, untaken_eq_uncovered]

/-- A port as the entry of its pair from state `old` to state `new` leaves it: the order, the emptying, the handover. -/
def Port.entered (old new : PairState) (x : Port) : Port :=
  (if entryEmpties old new then (x.ordered new.order).emptied else x.ordered new.order).handAll new.gateOpen

theorem entering_port {during : State → State} (hd : ∀ x, PurgeFrame x (during x)) (p : PairNo) (new : PairState)
    (why : Reason) (s : State) :
    (entering during p new why s).port p = (s.port p).entered (s.pair p).state new := by
  unfold entering Port.entered
  dsimp only
  rw [port_congr (activeChanged_frame hd _ _).ports p, port_raise, handover_port_self]
  split
  · rw [emptyQueue_port, setOrder_port, port_modPair, emptyQueue_pair, setOrder_pair, pair_modPair]
    rfl
  · rw [setOrder_port, port_modPair, setOrder_pair, pair_modPair]
    rfl

/-- What entry to a state makes of the pair's port (R39). -/
theorem enter_port (p : PairNo) (new : PairState) (why : Reason) (s : State) :
    (enter p new why s).port p = (s.port p).entered (s.pair p).state new := by
  obtain ⟨during, u, hd, hu, h⟩ := enter_cases p new why s
  rw [h, entering_port hd, port_congr hu.ports p, pair_congr hu.pairs p]

/-- Under a closed gate nothing is handed over. -/
@[simp] theorem Port.handAll_false (x : Port) : x.handAll false = x := rfl

/-- Entry to a state with a closed gate: the order, then the emptying (R39). -/
theorem Port.entered_closed {new : PairState} (h : new.gateOpen = false) (old : PairState) (x : Port) :
    x.entered old new = (x.ordered new.order).emptied := by
  have he : entryEmpties old new = true := by
    cases new with
    | settling | joining | active | leaving => cases h
    | _ => rfl
  rw [Port.entered, if_pos he, h, Port.handAll_false]

/-! ### The law of the line queue under each -/

/-- The law speaks of line queue, "taken from head" and residue only. -/
theorem LineQueueLaw.of_same {x y : Port} (h : LineQueueLaw x) (hq : y.queue = x.queue)
    (ht : y.takenFromHead = x.takenFromHead) (hr : y.residue = x.residue ∨ y.residue = []) : LineQueueLaw y := by
  obtain ⟨handed, staged, hp⟩ := h.parts
  obtain ⟨htaken, hfresh⟩ := h.taken_parts hp
  have hcredit := h.credit_parts hp
  have hlen : y.residue.length ≤ x.residue.length := by
    rcases hr with hr | hr <;> simp [hr]
  refine LineQueueLaw.of_parts ⟨hq.trans hp.queue, hp.handed, hp.staged⟩ (by omega) (hq ▸ h.entries) ?_ ?_
    (ht ▸ htaken) (ht ▸ hfresh) ?_
  · rw [Port.backlog, hq, ht]
    exact h.octets
  · rw [hq]
    intro f hf
    obtain ⟨e, he, rfl⟩ := List.mem_map.1 hf
    exact h.sizes e he
  · rcases hr with hr | hr <;> rw [hr]
    · exact h.residue
    · exact fun _ hc => nomatch hc

theorem LineQueueLaw.of_empty {x : Port} (hq : x.queue = []) (ht : x.takenFromHead = 0) (hr : x.residue.length ≤ 2)
    (hpos : ∀ c ∈ x.residue, 0 < c) : LineQueueLaw x := by
  refine LineQueueLaw.of_parts (handed := []) (staged := []) ⟨hq, by simp, by simp⟩ (by simpa using hr) (by simp [hq]) ?_
    (by simp [hq]) (by simp) (fun _ => ht) hpos
  rw [Port.backlog, hq]
  exact (Nat.sub_le ..).trans (Nat.zero_le _)

theorem LineQueueLaw.orderSent {x : Port} (h : LineQueueLaw x) : LineQueueLaw x.orderSent :=
  h.of_same (by rw [x.orderSent_eq]) (by rw [x.orderSent_eq]) x.orderSent_residue

/-- What is not covered of the HANDED entries: a count of octets for each, and none of them 0 (R28, R31). -/
theorem LineQueueLaw.uncovered {x : Port} (h : LineQueueLaw x) :
    x.uncovered.length + x.residue.length ≤ 2 ∧ ∀ c ∈ x.uncovered, 0 < c := by
  obtain ⟨handed, staged, hp⟩ := h.parts
  obtain ⟨htaken, -⟩ := h.taken_parts hp
  have hcredit := h.credit_parts hp
  rw [Port.uncovered, hp.queue, filter_handed_append hp.handed hp.staged]
  cases handed with
  | nil => exact ⟨by simpa using hcredit, by simp⟩
  | cons e rest =>
    refine ⟨by simpa using hcredit, ?_⟩
    simp only [List.map_cons, List.forall_mem_cons, List.forall_mem_map]
    exact ⟨Nat.sub_pos_of_lt (htaken e rest rfl), fun f _ => Nat.lt_of_lt_of_le (by decide) (size_ge f.frag)⟩

theorem LineQueueLaw.emptied {x : Port} (h : LineQueueLaw x) : LineQueueLaw x.emptied := by
  obtain ⟨hlen, hpos⟩ := h.uncovered
  refine LineQueueLaw.of_empty rfl rfl ?_ fun c hc => ?_
  · simp only [Port.emptied, List.length_append]
    split
    · omega
    · simp only [List.length_nil]
      omega
  · rcases List.mem_append.1 hc with hc | hc
    · exact h.residue c hc
    · split at hc
      · exact hpos c hc
      · cases hc

/-- Withdrawing the STAGED entries keeps the law (R32). -/
theorem LineQueueLaw.withdrawn {x : Port} (h : LineQueueLaw x) :
    LineQueueLaw { x with queue := x.queue.filter (·.handed) } := by
  obtain ⟨handed, staged, hp⟩ := h.parts
  obtain ⟨htaken, hfresh⟩ := h.taken_parts hp
  have hcredit := h.credit_parts hp
  have hoctets := h.octets
  rw [Port.backlog, hp.queue, queueSize_append] at hoctets
  have hq : x.queue.filter (·.handed) = handed := by rw [hp.queue, filter_handed_append hp.handed hp.staged]
  refine LineQueueLaw.of_parts (handed := handed) (staged := [])
    ⟨by rw [hq, List.append_nil], hp.handed, fun _ he => nomatch he⟩ hcredit ?_ ?_ ?_ htaken hfresh h.residue
  · dsimp only
    rw [hq]
    omega
  · rw [Port.backlog, hq]
    dsimp only
    omega
  · rw [hq]
    intro f hf
    obtain ⟨e, he, rfl⟩ := List.mem_map.1 hf
    exact h.sizes e (by rw [hp.queue]; exact List.mem_append_left _ he)

end Sys2Proof.Machine

/-! PROOFS. Every act on ports, pairs, dispatcher and inbound path keeps the bounds of their buffers (R24, R159, R163, R177,
R106): one lemma for each act, from the acts it is made of. -/

namespace Sys2Proof.Machine

/-- The bounds of `Bounded` but for those of the management link. -/
structure Buffers (s : State) : Prop where
  lineQueues : ∀ p, LineQueueLaw (s.port p)
  gapRecords : s.rx.gaps.length ≤ 16
  lanQueue : s.lan.txQueue.length ≤ 8
  pMax : 64 ≤ s.cfg.pMax ∧ s.cfg.pMax ≤ 512
  plan : ∀ plan, s.disp.split = some plan → plan.large ≤ 512 ∧ plan.small ≤ 512

variable {s t : State}

/-! ### Acts on one part of the state -/

theorem Buffers.of_eq (h : Buffers s) (hp : t.ports = s.ports) (hr : t.rx = s.rx) (hl : t.lan = s.lan)
    (hc : t.cfg = s.cfg) (hd : t.disp.split = s.disp.split) : Buffers t :=
  ⟨fun p => port_congr hp p ▸ h.lineQueues p, hr ▸ h.gapRecords, hl ▸ h.lanQueue, hc ▸ h.pMax,
    fun plan hplan => h.plan plan (hd ▸ hplan)⟩

/-- What the inbound path does keeps all bounds. -/
theorem Buffers.inbound (h : Buffers s) (hf : InboundFrame s t) (hk : InboundKept s t) : Buffers t :=
  ⟨fun p => port_congr hf.ports p ▸ h.lineQueues p, hk.gaps h.gapRecords, hk.lanQueue h.lanQueue, hf.cfg ▸ h.pMax,
    fun plan hplan => h.plan plan (hf.disp ▸ hplan)⟩

theorem Buffers.modPort (h : Buffers s) (p : PairNo) {f : Port → Port} (hf : LineQueueLaw (f (s.port p))) :
    Buffers (s.modPort p f) := by
  refine ⟨fun q => ?_, h.gapRecords, h.lanQueue, h.pMax, h.plan⟩
  by_cases hq : q = p
  · subst hq
    rwa [port_modPort]
  · rw [port_modPort_ne hq]
    exact h.lineQueues q

theorem Buffers.modPair (h : Buffers s) (p : PairNo) (f : Pair → Pair) : Buffers (s.modPair p f) :=
  h.of_eq rfl rfl rfl rfl rfl

theorem Buffers.modDisp (h : Buffers s) {f : Dispatcher → Dispatcher}
    (hf : ∀ plan, (f s.disp).split = some plan → plan.large ≤ 512 ∧ plan.small ≤ 512) : Buffers (s.modDisp f) :=
  ⟨h.lineQueues, h.gapRecords, h.lanQueue, h.pMax, hf⟩

theorem Buffers.raise (h : Buffers s) (i : NoticeInst) : Buffers (s.raise i) :=
  h.of_eq (raise_ports i s) (raise_rx i s) (raise_lan i s) (raise_cfg i s) (congrArg Dispatcher.split (raise_disp i s))

theorem Buffers.countBy (h : Buffers s) (c : BondCounter) (n : Nat) : Buffers (s.countBy c n) :=
  h.of_eq rfl rfl rfl rfl rfl

theorem Buffers.race (h : Buffers s) : Buffers s.race.2 := h.of_eq rfl rfl rfl rfl rfl

theorem Buffers.returnCells (h : Buffers s) (side : Side) (n : Nat) : Buffers (returnCells side n s) :=
  h.inbound (returnCells_frame side n s).inbound (returnCells_delivery side n s).toInboundKept

theorem Buffers.drainTells (h : Buffers s) : Buffers (drainTells s) :=
  h.inbound (drainTells_frame s) (drainTells_delivery s).toInboundKept

theorem Buffers.rxRemove (h : Buffers s) (p : PairNo) : Buffers (rxRemove p s) :=
  h.inbound (rxRemove_frame p s) (rxRemove_inbound p s)

/-! ### Pair Port -/

theorem Buffers.handover (h : Buffers s) (p : PairNo) : Buffers (handover p s) := by
  unfold Machine.handover
  split
  · exact h.modPort p ((h.lineQueues p).handAll true)
  · exact h

/-- A placement that finds room keeps the bounds (R25). -/
theorem Buffers.stage (h : Buffers s) {p : PairNo} {f : Fragment} (hroom : (s.port p).hasRoom f.size = true)
    (hsize : f.size ≤ 520) : Buffers (stage p f s) :=
  ((h.modPort p ((h.lineQueues p).append hroom hsize)).modPair p _).handover p

theorem Buffers.sendOrder (h : Buffers s) (p : PairNo) : Buffers (sendOrder p s) :=
  h.modPort p (h.lineQueues p).orderSent

theorem Buffers.setOrder (h : Buffers s) (p : PairNo) (o : Order) : Buffers (setOrder p o s) := by
  unfold Machine.setOrder
  split
  · exact h
  · exact (h.modPort p ((h.lineQueues p).of_same rfl rfl (.inl rfl))).sendOrder p

theorem Buffers.emptyQueue (h : Buffers s) (p : PairNo) : Buffers (emptyQueue p s) :=
  (h.modPort p (f := Port.emptied) (h.lineQueues p).emptied).modPair p _

theorem Buffers.withdraw (h : Buffers s) (p : PairNo) : Buffers (withdraw p s) :=
  (h.modPort p (f := fun x => { x with queue := x.queue.filter (·.handed) }) (h.lineQueues p).withdrawn).modPair p _

theorem Buffers.keepReport (h : Buffers s) (p : PairNo) (r : Report) : Buffers (keepReport p r s) := by
  refine (h.modPort p ((h.lineQueues p).of_same rfl rfl ?_)).handover p
  dsimp only
  split
  · exact .inl rfl
  · exact .inr rfl

/-- A TAKEN applied keeps the bounds (R28). -/
theorem Buffers.applyTaken (h : Buffers s) (p : PairNo) (n : Nat) : Buffers (applyTaken p n s).1 := by
  obtain ⟨m, ht, -⟩ := applyTaken_spec p n s (h.lineQueues p)
  have hsame : ∀ {α} (f : State → α), (∀ x u, f (u.setPort p x) = f u) → (∀ g u, f (u.modPair p g) = f u) →
      f (Machine.applyTaken p n s).1 = f s := fun f h1 h2 => by
    unfold Machine.applyTaken
    dsimp only
    split
    · exact ((h2 _ _).trans (h2 _ _)).trans (h1 _ _)
    · exact (((h2 _ _).trans (h2 _ _)).trans (h2 _ _)).trans (h1 _ _)
  refine ⟨fun q => ?_, ?_, ?_, ?_, ?_⟩
  · by_cases hq : q = p
    · exact hq ▸ ht.covered.law
    · rw [ht.frame.ports q hq]
      exact h.lineQueues q
  · rw [hsame State.rx (fun _ _ => rfl) fun _ _ => rfl]
    exact h.gapRecords
  · rw [hsame State.lan (fun _ _ => rfl) fun _ _ => rfl]
    exact h.lanQueue
  · rw [ht.frame.event.cfg]
    exact h.pMax
  · rw [ht.disp]
    exact h.plan

/-! ### Purge and state entry (R39, R101) -/

theorem Buffers.emptyOutbound (h : Buffers s) : Buffers (emptyOutbound s) := by
  have hf := emptyOutbound_frame s
  have hk := emptyOutbound_delivery s
  refine ⟨fun p => port_congr hf.ports p ▸ h.lineQueues p, hk.gaps h.gapRecords, hk.lanQueue h.lanQueue,
    hf.event.cfg ▸ h.pMax, fun plan hplan => ?_⟩
  have hnone : (Machine.emptyOutbound s).disp.split = none := by
    unfold Machine.emptyOutbound
    dsimp only
    split
    · rw [(returnCells_frame _ _ _).disp]
    · rename_i hs
      dsimp only
      rw [(returnFrames_frame _ _).disp]
      exact hs
  rw [hnone] at hplan
  cases hplan

theorem Buffers.activeChanged (h : Buffers s) {during : State → State} (hd : ∀ x, Buffers x → Buffers (during x))
    (n : Nat) : Buffers (activeChanged during n s) := by
  unfold Machine.activeChanged
  split
  · split
    · exact h
    · exact h.raise _
  · split
    · exact (hd _ ((h.raise _).countBy _ _).emptyOutbound).drainTells
    · exact h

theorem Buffers.entering (h : Buffers s) {during : State → State} (hd : ∀ x, Buffers x → Buffers (during x))
    (p : PairNo) (new : PairState) (why : Reason) : Buffers (entering during p new why s) := by
  unfold Machine.entering
  dsimp only
  have h2 := (h.modPair p fun r => r.entered new why).setOrder p new.order
  split
  · exact (((h2.emptyQueue p).handover p).raise _).activeChanged hd _
  · exact ((h2.handover p).raise _).activeChanged hd _

/-- Whatever the order of removal and purge, an act that keeps the bounds keeps them (R75). -/
theorem Buffers.withRemoval (h : Buffers s) (p : PairNo) {act : (State → State) → State → State}
    (ha : ∀ during, (∀ x, Buffers x → Buffers (during x)) → ∀ u, Buffers u → Buffers (act during u)) :
    Buffers (withRemoval p act s) := by
  unfold Machine.withRemoval
  split
  · dsimp only
    split
    · refine ha _ (fun x hx => ?_) _ h.race.race
      split
      · exact hx.drainTells.rxRemove p
      · exact hx.rxRemove p
    · exact ha id (fun _ => id) _ (h.race.race.rxRemove p)
  · exact ha id (fun _ => id) _ (h.rxRemove p)

theorem Buffers.enter (h : Buffers s) (p : PairNo) (new : PairState) (why : Reason) : Buffers (enter p new why s) := by
  unfold Machine.enter
  split
  · exact h.withRemoval p fun during hd u hu => hu.entering hd p new why
  · exact h.entering (fun _ => id) p new why

theorem Buffers.park (h : Buffers s) (p : PairNo) : Buffers (park p s) := h.enter p _ _

theorem Buffers.hostDone (h : Buffers s) (p : PairNo) : Buffers (hostDone p s) := by
  unfold Machine.hostDone
  split
  · exact (h.modPair p _).raise _
  · exact h

theorem Buffers.startParked (h : Buffers s) (p : PairNo) : Buffers (startParked p s) := by
  unfold Machine.startParked
  split
  · split
    · exact h.enter p _ _
    · exact h.enter p _ _
  · exact h.modPair p _

theorem Buffers.restart (h : Buffers s) (p : PairNo) : Buffers (restart p s) := by
  unfold Machine.restart
  split
  · exact h.enter p _ _
  · exact h.park p

/-! ### Control fragments -/

theorem Buffers.place (h : Buffers s) {p : PairNo} {f : Fragment} (hsize : f.size ≤ 520) (hp : place p f s = some t) :
    Buffers t := by
  obtain ⟨hroom, rfl⟩ := place_frame hp
  exact h.stage hroom hsize

/-- No JOIN, JOIN-ACK, LEAVE or PROGRESS is longer than 12 octets (R3). -/
theorem size_le_of_not_data {f : Fragment} (h : f.isData = false) : f.size ≤ 520 := by
  cases f with
  | data => cases h
  | _ => simp [Fragment.size, Fragment.payload]

theorem Buffers.placeJoin (h : Buffers s) (p : PairNo) : Buffers (placeJoin p s) := by
  unfold Machine.placeJoin
  split
  · exact (h.place (size_le_of_not_data rfl) ‹_›).modPair p _
  · exact h.modPair p _

theorem Buffers.placeAck (h : Buffers s) (p echo : PairNo) (r : JoinResult) : Buffers (placeAck p echo r s) := by
  unfold Machine.placeAck
  split
  · exact (h.place (size_le_of_not_data rfl) ‹_›).modPair p _
  · exact h.modPair p _

theorem Buffers.placeLeave (h : Buffers s) (p : PairNo) (why : LeaveReason) : Buffers (placeLeave p why s) := by
  unfold Machine.placeLeave
  split
  · exact (h.place (size_le_of_not_data rfl) ‹_›).modPair p _
  · exact h.modPair p _

theorem Buffers.placeProgress (h : Buffers s) (p : PairNo) : Buffers (placeProgress p s) := by
  unfold Machine.placeProgress
  split
  · exact (h.place (size_le_of_not_data rfl) ‹_›).modPair p _
  · exact h

theorem Buffers.renewalTest (h : Buffers s) (p : PairNo) : Buffers (renewalTest p s) := by
  unfold Machine.renewalTest
  split
  · exact (h.modPair p _).placeProgress p
  · exact h

theorem Buffers.renewalTests (h : Buffers s) : Buffers (renewalTests s) :=
  forPairs_induct (P := Buffers) (fun p _ hq => hq.renewalTest p) s h

theorem Buffers.pairRoom (h : Buffers s) (p : PairNo) : Buffers (pairRoom p s) := by
  have hack : Buffers (tryAck p s) := by
    unfold tryAck
    split
    · exact h.placeAck p _ _
    · exact h
  have hjoin : Buffers (tryJoin p (tryAck p s)) := by
    unfold tryJoin
    split
    · exact hack.placeJoin p
    · exact hack
  have hleave : Buffers (tryLeave p (tryJoin p (tryAck p s))) := by
    unfold tryLeave
    split
    · exact hjoin.placeLeave p _
    · exact hjoin
  unfold Machine.pairRoom tryRenewal
  split
  · exact hleave.placeProgress p
  · exact hleave

theorem Buffers.startProgress (h : Buffers s) (p : PairNo) : Buffers (startProgress p s) := by
  unfold Machine.startProgress
  split
  · exact h.modPair p _
  · exact h

/-! ### Fragment Dispatcher -/

theorem Buffers.selectFrame (h : Buffers s) {f : OutFrame} (hs : selectFrame s = some (f, t)) : Buffers t := by
  unfold Machine.selectFrame at hs
  split at hs
  · cases hs
  · dsimp only at hs
    split at hs
    · cases hs
    · obtain ⟨-, rfl⟩ := Prod.mk.inj (Option.some.inj hs)
      split
      · exact h.of_eq rfl rfl rfl rfl rfl
      · exact h.of_eq rfl rfl rfl rfl rfl

/-- The plan of a new frame is within the bound of P (R106, R107). -/
theorem Buffers.beginSplit (h : Buffers s) (f : OutFrame) : Buffers (beginSplit f s) := by
  refine h.modDisp fun plan hplan => ?_
  obtain rfl := Option.some.inj hplan
  exact ⟨(planOf_large_le _ f).trans h.pMax.2, (planOf_small_le _ f).trans h.pMax.2⟩

/-- A fragment placed on the pair chosen for it keeps the bounds (R110, R111, R115). -/
theorem Buffers.placeFragment (h : Buffers s) {p : PairNo} {plan : SplitPlan} (hs : s.disp.split = some plan)
    (hp : choose s plan.size = some p) : Buffers (placeFragment p plan s) := by
  obtain ⟨-, -, hlen, hoct, -⟩ := (eligible_iff s plan.size p).1 (choose_eligible hp)
  have hd : Buffers (s.modDisp fun d =>
      { d with next := d.next + 1, split := some plan.advance, held := false, midRun := false }) := by
    refine h.modDisp fun plan' hplan => ?_
    obtain rfl := Option.some.inj hplan
    exact h.plan plan hs
  have hsize := fragment_size_le_size plan s.disp.next
  have hroom : (s.port p).hasRoom (plan.fragment s.disp.next).size = true := Port.hasRoom_iff.2 ⟨hlen, by omega⟩
  exact ((hd.stage hroom (fragment_size_le (h.plan plan hs) _)).modPair p _).countBy _ _

theorem Buffers.finishFrame (h : Buffers s) (plan : SplitPlan) : Buffers (finishFrame plan s) := by
  have hd : Buffers (s.modDisp fun d => { d with split := none }) := h.modDisp fun plan hplan => by cases hplan
  exact (hd.countBy _ _).returnCells _ _

theorem Buffers.dispatchMove (h : Buffers s) {b : Bool} (hm : dispatchMove s = some (t, b)) : Buffers t := by
  unfold Machine.dispatchMove at hm
  split at hm
  · rename_i hsplit
    split at hm
    · obtain ⟨rfl, -⟩ := Prod.mk.inj (Option.some.inj hm)
      exact (h.selectFrame ‹_›).beginSplit _
    · split at hm
      · cases hm
      · obtain ⟨rfl, -⟩ := Prod.mk.inj (Option.some.inj hm)
        exact h.modDisp h.plan
  · split at hm
    · obtain ⟨rfl, -⟩ := Prod.mk.inj (Option.some.inj hm)
      split
      · exact (h.placeFragment ‹_› ‹_›).finishFrame _
      · exact h.placeFragment ‹_› ‹_›
    · split at hm
      · cases hm
      · obtain ⟨rfl, -⟩ := Prod.mk.inj (Option.some.inj hm)
        exact (h.modDisp h.plan).countBy _ _

theorem Buffers.race_if (h : Buffers s) (b : Bool) : Buffers (if b then s.race else (false, s)).2 := by
  split
  · exact h.race
  · exact h

theorem Buffers.dispatchRun (h : Buffers s) (n : Nat) (owed : Bool) : Buffers (dispatchRun n owed s) := by
  induction n generalizing owed s with
  | zero =>
    unfold Machine.dispatchRun
    split
    · exact h.renewalTests
    · exact h
  | succ n ih =>
    cases owed with
    | true =>
      unfold Machine.dispatchRun
      have hr := h.race_if s.renewalWanted
      generalize (if s.renewalWanted then s.race else (false, s)) = b at hr
      dsimp only
      split
      · split
        · exact ih (hr.dispatchMove ‹_›) _
        · exact ih hr.renewalTests _
      · exact ih hr.renewalTests _
    | false =>
      unfold Machine.dispatchRun
      have hr := h.race_if s.mayStop
      generalize (if s.mayStop then s.race else (false, s)) = b at hr
      dsimp only
      split
      · exact hr.modDisp hr.plan
      · split
        · exact ih (hr.dispatchMove ‹_›) _
        · exact hr

theorem Buffers.dispatch (h : Buffers s) : Buffers (dispatch s) := (h.dispatchRun _ _).drainTells

theorem Buffers.redecide (h : Buffers s) : Buffers (redecide s) := by
  unfold Machine.redecide
  split
  · exact h.dispatch
  · exact h

end Sys2Proof.Machine

/-! PROOFS. The Pair Controller and the port messages keep the bounds of the buffers: one lemma for each act (chapters 2
and 3). -/

namespace Sys2Proof.Machine

variable {s t : State}

/-! ### The Pair Controller (chapter 3) -/

theorem Buffers.startTimer (h : Buffers s) (p : PairNo) (k : StateTimer) (ms : Nat) : Buffers (startTimer p k ms s) :=
  h.modPair p _

theorem Buffers.countPair (h : Buffers s) (p : PairNo) (c : PairCounter) : Buffers (s.countPair p c) := h.modPair p _

theorem Buffers.reach (h : Buffers s) (d : Nat) : Buffers (s.reach d) := h.of_eq rfl rfl rfl rfl rfl

theorem Buffers.enterLeaving (h : Buffers s) {during : State → State} (hd : ∀ x, Buffers x → Buffers (during x))
    (p : PairNo) (why : Reason) (form : LeaveForm) : Buffers (enterLeaving during p why form s) :=
  ((h.entering hd p _ _).modPair p _).startTimer p _ _

theorem Buffers.gracefulLeave (h : Buffers s) (p : PairNo) (why : Reason) : Buffers (gracefulLeave p why s) := by
  have hl := h.enterLeaving (fun _ => id) p why .graceful
  unfold Machine.gracefulLeave
  dsimp only
  split
  · exact Buffers.placeLeave (hl.modPair p _) p _
  · exact hl.placeLeave p _

theorem Buffers.abortLeave (h : Buffers s) (p : PairNo) : Buffers (abortLeave p s) :=
  (((h.enterLeaving (fun _ => id) p .host .abort).modPair p _).withdraw p).placeLeave p _

theorem Buffers.upgradeLeave (h : Buffers s) (p : PairNo) : Buffers (upgradeLeave p s) := by
  have hw := fun f => Buffers.withdraw (Buffers.modPair (h.modPair p _ : Buffers (hostCause p s)) p f) p
  unfold Machine.upgradeLeave
  dsimp only
  split
  · exact (hw _).pairRoom p
  · exact ((hw _).placeLeave p _).pairRoom p

theorem Buffers.completeLeave (h : Buffers s) (p : PairNo) : Buffers (completeLeave p s) := by
  unfold Machine.completeLeave
  split
  · exact (h.park p).hostDone p
  · exact (h.enter p _ _).startTimer p _ _

theorem Buffers.completionTest (h : Buffers s) (p : PairNo) : Buffers (completionTest p s) := by
  unfold Machine.completionTest
  split
  · exact h.completeLeave p
  · exact h

theorem Buffers.leaveRetired (h : Buffers s) (p : PairNo) : Buffers (leaveRetired p s) := by
  unfold Machine.leaveRetired
  split
  · exact Buffers.completionTest (h.modPair p _) p
  · exact h

theorem Buffers.quarantine (h : Buffers s) (p : PairNo) (why : Reason) : Buffers (quarantine p why s) :=
  (((h.enter p _ _).modPair p _).countPair p _).startTimer p _ _

theorem Buffers.countRetrain (h : Buffers s) (p : PairNo) : Buffers (countRetrain p s) :=
  (h.countPair p _).modPair p _

theorem Buffers.afterRetrain (h : Buffers s) (p : PairNo) : Buffers (afterRetrain p s) := by
  unfold Machine.afterRetrain
  split
  · exact h.quarantine p _
  · exact h.enter p _ _

theorem Buffers.lineDrop (h : Buffers s) (p : PairNo) : Buffers (lineDrop p s) := by
  have h1 := ((h.emptyQueue p).rxRemove p).countRetrain p
  unfold Machine.lineDrop
  dsimp only
  split
  · exact (h1.park p).hostDone p
  · exact h1.afterRetrain p

theorem Buffers.guardActive (h : Buffers s) (p : PairNo) : Buffers (guardActive p s) := by
  unfold Machine.guardActive
  split
  · exact h
  · exact ((h.enter p _ _).countPair p _).hostDone p

theorem Buffers.guardClear (h : Buffers s) (p : PairNo) : Buffers (guardClear p s) := by
  unfold Machine.guardClear
  split
  · exact h.restart p
  · exact h

theorem Buffers.enterJoining (h : Buffers s) (p : PairNo) (why : Reason) : Buffers (enterJoining p why s) :=
  (((h.enter p _ _).startTimer p _ _).placeJoin p).modPair p _

theorem Buffers.settlingRateTest (h : Buffers s) (p : PairNo) : Buffers (settlingRateTest p s) := by
  unfold Machine.settlingRateTest
  split
  · exact h.enterJoining p _
  · exact h.modPair p _

theorem Buffers.activeRateTest (h : Buffers s) (p : PairNo) : Buffers (activeRateTest p s) := by
  unfold Machine.activeRateTest
  split
  · exact h
  · exact h.gracefulLeave p _

theorem Buffers.rateTest (h : Buffers s) (p : PairNo) : Buffers (rateTest p s) := by
  unfold Machine.rateTest
  split
  · split
    · exact h.settlingRateTest p
    · exact h
  · exact h.activeRateTest p
  · exact h

theorem Buffers.enterActive (h : Buffers s) (p : PairNo) : Buffers (enterActive p s) := by
  have h1 := (h.enter p .active (s.pair p).reason).activeRateTest p
  unfold Machine.enterActive
  dsimp only
  split
  · refine Buffers.startProgress (Buffers.renewalTest ?_ p) p
    generalize Machine.activeRateTest p (Machine.enter p .active (s.pair p).reason s) = u at h1
    have hr := h1.race_if (u.disp.held && u.renewalDue p)
    generalize (if u.disp.held && u.renewalDue p then u.race else (false, u)) = b at hr
    split
    · exact hr.redecide
    · exact hr
  · exact h1

theorem Buffers.activeTest (h : Buffers s) (p : PairNo) : Buffers (activeTest p s) := by
  unfold Machine.activeTest
  split
  · exact h.enterActive p
  · exact h

theorem Buffers.becamePresent (h : Buffers s) (p : PairNo) : Buffers (becamePresent p s) := by
  have h1 := h.park p
  unfold Machine.becamePresent
  dsimp only
  split
  · exact h1.enter p _ _
  · split
    · exact h1.enter p _ _
    · exact h1

theorem Buffers.pairReport (h : Buffers s) (p : PairNo) (line : LineState) : Buffers (pairReport p line s) := by
  unfold Machine.pairReport
  split
  · split
    · exact (h.enter p _ _).startTimer p _ _
    · exact h
  · split
    · exact h.rateTest p
    · exact (h.countRetrain p).afterRetrain p
  · split
    · exact h
    · exact h.lineDrop p
  · split
    · exact h
    · exact h.lineDrop p
  · split
    · exact h.activeRateTest p
    · exact h.lineDrop p
  all_goals exact h

theorem Buffers.takeJoinAck (h : Buffers s) (p : PairNo) (b : BitVec 16) (r : JoinResult) :
    Buffers (takeJoinAck p b r s) := by
  unfold Machine.takeJoinAck
  split
  · split
    · split
      · exact h
      · exact Buffers.activeTest (h.modPair p _) p
    · exact h.startTimer p _ _
    · exact h.quarantine p _
  · exact h

theorem Buffers.acceptJoin (h : Buffers s) (p echo : PairNo) (m : Seq) (e : BitVec 8) :
    Buffers (acceptJoin p echo m e s) :=
  ((h.placeAck p echo .accept).inbound (rxJoin_frame p m e _) (rxJoin_inbound p m e _)).activeTest p

theorem Buffers.rejoin (h : Buffers s) (p echo : PairNo) (m : Seq) (e : BitVec 8) : Buffers (rejoin p echo m e s) := by
  unfold Machine.rejoin
  split
  · exact (h.park p).hostDone p
  · exact (h.enterJoining p _).acceptJoin p _ _ _

theorem Buffers.restartPair (h : Buffers s) (p : PairNo) : Buffers (restartPair p s) := by
  unfold Machine.restartPair
  split
  · exact h.enterJoining p _
  · exact h.enterJoining p _
  · split
    · exact (h.park p).hostDone p
    · exact h.enterJoining p _
  · exact h

theorem Buffers.peerRestart (h : Buffers s) (p echo : PairNo) (m : Seq) (e : BitVec 8) :
    Buffers (peerRestart p echo m e s) := by
  have h1 : Buffers (forPairs Machine.restartPair ((rxPeerRestart s).count .peerRestarts)) :=
    forPairs_induct (P := Buffers) (fun q _ hq => hq.restartPair q) _
      ((h.inbound (rxPeerRestart_frame s) (rxPeerRestart_inbound s)).countBy _ _)
  unfold Machine.peerRestart
  dsimp only
  split
  · exact h1.acceptJoin p _ _ _
  · exact h1

theorem Buffers.takeJoin (h : Buffers s) (p echo : PairNo) (m : Seq) (b : BitVec 16) (e : BitVec 8) :
    Buffers (takeJoin p echo m b e s) := by
  unfold Machine.takeJoin
  dsimp only
  split
  · exact h.placeAck p _ _
  · split
    · split
      · exact h.peerRestart p _ _ _
      · exact h.acceptJoin p _ _ _
    · exact h.placeAck p _ _
  · split
    · split
      · exact h.peerRestart p _ _ _
      · exact h.rejoin p _ _ _
    · exact h.placeAck p _ _
  · split
    · split
      · exact h.peerRestart p _ _ _
      · exact h.rejoin p _ _ _
    · exact h.placeAck p _ _
  all_goals exact h

theorem Buffers.takeLeave (h : Buffers s) (p : PairNo) : Buffers (takeLeave p s) := by
  unfold Machine.takeLeave
  split
  · exact h.rxRemove p
  · exact h.withRemoval p fun during hd u hu =>
      Buffers.placeLeave ((hu.enterLeaving hd p .peerLeave .graceful).modPair p _) p _
  · exact (Buffers.rxRemove (h.modPair p _) p).completionTest p
  · exact h

/-! ### Port messages -/

theorem Buffers.firstReport (h : Buffers s) (p : PairNo) (r : Report) : Buffers (firstReport p r s) :=
  ((((h.modPort p ((h.lineQueues p).of_same rfl rfl (.inl rfl))).keepReport p r).sendOrder p).becamePresent p).redecide

theorem Buffers.rxReport (h : Buffers s) (p : PairNo) : Buffers (rxReport p s) :=
  h.inbound (rxReport_frame p s) (rxReport_inbound p s)

theorem Buffers.laterReport (h : Buffers s) (p : PairNo) (r : Report) : Buffers (laterReport p r s) := by
  have h1 := h.keepReport p r
  have h2 : Buffers (if disagrees ((Machine.keepReport p r s).port p).order r.line then
      Machine.sendOrder p (Machine.keepReport p r s) else Machine.keepReport p r s) := by
    split
    · exact h1.sendOrder p
    · exact h1
  unfold Machine.laterReport
  dsimp only
  generalize (if disagrees ((Machine.keepReport p r s).port p).order r.line then
      Machine.sendOrder p (Machine.keepReport p r s) else Machine.keepReport p r s) = u at h2
  have h3 := h2.race_if (u.isLive p && r.line != .showtime)
  generalize (if u.isLive p && r.line != .showtime then u.race else (false, u)) = b at h3
  split
  · exact ((h3.rxReport p).pairReport p _).redecide
  · exact ((h3.pairReport p _).redecide).rxReport p

theorem Buffers.tellRetired (h : Buffers s) (p : PairNo) (retired : List Fragment) : Buffers (tellRetired p retired s) := by
  unfold Machine.tellRetired
  induction retired generalizing s with
  | nil => exact h
  | cons f rest ih =>
    cases f with
    | leave => exact ih (h.leaveRetired p)
    | _ => exact ih h

theorem Buffers.roomReport (h : Buffers s) (p : PairNo) : Buffers (roomReport p s) := by
  have hr := h.race_if (s.disp.held && s.wantsRoom p)
  unfold Machine.roomReport
  generalize (if s.disp.held && s.wantsRoom p then s.race else (false, s)) = b at hr
  dsimp only
  split
  · exact (hr.redecide.pairRoom p).redecide
  · exact (hr.pairRoom p).redecide

theorem Buffers.takeTaken (h : Buffers s) (p : PairNo) (n : Nat) : Buffers (takeTaken p n s) := by
  have h2 := (h.applyTaken p n).tellRetired p (Machine.applyTaken p n s).2
  unfold Machine.takeTaken
  dsimp only
  refine Buffers.handover ?_ p
  split
  · split
    · exact h2.roomReport p
    · exact h2
  · split
    · exact (h2.roomReport p).startProgress p
    · exact h2.startProgress p

theorem Buffers.route (h : Buffers s) (p : PairNo) (f : Fragment) : Buffers (route p f s) := by
  cases f with
  | data start fin seq payload => exact h.inbound (rxData_frame p _ _ _ _ s) (rxData_inbound p _ _ _ _ s)
  | join m b echo e => exact h.takeJoin p _ _ _ _
  | joinAck b _ r => exact h.takeJoinAck p _ _
  | leave _ => exact h.takeLeave p
  | progress m => exact h.inbound (rxProgress_frame p m s) (rxProgress_inbound p m s)

theorem Buffers.receive (h : Buffers s) (p : PairNo) (octets : List Octet) : Buffers (receive p octets s) := by
  have h1 := h.countPair p .fragmentsReceived
  unfold Machine.receive
  dsimp only
  split
  · exact h1.countPair p _
  · exact h1.countPair p _
  · exact (h1.route p _).redecide

end Sys2Proof.Machine

/-! PROOFS. A pair that is not fitted is left at rest by every event (R23, R38): it is VACANT, and an event at another pair
leaves alone every pair that is not ACTIVE. -/

namespace Sys2Proof.Machine

variable {p : PairNo} {s t u : State}

/-! ### What an event at a pair leaves alone of the pairs that are not ACTIVE -/

/-- What an event at pair `p` leaves alone: every other pair that is not ACTIVE, with its port, and what no event changes. -/
structure IdleFrame (p : PairNo) (s t : State) : Prop where
  event : EventFrame s t
  idle : ∀ q, q ≠ p → s.isActive q = false → t.pair q = s.pair q ∧ t.port q = s.port q

theorem IdleFrame.refl (p : PairNo) (s : State) : IdleFrame p s s := ⟨EventFrame.refl s, fun _ _ _ => ⟨rfl, rfl⟩⟩

theorem IdleFrame.trans (h : IdleFrame p s t) (k : IdleFrame p t u) : IdleFrame p s u := by
  refine ⟨h.event.trans k.event, fun q hq ha => ?_⟩
  obtain ⟨hpair, hport⟩ := h.idle q hq ha
  obtain ⟨kpair, kport⟩ := k.idle q hq (by rwa [State.isActive, hpair])
  exact ⟨kpair.trans hpair, kport.trans hport⟩

theorem PairFrame.idle (h : PairFrame p s t) : IdleFrame p s t :=
  ⟨h.event, fun q hq _ => ⟨h.pairs q hq, h.ports q hq⟩⟩

theorem DispatchFrame.idleAt (h : DispatchFrame s t) (p : PairNo) : IdleFrame p s t :=
  ⟨h.event, fun q _ ha => h.idle q ha⟩

theorem InboundFrame.idle (h : InboundFrame s t) (p : PairNo) : IdleFrame p s t := (h.pairFrame p).idle

theorem reach_idle (p : PairNo) (d : Nat) (s : State) : IdleFrame p s (s.reach d) :=
  ⟨(reach_frame p d s).event, fun _ _ _ => ⟨rfl, rfl⟩⟩

theorem redecide_idle (p : PairNo) (s : State) : IdleFrame p s (redecide s) := (redecide_frame s).idleAt p

theorem race_if_idle (p : PairNo) (b : Bool) (s : State) : IdleFrame p s (if b then s.race else (false, s)).2 := by
  split
  · exact (race_frame s).idleAt p
  · exact .refl p s

theorem enterActive_idle (p : PairNo) (s : State) : IdleFrame p s (enterActive p s) := by
  have h := ((enter_frame p .active (s.pair p).reason s).trans (activeRateTest_frame p _)).idle
  unfold enterActive
  dsimp only
  split
  · refine IdleFrame.trans (h.trans ?_) ((renewalTest_pairFrame p _).trans (startProgress_frame p _)).idle
    generalize activeRateTest p (enter p .active (s.pair p).reason s) = u
    have hr := race_if_idle p (u.disp.held && u.renewalDue p) u
    generalize (if u.disp.held && u.renewalDue p then u.race else (false, u)) = b at hr
    split
    · exact hr.trans (redecide_idle p _)
    · exact hr
  · exact h

theorem activeTest_idle (p : PairNo) (s : State) : IdleFrame p s (activeTest p s) := by
  unfold activeTest
  split
  · exact enterActive_idle p s
  · exact .refl p s

theorem takeJoinAck_idle (p : PairNo) (b : BitVec 16) (r : JoinResult) (s : State) :
    IdleFrame p s (takeJoinAck p b r s) := by
  unfold takeJoinAck
  split
  · split
    · split
      · exact .refl p s
      · exact (modPair_frame p _ s).idle.trans (activeTest_idle p _)
    · exact (startTimer_frame p _ _ s).idle
    · exact (quarantine_frame p _ s).idle
  · exact .refl p s

theorem acceptJoin_idle (p echo : PairNo) (m : Seq) (e : BitVec 8) (s : State) :
    IdleFrame p s (acceptJoin p echo m e s) :=
  ((placeAck_frame p _ _ s).idle.trans ((rxJoin_frame p m e _).idle p)).trans (activeTest_idle p _)

theorem rejoin_idle (p echo : PairNo) (m : Seq) (e : BitVec 8) (s : State) : IdleFrame p s (rejoin p echo m e s) := by
  unfold rejoin
  split
  · exact ((park_frame p s).trans (hostDone_frame p _)).idle
  · exact (enterJoining_frame p _ s).idle.trans (acceptJoin_idle p _ _ _ _)

/-- What a REPORT of a present transceiver leaves alone. -/
theorem laterReport_idle (p : PairNo) (r : Report) (s : State) : IdleFrame p s (laterReport p r s) := by
  unfold laterReport
  dsimp only
  have h : IdleFrame p s (if disagrees ((keepReport p r s).port p).order r.line then
      sendOrder p (keepReport p r s) else keepReport p r s) := by
    split
    · exact ((keepReport_frame p r s).trans (sendOrder_frame p _)).idle
    · exact (keepReport_frame p r s).idle
  refine h.trans ?_
  generalize (if disagrees ((keepReport p r s).port p).order r.line then
      sendOrder p (keepReport p r s) else keepReport p r s) = u
  have hr := race_if_idle p (u.isLive p && r.line != .showtime) u
  generalize (if u.isLive p && r.line != .showtime then u.race else (false, u)) = b at hr
  split
  · exact ((hr.trans ((rxReport_frame p _).idle p)).trans (pairReport_frame p _ _).idle).trans (redecide_idle p _)
  · exact ((hr.trans (pairReport_frame p _ _).idle).trans (redecide_idle p _)).trans ((rxReport_frame p _).idle p)

theorem tellRetired_frame (p : PairNo) (retired : List Fragment) (s : State) : PairFrame p s (tellRetired p retired s) := by
  unfold tellRetired
  induction retired generalizing s with
  | nil => exact .refl p s
  | cons f rest ih =>
    cases f with
    | leave => exact (leaveRetired_frame p s).trans (ih _)
    | _ => exact ih s

theorem roomReport_idle (p : PairNo) (s : State) : IdleFrame p s (roomReport p s) := by
  have hr := race_if_idle p (s.disp.held && s.wantsRoom p) s
  unfold roomReport
  generalize (if s.disp.held && s.wantsRoom p then s.race else (false, s)) = b at hr
  dsimp only
  split
  · exact ((hr.trans (redecide_idle p _)).trans (pairRoom_frame p _).idle).trans (redecide_idle p _)
  · exact (hr.trans (pairRoom_frame p _).idle).trans (redecide_idle p _)

/-- What a TAKEN leaves alone. -/
theorem takeTaken_idle (p : PairNo) (n : Nat) (s : State) : IdleFrame p s (takeTaken p n s) := by
  have h2 := ((applyTaken_frame p n s).trans (tellRetired_frame p (applyTaken p n s).2 _)).idle
  unfold takeTaken
  dsimp only
  refine IdleFrame.trans ?_ (handover_frame p _).idle
  split
  · split
    · exact h2.trans (roomReport_idle p _)
    · exact h2
  · split
    · exact (h2.trans (roomReport_idle p _)).trans (startProgress_frame p _).idle
    · exact h2.trans (startProgress_frame p _).idle

/-! ### Unfitted pairs at rest -/

theorem EventFrame.isFitted (h : EventFrame s t) (q : PairNo) : t.isFitted q = s.isFitted q := by
  rw [State.isFitted, h.mgmt, State.isFitted]

theorem UnfittedAtRest.of_eq (h : UnfittedAtRest s) (hm : t.mgmt.fitted = s.mgmt.fitted) (hports : t.ports = s.ports)
    (hpairs : t.pairs = s.pairs) : UnfittedAtRest t := by
  intro q hq
  rw [port_congr hports, pair_congr hpairs]
  exact h q (by rwa [State.isFitted, ← hm])

/-- An unfitted pair at rest is not ACTIVE. -/
theorem UnfittedAtRest.not_active (h : UnfittedAtRest s) {q : PairNo} (hq : s.isFitted q = false) :
    s.isActive q = false := by
  rw [State.isActive, (h q hq).1]
  rfl

/-- An event at a fitted pair leaves the unfitted ones at rest (R23). -/
theorem UnfittedAtRest.idle (h : UnfittedAtRest s) (hf : IdleFrame p s t) (hp : s.isFitted p = true) :
    UnfittedAtRest t := by
  intro q hq
  rw [hf.event.isFitted] at hq
  have hne : q ≠ p := by
    rintro rfl
    rw [hp] at hq
    cases hq
  obtain ⟨hpair, hport⟩ := hf.idle q hne (h.not_active hq)
  rw [hpair, hport]
  exact h q hq

/-- What no event at a pair brings leaves the unfitted pairs at rest. -/
theorem UnfittedAtRest.dispatch (h : UnfittedAtRest s) (hf : DispatchFrame s t) : UnfittedAtRest t := by
  intro q hq
  rw [hf.event.isFitted] at hq
  obtain ⟨hpair, hport⟩ := hf.idle q (h.not_active hq)
  rw [hpair, hport]
  exact h q hq

theorem UnfittedAtRest.inbound (h : UnfittedAtRest s) (hf : InboundFrame s t) : UnfittedAtRest t :=
  h.dispatch hf.purgeFrame.dispatchFrame

/-- A pair that differs from an unfitted pair at rest is fitted. -/
theorem UnfittedAtRest.isFitted (h : UnfittedAtRest s)
    (hp : ¬(s.pair p = Pair.reset false false ∧ s.port p = { Port.reset with guardPin := (s.port p).guardPin })) :
    s.isFitted p = true := by
  cases hq : s.isFitted p with
  | true => rfl
  | false => exact absurd (h p hq) hp

theorem UnfittedAtRest.restartPair (h : UnfittedAtRest s) (p : PairNo) : UnfittedAtRest (restartPair p s) := by
  cases hp : s.isFitted p with
  | true => exact h.idle (restartPair_frame p s).idle hp
  | false =>
    have : Machine.restartPair p s = s := by
      unfold Machine.restartPair
      rw [(h p hp).1]
      rfl
    rwa [this]

theorem UnfittedAtRest.peerRestart (h : UnfittedAtRest s) (hp : s.isFitted p = true) (echo : PairNo) (m : Seq)
    (e : BitVec 8) : UnfittedAtRest (peerRestart p echo m e s) := by
  have h1 : EventFrame s (forPairs Machine.restartPair ((rxPeerRestart s).count .peerRestarts)) ∧
      UnfittedAtRest (forPairs Machine.restartPair ((rxPeerRestart s).count .peerRestarts)) :=
    forPairs_induct (P := fun u => EventFrame s u ∧ UnfittedAtRest u)
      (fun q _ hq => ⟨hq.1.trans (restartPair_frame q _).event, hq.2.restartPair q⟩) _
      ⟨(rxPeerRestart_frame s).event.trans (count_frame _ _).inbound.event,
        (h.inbound (rxPeerRestart_frame s)).inbound (count_frame _ _).inbound⟩
  obtain ⟨hevent, hrest⟩ := h1
  unfold Machine.peerRestart
  dsimp only
  split
  · exact hrest.idle (acceptJoin_idle p _ _ _ _) ((hevent.isFitted p).trans hp)
  · exact hrest

theorem UnfittedAtRest.takeJoin (h : UnfittedAtRest s) (hp : s.isFitted p = true) (echo : PairNo) (m : Seq)
    (b : BitVec 16) (e : BitVec 8) : UnfittedAtRest (takeJoin p echo m b e s) := by
  have hack := fun r => h.idle (placeAck_frame p echo r s).idle hp
  have hre : ∀ restarted : Bool,
      UnfittedAtRest (if restarted then Machine.peerRestart p echo m e s else Machine.rejoin p echo m e s) := fun r => by
    split
    · exact h.peerRestart hp _ _ _
    · exact h.idle (rejoin_idle p _ _ _ s) hp
  unfold Machine.takeJoin
  dsimp only
  split
  · exact hack _
  · split
    · split
      · exact h.peerRestart hp _ _ _
      · exact h.idle (acceptJoin_idle p _ _ _ s) hp
    · exact hack _
  · split
    · exact hre _
    · exact hack _
  · split
    · exact hre _
    · exact hack _
  all_goals exact h

theorem UnfittedAtRest.route (h : UnfittedAtRest s) (hp : s.isFitted p = true) (f : Fragment) :
    UnfittedAtRest (route p f s) := by
  cases f with
  | data start fin seq payload => exact h.inbound (rxData_frame p _ _ _ _ s)
  | join m b echo e => exact h.takeJoin hp _ _ _ _
  | joinAck b _ r => exact h.idle (takeJoinAck_idle p _ _ s) hp
  | leave _ => exact h.idle (takeLeave_frame p s).idle hp
  | progress m => exact h.inbound (rxProgress_frame p m s)

/-- A fragment received leaves the unfitted pairs at rest (R13, R23). -/
theorem UnfittedAtRest.receive (h : UnfittedAtRest s) (hp : s.isFitted p = true) (octets : List Octet) :
    UnfittedAtRest (receive p octets s) := by
  have h1 := h.idle (countPair_frame p .fragmentsReceived s).idle hp
  have hp1 : (s.countPair p .fragmentsReceived).isFitted p = true := hp
  unfold Machine.receive
  dsimp only
  split
  · exact h1.idle (countPair_frame p _ _).idle hp1
  · exact h1.idle (countPair_frame p _ _).idle hp1
  · exact (h1.route hp1 _).dispatch (redecide_frame _)

theorem route_event (p : PairNo) (f : Fragment) (s : State) : EventFrame s (route p f s) := by
  cases f with
  | data start fin seq payload => exact (rxData_frame p _ _ _ _ s).event
  | join m b echo e => exact takeJoin_frame p _ _ _ _ s
  | joinAck b _ r => exact (takeJoinAck_frame p _ _ s).event
  | leave _ => exact (takeLeave_frame p s).event
  | progress m => exact (rxProgress_frame p m s).event

theorem receive_event (p : PairNo) (octets : List Octet) (s : State) : EventFrame s (receive p octets s) := by
  have h1 := (countPair_frame p .fragmentsReceived s).event
  unfold receive
  dsimp only
  split
  · exact h1.trans (countPair_frame p _ _).event
  · exact h1.trans (countPair_frame p _ _).event
  · exact (h1.trans (route_event p _ _)).trans (redecide_frame _).event

end Sys2Proof.Machine

/-! PROOFS. What an event or a request keeps: the two queues of the management link, the bounds of all other buffers, and the
unfitted pairs at rest (R23, R172, R175). -/

namespace Sys2Proof.Machine

variable {p : PairNo} {s t u : State}

/-- The queues of the management link are left as they are. -/
structure LinkKept (s t : State) : Prop where
  inbox : t.mgmt.inbox = s.mgmt.inbox
  outbox : t.mgmt.outbox = s.mgmt.outbox
  sentOctets : t.mgmt.sentOctets = s.mgmt.sentOctets

/-- What every event and every request keeps, the message taken and the reply made apart. -/
structure EventKept (s t : State) : Prop where
  link : LinkKept s t
  buffers : Buffers s → Buffers t
  rest : UnfittedAtRest s → UnfittedAtRest t

theorem EventKept.refl (s : State) : EventKept s s := ⟨⟨rfl, rfl, rfl⟩, id, id⟩

theorem EventKept.trans (h : EventKept s t) (k : EventKept t u) : EventKept s u :=
  ⟨⟨k.link.inbox.trans h.link.inbox, k.link.outbox.trans h.link.outbox, k.link.sentOctets.trans h.link.sentOctets⟩,
    k.buffers ∘ h.buffers, k.rest ∘ h.rest⟩

theorem LinkKept.of_notices (h : t.mgmt = { s.mgmt with notices := t.mgmt.notices }) : LinkKept s t := by
  constructor <;> rw [h]

theorem EventFrame.link (h : EventFrame s t) : LinkKept s t := .of_notices h.mgmt

/-- An event at a pair that is fitted wherever unfitted pairs are at rest. -/
theorem EventKept.of_idle (hf : IdleFrame p s t) (hp : UnfittedAtRest s → s.isFitted p = true)
    (hb : Buffers s → Buffers t) : EventKept s t :=
  ⟨hf.event.link, hb, fun h => h.idle hf (hp h)⟩

theorem EventKept.of_pair (hf : PairFrame p s t) (hp : s.isFitted p = true) (hb : Buffers s → Buffers t) :
    EventKept s t := .of_idle hf.idle (fun _ => hp) hb

theorem EventKept.of_dispatch (hf : DispatchFrame s t) (hb : Buffers s → Buffers t) : EventKept s t :=
  ⟨hf.event.link, hb, fun h => h.dispatch hf⟩

theorem EventKept.of_inbound (hf : InboundFrame s t) (hk : InboundKept s t) : EventKept s t :=
  .of_dispatch hf.purgeFrame.dispatchFrame fun h => h.inbound hf hk

/-- An act on another part of the state than the link's queues, the ports and the pairs. -/
theorem EventKept.of_eq (hm : LinkKept s t) (hfit : t.mgmt.fitted = s.mgmt.fitted) (hp : t.ports = s.ports)
    (hr : t.pairs = s.pairs) (hb : Buffers s → Buffers t) : EventKept s t :=
  ⟨hm, hb, fun h => h.of_eq hfit hp hr⟩

theorem EventKept.count (c : BondCounter) (s : State) : EventKept s (s.count c) :=
  .of_eq ⟨rfl, rfl, rfl⟩ rfl rfl rfl fun h => h.countBy c 1

theorem EventKept.returnCells (side : Side) (n : Nat) (s : State) : EventKept s (returnCells side n s) :=
  .of_inbound (returnCells_frame side n s).inbound (returnCells_delivery side n s).toInboundKept

theorem EventKept.drainTells (s : State) : EventKept s (drainTells s) :=
  .of_inbound (drainTells_frame s) (drainTells_delivery s).toInboundKept

theorem EventKept.race (s : State) : EventKept s s.race.2 := .of_dispatch (race_frame s) fun h => h.race

theorem EventKept.raise (i : NoticeInst) (s : State) : EventKept s (s.raise i) :=
  .of_dispatch (raise_frame i s).inbound.purgeFrame.dispatchFrame fun h => h.raise i

theorem EventKept.redecide (s : State) : EventKept s (redecide s) := .of_dispatch (redecide_frame s) Buffers.redecide

theorem EventKept.foldl {α : Type} {f : State → α → State} (hf : ∀ u a, EventKept u (f u a)) (l : List α) (s : State) :
    EventKept s (l.foldl f s) := by
  induction l generalizing s with
  | nil => exact .refl s
  | cons a l ih => exact (hf s a).trans (ih _)

theorem EventKept.forPairs {f : PairNo → State → State} (hf : ∀ q u, EventKept u (f q u)) (s : State) :
    EventKept s (forPairs f s) :=
  forPairs_induct (P := EventKept s) (fun q _ h => h.trans (hf q _)) s (.refl s)

/-! ### LAN side -/

theorem fillCls_kept (c : Fin 4) (q : ClassQueue) (s : State) : EventKept s (fillCls c q s) := by
  have h : EventKept s (s.setCls c q) := .of_eq ⟨rfl, rfl, rfl⟩ rfl rfl rfl fun h => h.of_eq rfl rfl rfl rfl rfl
  unfold fillCls
  dsimp only
  split
  · exact h.trans (.raise _ _)
  · exact h

theorem admitted_kept (c : Fin 4) (f : OutFrame) (s : State) : EventKept s (admitted c f s) := by
  have hr : EventKept s (if s.cells.tells.isEmpty then (true, s) else s.race).2 := by
    split
    · exact .refl s
    · exact .race s
  unfold admitted
  generalize (if s.cells.tells.isEmpty then (true, s) else s.race) = b at hr
  split
  · dsimp only
    have hd : ∀ u, EventKept u (dispatch (beginSplit f u)) := fun u =>
      .of_dispatch ((modDisp_frame _ u).trans (dispatch_frame _)) fun h => (h.beginSplit f).dispatch
    split
    · exact hr.trans (hd _)
    · exact (hr.trans (.drainTells _)).trans (hd _)
  · exact (fillCls_kept c _ s).trans (.drainTells _)

theorem admitFrame_kept (c : Fin 4) (octets : List Octet) (s : State) : EventKept s (admitFrame c octets s) := by
  unfold admitFrame
  dsimp only
  split
  · exact .count _ s
  · split
    · exact .count _ s
    · split
      · rename_i s' hreq
        have h' : EventKept s s' := .of_inbound (requestCells_frame hreq).2.inbound (requestCells_delivery hreq).toInboundKept
        have ho : EventKept s' { s' with nextOrder := s.nextOrder + 1 } :=
          .of_eq ⟨rfl, rfl, rfl⟩ rfl rfl rfl fun h => h.of_eq rfl rfl rfl rfl rfl
        exact (h'.trans ho).trans (admitted_kept c _ _)
      · exact .count _ s

theorem setRule_kept (i : Fin 64) (r : Rule) (s : State) : EventKept s (s.setRule i r) :=
  .of_eq ⟨rfl, rfl, rfl⟩ rfl rfl rfl fun h => h.of_eq rfl rfl rfl rfl rfl

theorem classify_kept (x : Header) (s : State) : EventKept s (classify x s).1 := by
  unfold classify
  split
  · exact .refl s
  · dsimp only
    split
    · exact (setRule_kept _ _ s).trans (.count _ _)
    · split
      · exact (setRule_kept _ _ s).trans (.count _ _)
      · exact setRule_kept _ _ s

theorem ingress_kept (octets : List Octet) (s : State) : EventKept s (ingress octets s) := by
  have hc := classify_kept (headerOf octets) s
  unfold ingress
  split
  · rename_i heq
    rw [heq] at hc
    exact hc.trans (admitFrame_kept _ _ _)
  · rename_i heq
    rwa [heq] at hc

theorem lanFreed_kept (s : State) : EventKept s (lanFreed s) := by
  have hroom : ∀ u, EventKept u (rxLanFreed u) := fun u => .of_inbound (rxLanFreed_frame u) (rxLanFreed_inbound u)
  rcases lanFreed_cases s with e | e | e <;> rw [e]
  · exact hroom s
  · exact (EventKept.race s).trans (hroom _)
  · exact ((EventKept.race s).trans (.drainTells _)).trans (hroom _)

/-- A change of the LAN Port by which its queue grows no longer. -/
theorem setLan_kept {l : Lan} (hl : l.txQueue.length ≤ s.lan.txQueue.length) : EventKept s { s with lan := l } :=
  .of_eq ⟨rfl, rfl, rfl⟩ rfl rfl rfl fun h => ⟨h.lineQueues, h.gapRecords, hl.trans h.lanQueue, h.pMax, h.plan⟩

theorem linkDown_kept (s : State) : EventKept s (linkDown s) := by
  have hlose : ∀ u f, EventKept u (loseFrame u f) := fun u f => (EventKept.count _ u).trans (.returnCells _ _ _)
  exact ((setLan_kept (Nat.zero_le _)).trans (.foldl hlose s.lan.txQueue _)).trans (lanFreed_kept _)

/-! ### RESET-BOND (R182) -/

theorem clearAsm_kept (s : State) : EventKept s (clearAsm s) := by
  have ha : EventKept s (s.setAsm .idle) := .of_eq ⟨rfl, rfl, rfl⟩ rfl rfl rfl fun h => h.of_eq rfl rfl rfl rfl rfl
  unfold clearAsm
  split
  · exact ha.trans (.returnCells _ _ _)
  · exact ha

theorem clearLanQueue_kept (s : State) : EventKept s (clearLanQueue s) :=
  (setLan_kept (Nat.zero_le _)).trans
    (.foldl (f := fun s (f : LanFrame) => returnCells .inbound f.cells s) (fun u _ => .returnCells _ _ u) s.lan.txQueue _)

theorem emptyInbound_kept (s : State) : EventKept s (emptyInbound s) := by
  have hdrop : EventKept s (dropStore none s.rx.window.length s) :=
    .of_inbound (dropStore_frame _ _ s) (dropStore_delivery (fun _ hd => by cases hd) _ s).toInboundKept
  exact (hdrop.trans (clearAsm_kept _)).trans (clearLanQueue_kept _)

theorem emptyOutbound_kept (s : State) : EventKept s (emptyOutbound s) :=
  .of_dispatch (emptyOutbound_frame s).dispatchFrame Buffers.emptyOutbound

theorem emptyBoth_kept (s : State) : EventKept s (emptyBoth s) := by
  have hr : EventKept s (if s.cells.usedOut ≠ 0 && s.cells.usedIn ≠ 0 then s.race else (false, s)).2 := by
    split
    · exact .race s
    · exact .refl s
  unfold emptyBoth
  generalize (if s.cells.usedOut ≠ 0 && s.cells.usedIn ≠ 0 then s.race else (false, s)) = b at hr
  dsimp only
  split
  · exact (hr.trans (emptyInbound_kept _)).trans (emptyOutbound_kept _)
  · exact (hr.trans (emptyOutbound_kept _)).trans (emptyInbound_kept _)

/-- A change of a pair's record that leaves a record at rest as it is. -/
theorem modPair_kept (p : PairNo) {f : Pair → Pair} (hf : f (Pair.reset false false) = Pair.reset false false)
    (s : State) : EventKept s (s.modPair p f) := by
  refine ⟨⟨rfl, rfl, rfl⟩, fun h => h.modPair p f, fun h q hq => ?_⟩
  obtain ⟨hpair, hport⟩ := h q hq
  refine ⟨?_, hport⟩
  by_cases hqp : q = p
  · subst hqp
    rw [pair_modPair, hpair, hf]
  · rw [pair_modPair_ne hqp, hpair]

theorem clearQueue_kept (p : PairNo) (s : State) : EventKept s (clearQueue p s) := by
  refine ⟨⟨rfl, rfl, rfl⟩, fun h => ?_, fun h q hq => ?_⟩
  · have hl := h.lineQueues p
    refine h.modPort p (LineQueueLaw.of_empty rfl rfl ?_ hl.residue)
    have := hl.credit
    dsimp only
    omega
  · obtain ⟨hpair, hport⟩ := h q hq
    refine ⟨hpair, ?_⟩
    by_cases hqp : q = p
    · subst hqp
      unfold clearQueue
      rw [port_modPort, hport]
      rfl
    · unfold clearQueue
      rw [port_modPort_ne hqp]
      exact hport

theorem resetPair_kept (p : PairNo) (s : State) : EventKept s (resetPair p s) := by
  unfold resetPair
  split
  · rename_i hp
    have hfit := (Bool.and_eq_true_iff.1 hp).1
    have hf := (park_frame p s).trans (hostDone_frame p _)
    dsimp only
    split
    · exact .of_pair (hf.trans (enter_frame p _ _ _)) hfit fun h => ((h.park p).hostDone p).enter p _ _
    · exact .of_pair hf hfit fun h => (h.park p).hostDone p
  · exact .refl s

/-- RESET-BOND keeps the link's queues, the bounds, and the unfitted pairs at rest (R182). -/
theorem resetBondAll_kept (s : State) : EventKept s (resetBondAll s) := by
  have h1 := (EventKept.forPairs clearQueue_kept s).trans (emptyBoth_kept _)
  have h2 := h1.trans (.of_inbound (rxResetBond_frame _) (rxResetBond_inbound _))
  have h3 := h2.trans (.of_dispatch (modDisp_frame (fun d => { d with next := 0 }) _) fun h => h.modDisp h.plan)
  have hm : ∀ u : State, EventKept u (u.modMgmt fun m => { m with released := false, epoch := m.epoch + 1 }) := fun u =>
    .of_eq ⟨rfl, rfl, rfl⟩ rfl rfl rfl fun h => h.of_eq rfl rfl rfl rfl rfl
  exact (((h3.trans (hm _)).trans (.forPairs resetPair_kept _)).trans
    (.forPairs (f := clearPair) (fun q u => modPair_kept q rfl u) _)).trans (.drainTells _)

/-! ### Requests, each as it is judged -/

@[simp] theorem done_state (result : List Octet) (s : State) : (done result s).state = s := rfl

@[simp] theorem doneClamped_state (clamped : Bool) (result : List Octet) (s : State) :
    (doneClamped clamped result s).state = s := rfl

theorem startParked_kept (s : State) (hp : s.isFitted p = true) : EventKept s (startParked p s) :=
  .of_pair (startParked_frame p s) hp fun h => h.startParked p

theorem setReason_kept (why : Reason) (s : State) (hp : s.isFitted p = true) : EventKept s (setReason p why s) :=
  .of_pair (setReason_frame p why s) hp fun h => h.modPair p _

/-- A test of a body's length, or of a pair's number, keeps what its judgement keeps (R174, 3.9). -/
theorem withLength_kept {n : Nat} {body : List Octet} {judge : State → Answer}
    (h : ∀ s, EventKept s (judge s).state) (s : State) : EventKept s (withLength n body judge s).state := by
  unfold withLength
  split
  · exact h s
  · exact .refl s

theorem withPair_kept {body : List Octet} {judge : PairNo → State → Answer}
    (h : ∀ p s, s.isFitted p = true → EventKept s (judge p s).state) (s : State) :
    EventKept s (withPair body judge s).state := by
  unfold withPair
  split
  · exact .refl s
  · split
    · exact h _ s ‹_›
    · exact .refl s

theorem recomputeT_kept (s : State) : EventKept s (recomputeT s) :=
  .of_inbound (recomputeT_frame s) (recomputeT_inbound s)

/-- A setting brought into its range lies in it (R177). -/
theorem clamp_mem {lo hi : Nat} (h : lo ≤ hi) (v : Nat) : lo ≤ clamp lo hi v ∧ clamp lo hi v ≤ hi := by
  unfold clamp
  split
  · omega
  · split <;> omega

/-- The settings asked for are twelve, the greatest payload within its range where it was so before (R177). -/
theorem askedSettings_shape (body : List Octet) (s : State) : ∃ a b c d e f g h i j k m,
    askedSettings body s = [a, b, c, d, e, f, g, h, i, j, k, m] ∧
      (64 ≤ s.cfg.pMax ∧ s.cfg.pMax ≤ 512 → 64 ≤ a ∧ a ≤ 512) := by
  refine ⟨_, _, _, _, _, _, _, _, _, _, _, _, rfl, fun h => ?_⟩
  dsimp only
  split
  · exact clamp_mem (by decide) _
  · exact h

theorem applySettings_kept (body : List Octet) (s : State) : EventKept s (applySettings (askedSettings body s) s) := by
  obtain ⟨a, b, c, d, e, f, g, h, i, j, k, m, heq, ha⟩ := askedSettings_shape body s
  rw [heq]
  exact .of_eq ⟨rfl, rfl, rfl⟩ rfl rfl rfl fun h =>
    ⟨h.lineQueues, h.gapRecords, h.lanQueue, ha h.pMax, h.plan⟩

theorem judgeConfigureBond_kept (body : List Octet) (s : State) : EventKept s (judgeConfigureBond body s).state := by
  unfold judgeConfigureBond
  split
  · exact .refl s
  · split
    · exact .refl s
    · split
      · exact .refl s
      · exact (applySettings_kept body s).trans (recomputeT_kept _)

/-- A PARKED pair is not at rest, so a RELEASE starts fitted pairs only (R41, R179). -/
theorem releasePair_kept (p : PairNo) (s : State) : EventKept s (releasePair p s) := by
  unfold releasePair
  split
  · rename_i hp
    refine .of_idle (startParked_frame p s).idle (fun h => h.isFitted fun hr => ?_) fun h => h.startParked p
    rw [hr.1] at hp
    cases hp
  · exact .refl s

theorem judgeRelease_kept (s : State) : EventKept s (judgeRelease s).state := by
  unfold judgeRelease
  split
  · exact .refl s
  · have hm : EventKept s (s.modMgmt fun m => { m with released := true }) :=
      .of_eq ⟨rfl, rfl, rfl⟩ rfl rfl rfl fun h => h.of_eq rfl rfl rfl rfl rfl
    rw [done_state]
    exact hm.trans (.forPairs releasePair_kept _)

theorem judgeConfigurePair_kept (body : List Octet) (p : PairNo) (s : State) (hp : s.isFitted p = true) :
    EventKept s (judgeConfigurePair body p s).state := by
  have hm : EventKept s (s.modPair p fun r => { r with derate := clamp 50 100 (field body 1 1) }) :=
    .of_pair (modPair_frame p _ s) hp fun h => h.modPair p _
  have ht : ∀ u, u.isFitted p = true → EventKept u (rateTest p u) := fun u hu =>
    .of_pair (rateTest_frame p u) hu fun h => h.rateTest p
  unfold judgeConfigurePair
  rw [doneClamped_state]
  exact (hm.trans (ht _ hp)).trans (.redecide _)

theorem judgeEnablePair_kept (p : PairNo) (s : State) (hp : s.isFitted p = true) :
    EventKept s (judgeEnablePair p s).state := by
  have hm : EventKept s (s.modPair p fun r => { r with enabled := true }) :=
    .of_pair (modPair_frame p _ s) hp fun h => h.modPair p _
  unfold judgeEnablePair
  dsimp only
  split
  · exact .refl s
  · show EventKept s (if _ then _ else _)
    split
    · exact hm.trans (startParked_kept _ hp)
    · exact hm

theorem disable_kept (abort : Bool) (p : PairNo) (s : State) (hp : s.isFitted p = true) :
    EventKept s (disable abort p s).state := by
  have hm : EventKept s (s.modPair p fun r => { r with enabled := false }) :=
    .of_pair (modPair_frame p _ s) hp fun h => h.modPair p _
  have hcause : EventKept s (hostCause p s) := .of_pair (modPair_frame p _ s) hp fun h => h.modPair p _
  have hup : EventKept s (redecide (upgradeLeave p s)) :=
    (EventKept.of_pair (upgradeLeave_frame p s) hp fun h => h.upgradeLeave p).trans (.redecide _)
  have hpark : EventKept s (redecide (park p (s.modPair p fun r => { r with enabled := false }))) :=
    (EventKept.of_pair ((modPair_frame p _ s).trans (park_frame p _)) hp fun h =>
      Buffers.park (h.modPair p _) p).trans (.redecide _)
  have hleave : EventKept s (redecide (if abort then abortLeave p s else gracefulLeave p .host s)) := by
    split
    · exact (EventKept.of_pair (abortLeave_frame p s) hp fun h => h.abortLeave p).trans (.redecide _)
    · exact (EventKept.of_pair (gracefulLeave_frame p _ s) hp fun h => h.gracefulLeave p _).trans (.redecide _)
  unfold disable
  dsimp only
  split
  · exact hm
  · exact hm
  · exact hm.trans (setReason_kept _ _ hp)
  · exact hpark
  · exact hpark
  · exact hpark
  · exact hpark
  · exact hleave
  · split
    · split
      · exact hup
      · exact .refl s
    · split
      · exact hup
      · exact hcause.trans (setReason_kept _ _ hp)

theorem judgeDisablePair_kept (body : List Octet) (s : State) : EventKept s (judgeDisablePair body s).state := by
  unfold judgeDisablePair
  split
  · split
    · exact disable_kept _ _ s ‹_›
    · exact .refl s
  · exact .refl s

theorem judgeProbePair_state (body : List Octet) (s : State) : (judgeProbePair body s).state = s := by
  unfold judgeProbePair
  split <;> rfl

theorem judgeConfigureMemory_kept (body : List Octet) (s : State) : EventKept s (judgeConfigureMemory body s).state := by
  have hc : EventKept s { s with cells := { s.cells with rOut := field body 0 2, rIn := field body 2 2 } } :=
    .of_eq ⟨rfl, rfl, rfl⟩ rfl rfl rfl fun h => h.of_eq rfl rfl rfl rfl rfl
  have he : ∀ u, EventKept u (evaluate u) := fun u =>
    .of_inbound (evaluate_frame u).inbound (evaluate_delivery u).toInboundKept
  unfold judgeConfigureMemory
  dsimp only
  split
  · exact .refl s
  · split
    · exact .refl s
    · rw [done_state]
      exact (hc.trans (he _)).trans (.drainTells _)

theorem judgeWriteRule_kept (body : List Octet) (s : State) : EventKept s (judgeWriteRule body s).state := by
  unfold judgeWriteRule
  dsimp only
  split
  · split
    · exact .refl s
    · exact setRule_kept _ _ s
  · exact .refl s

theorem judgeReadRule_state (body : List Octet) (s : State) : (judgeReadRule body s).state = s := by
  unfold judgeReadRule
  split <;> rfl

theorem judgeTryClassify_state (body : List Octet) (s : State) : (judgeTryClassify body s).state = s := by
  unfold judgeTryClassify
  split <;> rfl

theorem judgeConfigureClass_kept (body : List Octet) (s : State) : EventKept s (judgeConfigureClass body s).state := by
  unfold judgeConfigureClass
  dsimp only
  split
  · exact fillCls_kept _ _ s
  · exact .refl s

theorem judgeFlushReorder_kept (s : State) : EventKept s (judgeFlushReorder s).state := by
  unfold judgeFlushReorder
  split
  · exact .refl s
  · exact .refl s
  · exact .of_inbound (rxFlush_frame _ s) (rxFlush_inbound _ s)

theorem judgeReadGaps_kept (s : State) : EventKept s (judgeReadGaps s).state := by
  have hk : InboundKept s (s.modRx fun x => { x with gaps := s.rx.gaps.drop 8 }) := modRx_inbound fun h => by
    rw [List.length_drop]
    omega
  exact EventKept.of_inbound (modRx_frame (fun x => { x with gaps := s.rx.gaps.drop 8 }) s) hk

theorem judgeSetNotices_kept (body : List Octet) (s : State) : EventKept s (judgeSetNotices body s).state := by
  unfold judgeSetNotices
  dsimp only
  split
  · exact .refl s
  · exact .of_eq ⟨rfl, rfl, rfl⟩ rfl rfl rfl fun h => h.of_eq rfl rfl rfl rfl rfl

theorem judgeReadPair_state (body : List Octet) (s : State) : (judgeReadPair body s).state = s := by
  unfold judgeReadPair
  split <;> rfl

theorem judgeReadCounters_kept (body : List Octet) (s : State) : EventKept s (judgeReadCounters body s).state := by
  unfold judgeReadCounters
  dsimp only
  split
  · exact .refl s
  · split
    · show EventKept s (if _ then _ else _)
      split
      · exact .of_eq ⟨rfl, rfl, rfl⟩ rfl rfl rfl fun h => h.of_eq rfl rfl rfl rfl rfl
      · exact .refl s
    · split
      · show EventKept s (if _ then _ else _)
        split
        · exact modPair_kept _ rfl s
        · exact .refl s
      · exact .refl s

end Sys2Proof.Machine

/-! PROOFS. The bounds and the rest of the unfitted pairs at every step: the management link's own commands, RESET, and each
command of the table (R23, R169, R172, R175). -/

namespace Sys2Proof.Machine

variable {p : PairNo} {s t u : State}

/-! ### The management link's queues (R169, R172, R175) -/

/-- The bounds of the management link's two queues. -/
structure LinkBounds (m : Mgmt) : Prop where
  inbox : m.inbox.length ≤ 4
  outbox : m.outbox.length ≤ 8
  notices : m.outbox.countP Message.isNotice ≤ 7
  clocked : match m.outbox with
    | [] => m.sentOctets = 0
    | x :: _ => m.sentOctets < x.octets.length

theorem bounded_iff : Bounded s ↔ LinkBounds s.mgmt ∧ Buffers s :=
  ⟨fun h => ⟨⟨h.inbox, h.outbox, h.notices, h.clocked⟩, ⟨h.lineQueues, h.gapRecords, h.lanQueue, h.pMax, h.plan⟩⟩,
    fun ⟨⟨hi, ho, hn, hc⟩, ⟨hq, hg, hl, hp, hs⟩⟩ => ⟨hi, ho, hn, hc, hq, hg, hl, hp, hs⟩⟩

theorem LinkBounds.of_same {m m' : Mgmt} (h : LinkBounds m) (hi : m'.inbox.length ≤ 4) (ho : m'.outbox = m.outbox)
    (hs : m'.sentOctets = m.sentOctets) : LinkBounds m' :=
  ⟨hi, ho ▸ h.outbox, ho ▸ h.notices, by rw [ho, hs]; exact h.clocked⟩

theorem Bounded.event (h : Bounded s) (k : EventKept s t) : Bounded t := by
  obtain ⟨hl, hb⟩ := bounded_iff.1 h
  exact bounded_iff.2 ⟨hl.of_same (k.link.inbox ▸ hl.inbox) k.link.outbox k.link.sentOctets, k.buffers hb⟩

theorem Bounded.modMgmt (h : Bounded s) {f : Mgmt → Mgmt} (hf : LinkBounds (f s.mgmt)) : Bounded (s.modMgmt f) :=
  bounded_iff.2 ⟨hf, (bounded_iff.1 h).2.of_eq rfl rfl rfl rfl rfl⟩

theorem Bounded.setFramer (h : Bounded s) (x : Framer) : Bounded (s.setFramer x) :=
  h.modMgmt ((bounded_iff.1 h).1.of_same h.inbox rfl rfl)

theorem Bounded.count (h : Bounded s) (c : BondCounter) : Bounded (s.count c) := h.event (.count c s)

theorem Bounded.acceptMessage (h : Bounded s) (m : Message) : Bounded (acceptMessage m s) := by
  have hb := acceptMessage_bound (m := m) h.inbox
  unfold Machine.acceptMessage at hb ⊢
  split
  · rename_i hlt
    rw [if_pos hlt] at hb
    exact h.modMgmt ((bounded_iff.1 h).1.of_same hb rfl rfl)
  · exact h.count _

theorem Bounded.hunt (h : Bounded s) (o : Octet) : Bounded (hunt o s) := h.setFramer _

theorem Bounded.feed (h : Bounded s) (o : Octet) : Bounded (feed o s) := by
  unfold Machine.feed
  split
  · exact h.hunt o
  · split
    · exact h.setFramer _
    · exact (h.count _).hunt o
  · exact h.setFramer _

theorem Bounded.rescan (h : Bounded s) (n : Nat) (l : List Octet) : Bounded (rescan n l s) := by
  induction n generalizing l s with
  | zero => exact h.setFramer _
  | succ n ih =>
    cases l with
    | nil => exact h.setFramer _
    | cons o rest =>
      unfold Machine.rescan
      split
      · exact ih h _
      · split
        · exact h.setFramer _
        · split
          · exact ih (h.count _) _
          · split
            · exact h.setFramer _
            · split
              · exact ih (h.acceptMessage _) _
              · exact ih (h.count _) _

theorem Bounded.testFrame (h : Bounded s) : Bounded (testFrame s) := by
  unfold Machine.testFrame
  split
  · split
    · split
      · exact (h.setFramer _).acceptMessage _
      · exact (h.count _).rescan _ _
    · exact h
  · exact h

theorem Bounded.abandonFrame (h : Bounded s) : Bounded (abandonFrame s) := by
  unfold Machine.abandonFrame
  dsimp only
  split
  · exact h.testFrame
  · exact (h.testFrame.setFramer _).count _

theorem LinkBounds.dropHead {m : Mgmt} (h : LinkBounds m) : LinkBounds m.dropHead := by
  have hsub : m.dropHead.outbox.Sublist m.outbox := List.drop_sublist 1 _
  refine ⟨h.inbox, hsub.length_le.trans h.outbox, hsub.countP_le.trans h.notices, ?_⟩
  cases m.dropHead.outbox with
  | nil => rfl
  | cons x _ => exact x.octets_pos

theorem LinkBounds.clockOut {m : Mgmt} (h : LinkBounds m) : LinkBounds m.clockOut := by
  have hc := Mgmt.clockOut_clocked h.clocked
  unfold Mgmt.clockOut at hc ⊢
  split
  · exact h.of_same h.inbox rfl rfl
  · dsimp only
    split
    · have hd := h.dropHead
      exact ⟨hd.inbox, hd.outbox, hd.notices, hd.clocked⟩
    · refine ⟨h.inbox, h.outbox, h.notices, ?_⟩
      simp_all

theorem LinkBounds.sendHead {m : Mgmt} (h : LinkBounds m) : LinkBounds m.sendHead := by
  have hd := h.dropHead
  unfold Mgmt.sendHead
  split
  · exact h
  · split
    · split
      · exact hd
      · exact h
    · exact ⟨hd.inbox, hd.outbox, hd.notices, hd.clocked⟩

/-- A message joins an output queue that has a place for it, and for a notice among the notices (R175). -/
theorem LinkBounds.push {m : Mgmt} (h : LinkBounds m) (x : Message) (hroom : m.outbox.length < 8)
    (hn : x.isNotice = true → m.outbox.countP Message.isNotice < 7) :
    LinkBounds { m with outbox := m.outbox ++ [x] } := by
  refine ⟨h.inbox, ?_, ?_, ?_⟩
  · simp only [List.length_append, List.length_singleton]
    omega
  · have := h.notices
    simp only [List.countP_append, List.countP_singleton]
    split
    · have := hn ‹_›
      omega
    · omega
  · have hc := h.clocked
    cases hq : m.outbox with
    | nil =>
      rw [hq] at hc
      exact hc ▸ x.octets_pos
    | cons y rest =>
      rw [hq] at hc
      exact hc

theorem Bounded.buildNotice (h : Bounded s) : Bounded (buildNotice s) := by
  unfold Machine.buildNotice
  split
  · split
    · rename_i i _ hroom
      obtain ⟨hlen, hn⟩ := Bool.and_eq_true_iff.1 hroom
      have hp : Bounded (pushOut (noticeOf i s) s) :=
        h.modMgmt ((bounded_iff.1 h).1.push _ (of_decide_eq_true hlen) fun _ => of_decide_eq_true hn)
      exact hp.event (.of_eq ⟨rfl, rfl, rfl⟩ rfl rfl rfl fun hb => hb.of_eq rfl rfl rfl rfl rfl)
    · exact h
  · exact h

/-- A message taken and answered, where what it brings leaves the link's queues alone (R173). -/
theorem Bounded.intake (h : Bounded s) {judge : State → Answer} (hj : ∀ u, EventKept u (judge u).state) (m : Message) :
    Bounded (intake m judge s) := by
  unfold Machine.intake
  split
  · rename_i hm
    have hr : Bounded (removeHead s) := by
      refine h.modMgmt ((bounded_iff.1 h).1.of_same ?_ rfl rfl)
      rw [List.length_drop]
      have := h.inbox
      omega
    have ha := hr.event (hj (removeHead s))
    have ho : (judge (removeHead s)).state.mgmt.outbox = s.mgmt.outbox := (hj _).link.outbox
    exact ha.modMgmt ((bounded_iff.1 ha).1.push _ (ho ▸ (takeable_iff.1 hm).1) fun hn => nomatch hn)
  · exact h

/-! ### The same commands and the unfitted pairs -/

theorem UnfittedAtRest.modMgmt (h : UnfittedAtRest s) {f : Mgmt → Mgmt} (hf : (f s.mgmt).fitted = s.mgmt.fitted) :
    UnfittedAtRest (s.modMgmt f) := h.of_eq hf rfl rfl

/-- The framer touches nothing but the link, its counters and the input buffer. -/
structure FramerFrame (s t : State) : Prop where
  fitted : t.mgmt.fitted = s.mgmt.fitted
  ports : t.ports = s.ports
  pairs : t.pairs = s.pairs

theorem FramerFrame.refl (s : State) : FramerFrame s s := ⟨rfl, rfl, rfl⟩

theorem FramerFrame.trans (h : FramerFrame s t) (k : FramerFrame t u) : FramerFrame s u :=
  ⟨k.fitted.trans h.fitted, k.ports.trans h.ports, k.pairs.trans h.pairs⟩

theorem setFramer_frame (x : Framer) (s : State) : FramerFrame s (s.setFramer x) := ⟨rfl, rfl, rfl⟩

theorem count_framer (c : BondCounter) (s : State) : FramerFrame s (s.count c) := ⟨rfl, rfl, rfl⟩

theorem acceptMessage_frame (m : Message) (s : State) : FramerFrame s (acceptMessage m s) := by
  unfold acceptMessage
  split
  · exact ⟨rfl, rfl, rfl⟩
  · exact count_framer _ s

theorem feed_frame (o : Octet) (s : State) : FramerFrame s (feed o s) := by
  unfold feed
  split
  · exact setFramer_frame _ s
  · split
    · exact setFramer_frame _ s
    · exact (count_framer _ s).trans (setFramer_frame _ _)
  · exact setFramer_frame _ s

theorem rescan_frame (n : Nat) (l : List Octet) (s : State) : FramerFrame s (rescan n l s) := by
  induction n generalizing l s with
  | zero => exact setFramer_frame _ s
  | succ n ih =>
    cases l with
    | nil => exact setFramer_frame _ s
    | cons o rest =>
      unfold rescan
      split
      · exact ih _ s
      · split
        · exact setFramer_frame _ s
        · split
          · exact (count_framer _ s).trans (ih _ _)
          · split
            · exact setFramer_frame _ s
            · split
              · exact (acceptMessage_frame _ s).trans (ih _ _)
              · exact (count_framer _ s).trans (ih _ _)

theorem testFrame_frame (s : State) : FramerFrame s (testFrame s) := by
  unfold testFrame
  split
  · split
    · split
      · exact (setFramer_frame _ s).trans (acceptMessage_frame _ _)
      · exact (count_framer _ s).trans (rescan_frame _ _ _)
    · exact .refl s
  · exact .refl s

theorem abandonFrame_frame (s : State) : FramerFrame s (abandonFrame s) := by
  unfold abandonFrame
  dsimp only
  split
  · exact testFrame_frame s
  · exact ((testFrame_frame s).trans (setFramer_frame _ _)).trans (count_framer _ _)

theorem UnfittedAtRest.framer (h : UnfittedAtRest s) (hf : FramerFrame s t) : UnfittedAtRest t :=
  h.of_eq hf.fitted hf.ports hf.pairs

theorem Mgmt.clockOut_fitted (m : Mgmt) : m.clockOut.fitted = m.fitted := by
  unfold Mgmt.clockOut
  split
  · rfl
  · dsimp only
    split <;> rfl

theorem Mgmt.sendHead_fitted (m : Mgmt) : m.sendHead.fitted = m.fitted := by
  unfold Mgmt.sendHead
  split
  · rfl
  · split
    · split <;> rfl
    · rfl

theorem UnfittedAtRest.buildNotice (h : UnfittedAtRest s) : UnfittedAtRest (buildNotice s) := by
  unfold Machine.buildNotice
  split
  · split
    · exact h.of_eq rfl rfl rfl
    · exact h
  · exact h

theorem UnfittedAtRest.intake (h : UnfittedAtRest s) {judge : State → Answer} (hj : ∀ u, EventKept u (judge u).state)
    (m : Message) : UnfittedAtRest (intake m judge s) := by
  unfold Machine.intake
  split
  · have hr : UnfittedAtRest (removeHead s) := h.of_eq rfl rfl rfl
    exact ((hj _).rest hr).of_eq rfl rfl rfl
  · exact h

/-! ### Events at a port or a pair -/

theorem execReport_kept (p : PairNo) (line : LineState) (up down : BitVec 16) (upDelay downDelay : BitVec 8)
    (h : execReport p line up down upDelay downDelay s = .next t) : EventKept s t := by
  obtain rfl := (Host.Outcome.next.inj h).symm
  split
  · split
    · exact .of_idle (laterReport_idle p _ s) (fun _ => ‹_›) fun h => h.laterReport p _
    · refine .of_idle (IdleFrame.trans ?_ (redecide_idle p _)) (fun _ => ‹_›) fun h => h.firstReport p _
      exact ((((modPort_frame p _ s).trans (keepReport_frame p _ _)).trans (sendOrder_frame p _)).trans
        (becamePresent_frame p _)).idle
  · exact .refl s

theorem listening_isFitted (h : s.listening p = true) : s.isFitted p = true := (Bool.and_eq_true_iff.1 h).1

theorem execTaken_kept (p : PairNo) (octets : BitVec 16) (h : execTaken p octets s = .next t) : EventKept s t := by
  obtain rfl := (Host.Outcome.next.inj h).symm
  split
  · rename_i hp
    exact .of_idle (takeTaken_idle p _ s) (fun _ => listening_isFitted (Bool.and_eq_true_iff.1 hp).1) fun h =>
      h.takeTaken p _
  · exact .refl s

theorem execFragmentReceived_kept (p : PairNo) (octets : List Octet) (h : execFragmentReceived p octets s = .next t) :
    EventKept s t := by
  obtain rfl := (Host.Outcome.next.inj h).symm
  split
  · exact ⟨(receive_event p octets s).link, fun h => h.receive p octets, fun h =>
      h.receive (listening_isFitted ‹_›) octets⟩
  · exact .refl s

/-- A pair with a running timer, or with a port that differs from a port at rest, is fitted. -/
theorem fitted_of_silence {d : Nat} (hd : (s.port p).silence = some d) (h : UnfittedAtRest s) : s.isFitted p = true :=
  h.isFitted fun hr => by
    rw [hr.2] at hd
    cases hd

theorem fitted_of_debounce {d : Nat} (hd : (s.port p).debounce = some d) (h : UnfittedAtRest s) : s.isFitted p = true :=
  h.isFitted fun hr => by
    rw [hr.2] at hd
    cases hd

theorem fitted_of_stateTimer {k : StateTimer × Nat} (hd : (s.pair p).stateTimer = some k) (h : UnfittedAtRest s) :
    s.isFitted p = true :=
  h.isFitted fun hr => by
    rw [hr.1] at hd
    cases hd

theorem fitted_of_joinRepeat {d : Nat} (hd : (s.pair p).joinRepeat = some d) (h : UnfittedAtRest s) :
    s.isFitted p = true :=
  h.isFitted fun hr => by
    rw [hr.1] at hd
    cases hd

theorem fitted_of_progressTimer {d : Nat} (hd : (s.pair p).progressTimer = some d) (h : UnfittedAtRest s) :
    s.isFitted p = true :=
  h.isFitted fun hr => by
    rw [hr.1] at hd
    cases hd

/-- A timer's expiry that brings the time to its deadline, then acts at its pair, then has the held fragment decided. -/
theorem expiry_kept {d : Nat} (hf : PairFrame p (s.reach d) t) (hp : UnfittedAtRest s → s.isFitted p = true)
    (hb : Buffers (s.reach d) → Buffers t) : EventKept s (redecide t) :=
  .of_idle (((reach_idle p d s).trans hf.idle).trans (redecide_idle p t)) hp fun h => (hb (h.reach d)).redecide

theorem execSilenceTimerExpiry_kept (p : PairNo) (h : execSilenceTimerExpiry p s = .next t) : EventKept s t := by
  obtain rfl := (Host.Outcome.next.inj h).symm
  split
  · rename_i d hd
    refine expiry_kept (p := p) (d := d) ?_ (fitted_of_silence hd) fun h => ?_
    · exact (((modPort_frame p _ _).trans (emptyQueue_frame p _)).trans (modPort_frame p _ _)).trans
        (becameAbsent_frame p _)
    · have h1 := Buffers.emptyQueue (h.modPort p
        (f := fun x => { x with present := false, silence := none, report := Report.none })
        ((h.lineQueues p).of_same rfl rfl (.inl rfl))) p
      have h2 := h1.modPort p (f := fun x => { x with residue := [] }) ((h1.lineQueues p).of_same rfl rfl (.inr rfl))
      exact (h2.enter p _ _).hostDone p
  · exact .refl s

theorem execLineGuardChange_kept (p : PairNo) (level : Bool) (h : execLineGuardChange p level s = .next t) :
    EventKept s t := by
  obtain rfl := (Host.Outcome.next.inj h).symm
  refine ⟨⟨rfl, rfl, rfl⟩, fun h => h.modPort p ((h.lineQueues p).of_same rfl rfl (.inl rfl)), fun h q hq => ?_⟩
  obtain ⟨hpair, hport⟩ := h q hq
  have hfit : s.isFitted q = false := hq
  refine ⟨hpair, ?_⟩
  by_cases hqp : q = p
  · subst hqp
    rw [port_modPort, hport, hfit]
    rfl
  · rw [port_modPort_ne hqp]
    exact hport

theorem setGuard_buffers (h : Buffers s) (p : PairNo) (g : GuardState) : Buffers (setGuard p g s) :=
  h.modPort p ((h.lineQueues p).of_same rfl rfl (.inl rfl))

theorem execGuardAssertTimerExpiry_kept (p : PairNo) (h : execGuardAssertTimerExpiry p s = .next t) : EventKept s t := by
  obtain rfl := (Host.Outcome.next.inj h).symm
  split
  · exact expiry_kept (p := p) ((modPort_frame p _ _).trans (guardActive_frame p _)) (fitted_of_debounce ‹_›) fun h =>
      (setGuard_buffers h p _).guardActive p
  · exact .refl s

theorem execGuardClearTimerExpiry_kept (p : PairNo) (h : execGuardClearTimerExpiry p s = .next t) : EventKept s t := by
  obtain rfl := (Host.Outcome.next.inj h).symm
  split
  · exact expiry_kept (p := p) ((modPort_frame p _ _).trans (guardClear_frame p _)) (fitted_of_debounce ‹_›) fun h =>
      (setGuard_buffers h p _).guardClear p
  · exact .refl s

theorem execHoldoffTimerExpiry_kept (p : PairNo) (h : execHoldoffTimerExpiry p s = .next t) : EventKept s t := by
  obtain rfl := (Host.Outcome.next.inj h).symm
  split
  · exact expiry_kept (p := p) ((modPair_frame p _ _).trans (settlingRateTest_frame p _)) (fitted_of_stateTimer ‹_›)
      fun h => Buffers.settlingRateTest (h.modPair p _) p
  · exact .refl s

theorem execJoinTimerExpiry_kept (p : PairNo) (h : execJoinTimerExpiry p s = .next t) : EventKept s t := by
  obtain rfl := (Host.Outcome.next.inj h).symm
  split
  · exact expiry_kept (p := p) (quarantine_frame p _ _) (fitted_of_stateTimer ‹_›) fun h => h.quarantine p _
  · exact .refl s

theorem resume_buffers (h : Buffers s) (p : PairNo) : Buffers (resume p s) := by
  unfold resume
  split
  · exact h.dispatch
  · exact h

theorem execJoinRepeatTimerExpiry_kept (p : PairNo) (h : execJoinRepeatTimerExpiry p s = .next t) : EventKept s t := by
  obtain rfl := (Host.Outcome.next.inj h).symm
  split
  · rename_i d hd
    have hr : EventKept s (s.reach d) := .of_idle (reach_idle p d s) (fitted_of_joinRepeat hd) fun h => h.reach d
    have hidle := fun f : Pair → Pair => (reach_idle p d s).trans (modPair_frame p f (s.reach d)).idle
    have hbuf := fun (h : Buffers s) (f : Pair → Pair) => (h.reach d).modPair p f
    dsimp only
    split
    · exact .of_idle (hidle _) (fitted_of_joinRepeat hd) fun h => hbuf h _
    · split
      · exact .of_idle (((hidle _).trans (placeJoin_frame p _).idle).trans ((resume_frame p _).idleAt p))
          (fitted_of_joinRepeat hd) fun h => resume_buffers ((hbuf h _).placeJoin p) p
      · exact .of_idle ((hidle _).trans (placeJoin_frame p _).idle) (fitted_of_joinRepeat hd) fun h =>
          (hbuf h _).placeJoin p
  · exact .refl s

theorem execLeaveTimerExpiry_kept (p : PairNo) (h : execLeaveTimerExpiry p s = .next t) : EventKept s t := by
  obtain rfl := (Host.Outcome.next.inj h).symm
  split
  · exact expiry_kept (p := p) ((countPair_frame p _ _).trans (completeLeave_frame p _)) (fitted_of_stateTimer ‹_›)
      fun h => (h.countPair p _).completeLeave p
  · exact .refl s

theorem execPenaltyTimerExpiry_kept (p : PairNo) (h : execPenaltyTimerExpiry p s = .next t) : EventKept s t := by
  obtain rfl := (Host.Outcome.next.inj h).symm
  split
  · exact expiry_kept (p := p) (restart_frame p _) (fitted_of_stateTimer ‹_›) fun h => h.restart p
  · exact .refl s

theorem execProgressTimerExpiry_kept (p : PairNo) (h : execProgressTimerExpiry p s = .next t) : EventKept s t := by
  obtain rfl := (Host.Outcome.next.inj h).symm
  split
  · exact expiry_kept (p := p) ((modPair_frame p _ _).trans (placeProgress_pairFrame p _)) (fitted_of_progressTimer ‹_›)
      fun h => Buffers.placeProgress (h.modPair p _) p
  · exact .refl s

theorem execGapTimerExpiry_kept (h : execGapTimerExpiry s = .next t) : EventKept s t := by
  obtain rfl := (Host.Outcome.next.inj h).symm
  split
  · rename_i d _
    have hr : EventKept s (s.reach d) := .of_eq ⟨rfl, rfl, rfl⟩ rfl rfl rfl fun h => h.reach d
    exact hr.trans (.of_inbound (rxGapTimeout_frame _) (rxGapTimeout_inbound _))
  · exact .refl s

/-! ### Events on the LAN side -/

theorem execLanFrameReceived_kept (run : List Octet) (rxError : Bool)
    (h : execLanFrameReceived run rxError s = .next t) : EventKept s t := by
  have hc : EventKept s (s.count .lanFramesReceived) := .count _ s
  obtain rfl := (Host.Outcome.next.inj h).symm
  split
  · exact hc.trans (.count _ _)
  · split
    · exact hc.trans (.count _ _)
    · split
      · exact hc.trans (.count _ _)
      · exact hc.trans (ingress_kept _ _)

theorem execLanFrameSent_kept (h : execLanFrameSent s = .next t) : EventKept s t := by
  obtain rfl := (Host.Outcome.next.inj h).symm
  split
  · rename_i f rest _ hq
    refine EventKept.trans ?_ (lanFreed_kept _)
    refine EventKept.trans ?_ (.count _ _)
    refine EventKept.trans (setLan_kept ?_) (.returnCells _ _ _)
    rw [hq]
    exact Nat.le_succ _
  · exact .refl s

theorem execLanLinkChange_kept (up : Bool) (h : execLanLinkChange up s = .next t) : EventKept s t := by
  have hlan : ∀ a b : Bool, EventKept s { s with lan := { s.lan with linkPin := a, linkUp := b } } := fun a b =>
    setLan_kept (Nat.le_refl _)
  obtain rfl := (Host.Outcome.next.inj h).symm
  split
  · exact setLan_kept (Nat.le_refl _)
  · dsimp only
    split
    · exact (hlan _ _).trans (.raise _ _)
    · exact ((hlan _ _).trans (.raise _ _)).trans (linkDown_kept _)

end Sys2Proof.Machine

/-! PROOFS. Every command keeps the bounds of the buffers and leaves the unfitted pairs at rest (R23, R172, R175, R181). -/

namespace Sys2Proof.Machine

variable {p : PairNo} {s t : State}

/-! ### RESET (R181) -/

theorem LineQueueLaw.reset : LineQueueLaw Port.reset where
  handedFirst := ⟨[], [], rfl, by simp, by simp⟩
  credit := by decide
  entries := by decide
  octets := by decide
  sizes := by simp [Port.reset]
  taken := rfl
  residue := by simp [Port.reset]

theorem State.resetWith_port (straps : Straps) (p : PairNo) : (State.resetWith straps).port p = Port.reset :=
  Vector.getElem_replicate ..

theorem State.resetWith_pair (straps : Straps) (p : PairNo) :
    (State.resetWith straps).pair p = Pair.reset ((State.resetWith straps).isFitted p) straps.autostart :=
  Vector.getElem_ofFn ..

theorem bounded_resetWith (straps : Straps) : Bounded (State.resetWith straps) where
  inbox := Nat.zero_le _
  outbox := Nat.zero_le _
  notices := Nat.zero_le _
  clocked := rfl
  lineQueues p := State.resetWith_port straps p ▸ .reset
  gapRecords := Nat.zero_le _
  lanQueue := Nat.zero_le _
  pMax := (by decide : 64 ≤ BondConfig.reset.pMax ∧ BondConfig.reset.pMax ≤ 512)
  plan _ h := nomatch h

theorem unfittedAtRest_resetWith (straps : Straps) : UnfittedAtRest (State.resetWith straps) := fun p hp =>
  ⟨by rw [State.resetWith_pair, hp]; rfl, by rw [State.resetWith_port]⟩

/-- At an unfitted pair only the level of the pin is taken, and no timer is started for it (R36) [16]. -/
theorem sampleGuard_kept (old : State) (p : PairNo) (s : State) : EventKept s (sampleGuard old p s) := by
  refine ⟨⟨rfl, rfl, rfl⟩, fun h => h.modPort p ((h.lineQueues p).of_same rfl rfl (.inl rfl)), fun h q hq => ?_⟩
  obtain ⟨hpair, hport⟩ := h q hq
  have hfit : s.isFitted q = false := hq
  refine ⟨hpair, ?_⟩
  by_cases hqp : q = p
  · subst hqp
    rw [sampleGuard, port_modPort, hport, hfit]
    rfl
  · rw [sampleGuard, port_modPort_ne hqp]
    exact hport

theorem sampleLink_kept (old s : State) : EventKept s (sampleLink old s) := by
  unfold sampleLink
  split
  · exact (setLan_kept (l := { s.lan with linkPin := true, linkUp := true }) (Nat.le_refl _)).trans (.raise _ _)
  · exact .refl s

theorem execReset_kept (straps : Straps) (h : execReset straps s = .next t) :
    EventKept { State.resetWith straps with pending := s.pending, freeCount := s.freeCount } t := by
  obtain rfl := (Host.Outcome.next.inj h).symm
  exact (EventKept.forPairs (sampleGuard_kept s) _).trans (sampleLink_kept s _)

theorem sampleGuard_fitted (old s : State) :
    (forPairs (sampleGuard old) s).mgmt.fitted = s.mgmt.fitted :=
  forPairs_induct (P := fun u => u.mgmt.fitted = s.mgmt.fitted) (fun _ _ hu => hu) s rfl

theorem execReset_fitted (straps : Straps) (h : execReset straps s = .next t) :
    t.mgmt.fitted = straps.fitted.val + 1 := by
  obtain rfl := (Host.Outcome.next.inj h).symm
  have hg := sampleGuard_fitted s { State.resetWith straps with pending := s.pending, freeCount := s.freeCount }
  unfold sampleLink
  split
  · rw [raise_mgmt]
    exact hg
  · exact hg

/-! ### The commands of the table -/

/-- What every command keeps. -/
structure Held (s t : State) : Prop where
  bounded : Bounded s → Bounded t
  rest : UnfittedAtRest s → UnfittedAtRest t

theorem Held.refl (s : State) : Held s s := ⟨id, id⟩

theorem EventKept.held (h : EventKept s t) : Held s t := ⟨fun hb => hb.event h, h.rest⟩

/-- The time, the commands that wait and the free values used bear on nothing of this. -/
theorem Held.of_same (hm : t.mgmt = s.mgmt) (hp : t.ports = s.ports) (hr : t.pairs = s.pairs) (hrx : t.rx = s.rx)
    (hl : t.lan = s.lan) (hc : t.cfg = s.cfg) (hd : t.disp = s.disp) : Held s t :=
  EventKept.held (.of_eq ⟨by rw [hm], by rw [hm], by rw [hm]⟩ (by rw [hm]) hp hr fun h =>
    h.of_eq hp (by rw [hrx]) (by rw [hl]) (by rw [hc]) (by rw [hd]))

theorem intake_held {judge : State → Answer} (hj : ∀ u, EventKept u (judge u).state) (m : Message) (s : State) :
    Held s (intake m judge s) := ⟨fun h => h.intake hj m, fun h => h.intake hj m⟩

theorem testFrame_held (s : State) : Held s (testFrame s) := ⟨Bounded.testFrame, fun h => h.framer (testFrame_frame s)⟩

theorem abandonFrame_held (s : State) : Held s (abandonFrame s) :=
  ⟨Bounded.abandonFrame, fun h => h.framer (abandonFrame_frame s)⟩

theorem clockOut_held (s : State) : Held s (s.modMgmt Mgmt.clockOut) :=
  ⟨fun h => h.modMgmt (bounded_iff.1 h).1.clockOut, fun h => h.modMgmt (Mgmt.clockOut_fitted _)⟩

theorem feed_held (o : Octet) (s : State) : Held s (feed o s) := ⟨fun h => h.feed o, fun h => h.framer (feed_frame o s)⟩

theorem Held.trans {u : State} (h : Held s t) (k : Held t u) : Held s u :=
  ⟨k.bounded ∘ h.bounded, k.rest ∘ h.rest⟩

theorem execMgmtOctetReceived_held (octet : Octet) (stopBit : Bool) (h : execMgmtOctetReceived octet stopBit s = .next t) :
    Held s t := by
  obtain rfl := (Host.Outcome.next.inj h).symm
  split
  · exact ((testFrame_held s).trans (clockOut_held _)).trans (feed_held octet _)
  · split
    · exact (testFrame_held s).trans (feed_held octet _)
    · exact abandonFrame_held s

theorem execCharacterGapTimeout_held (h : execCharacterGapTimeout s = .next t) : Held s t := by
  obtain rfl := (Host.Outcome.next.inj h).symm
  split
  · exact .refl s
  · exact abandonFrame_held s

theorem execSpiTransferEnd_held (h : execSpiTransferEnd s = .next t) : Held s t := by
  obtain rfl := (Host.Outcome.next.inj h).symm
  split
  · exact abandonFrame_held s
  · exact .refl s

theorem execUnknownRequest_held (kind tag : Octet) (body : List Octet) (h : execUnknownRequest kind tag body s = .next t) :
    Held s t := by
  obtain rfl := (Host.Outcome.next.inj h).symm
  split
  · exact .refl s
  · exact intake_held (fun u => .refl u) _ s

theorem of_state_eq {judge : State → Answer} (h : ∀ u, (judge u).state = u) (u : State) :
    EventKept u (judge u).state := (h u).symm ▸ .refl u

/-- A request with a length of its own is taken, judged and answered. -/
theorem request_held {judge : State → Answer} (hj : ∀ u, EventKept u (judge u).state) {m : Message} {n : Nat}
    {body : List Octet} 
    (h : (.next (intake m (withLength n body judge) s) : Host.Outcome State Fault Refusal) = .next t) : Held s t := by
  obtain rfl := (Host.Outcome.next.inj h).symm
  exact intake_held (withLength_kept hj) m s

theorem resetBondDone_kept (u : State) : EventKept u (done [] (resetBondAll u)).state := by
  rw [done_state]
  exact resetBondAll_kept u

/-- Every command keeps the bounds and the unfitted pairs at rest. -/
theorem exec_held (c : Instr) (h : exec c s = .next t) : Held s t := by
  cases c with
  | reset straps =>
    have hk := execReset_kept straps h
    have hs : Held (State.resetWith straps)
      { State.resetWith straps with pending := s.pending, freeCount := s.freeCount } := .of_same rfl rfl rfl rfl rfl rfl rfl
    exact ⟨fun _ => (hs.trans hk.held).bounded (bounded_resetWith straps),
      fun _ => (hs.trans hk.held).rest (unfittedAtRest_resetWith straps)⟩
  | mgmtFrameComplete => exact Host.Outcome.next.inj h ▸ testFrame_held s
  | characterGapTimeout => exact execCharacterGapTimeout_held h
  | spiTransferEnd => exact execSpiTransferEnd_held h
  | messageSent =>
    exact Host.Outcome.next.inj h ▸
      ⟨fun hb => hb.modMgmt (bounded_iff.1 hb).1.sendHead, fun hr => hr.modMgmt (Mgmt.sendHead_fitted _)⟩
  | unknownRequest kind tag body => exact execUnknownRequest_held kind tag body h
  | identify => exact request_held (judge := fun u => done (identity u) u) (of_state_eq fun _ => rfl) h
  | configureBond _ body => exact request_held (judgeConfigureBond_kept body) h
  | release => exact request_held judgeRelease_kept h
  | resetBond => exact request_held (judge := fun u => done [] (resetBondAll u)) resetBondDone_kept h
  | configurePair _ body => exact request_held (withPair_kept (judgeConfigurePair_kept body)) h
  | enablePair => exact request_held (withPair_kept judgeEnablePair_kept) h
  | disablePair _ body => exact request_held (judgeDisablePair_kept body) h
  | probePair _ body => exact request_held (of_state_eq (judgeProbePair_state body)) h
  | configureMemory _ body => exact request_held (judgeConfigureMemory_kept body) h
  | writeRule _ body => exact request_held (judgeWriteRule_kept body) h
  | readRule _ body => exact request_held (of_state_eq (judgeReadRule_state body)) h
  | tryClassify _ body => exact request_held (of_state_eq (judgeTryClassify_state body)) h
  | configureClass _ body => exact request_held (judgeConfigureClass_kept body) h
  | flushReorder => exact request_held judgeFlushReorder_kept h
  | readGaps => exact request_held judgeReadGaps_kept h
  | setNotices _ body => exact request_held (judgeSetNotices_kept body) h
  | readPair _ body => exact request_held (of_state_eq (judgeReadPair_state body)) h
  | readBond => exact request_held (judge := fun u => done (bondRecord u) u) (of_state_eq fun _ => rfl) h
  | readCounters _ body => exact request_held (judgeReadCounters_kept body) h
  | noticeBuild => exact Host.Outcome.next.inj h ▸ ⟨Bounded.buildNotice, UnfittedAtRest.buildNotice⟩
  | report p line up down upDelay downDelay => exact (execReport_kept p line up down upDelay downDelay h).held
  | taken p octets => exact (execTaken_kept p octets h).held
  | fragmentReceived p octets => exact (execFragmentReceived_kept p octets h).held
  | portUnknownMessage => exact Host.Outcome.next.inj h ▸ .refl s
  | silenceTimerExpiry p => exact (execSilenceTimerExpiry_kept p h).held
  | lineGuardChange p level => exact (execLineGuardChange_kept p level h).held
  | guardAssertTimerExpiry p => exact (execGuardAssertTimerExpiry_kept p h).held
  | guardClearTimerExpiry p => exact (execGuardClearTimerExpiry_kept p h).held
  | holdoffTimerExpiry p => exact (execHoldoffTimerExpiry_kept p h).held
  | joinTimerExpiry p => exact (execJoinTimerExpiry_kept p h).held
  | joinRepeatTimerExpiry p => exact (execJoinRepeatTimerExpiry_kept p h).held
  | leaveTimerExpiry p => exact (execLeaveTimerExpiry_kept p h).held
  | penaltyTimerExpiry p => exact (execPenaltyTimerExpiry_kept p h).held
  | progressTimerExpiry p => exact (execProgressTimerExpiry_kept p h).held
  | gapTimerExpiry => exact (execGapTimerExpiry_kept h).held
  | lanFrameReceived run rxError => exact (execLanFrameReceived_kept run rxError h).held
  | lanFrameSent => exact (execLanFrameSent_kept h).held
  | lanLinkChange up => exact (execLanLinkChange_kept up h).held
  | mgmtOctetReceived octet stopBit => exact execMgmtOctetReceived_held octet stopBit h

theorem step_held (h : step s = .next t) : Held s t := by
  unfold step at h
  split at h
  · obtain rfl := (Host.Outcome.next.inj h).symm
    exact .of_same rfl rfl rfl rfl rfl rfl rfl
  · rename_i c rest _
    have hs : Held s { s with pending := rest } := .of_same rfl rfl rfl rfl rfl rfl rfl
    exact hs.trans (exec_held c h)

/-! ### The obligations -/

/-- Settles O56: each command keeps the two queues of the link and every other buffer within their bounds. -/
theorem boundsAreKept : Obligations.BoundsAreKept := by
  unfold Obligations.BoundsAreKept
  exact fun _ _ hb h => (step_held h).bounded hb

/-- What the pins of an unfitted pair bring is ignored, but for the level of its guard pin (R23) [15]. -/
theorem exec_unfitted (s : State) (hp : s.mgmt.fitted ≤ p.val) :
    (∀ line up down upDelay downDelay, exec (.report p line up down upDelay downDelay) s = .next s) ∧
    (∀ n, exec (.taken p n) s = .next s) ∧ (∀ octets, exec (.fragmentReceived p octets) s = .next s) ∧
    (∀ octets, exec (.portUnknownMessage p octets) s = .next s) ∧
    (∀ level, exec (.lineGuardChange p level) s = .next (s.modPort p fun x => { x with guardPin := level })) := by
  have hfit : s.isFitted p = false := decide_eq_false (Nat.not_lt.2 hp)
  have hlisten : s.listening p = false := by rw [State.listening, hfit, Bool.false_and]
  refine ⟨fun line up down upDelay downDelay => ?_, fun n => ?_, fun octets => ?_, fun octets => rfl, fun level => ?_⟩
  · simp [exec, execReport, hfit]
  · simp [exec, execTaken, hlisten]
  · simp [exec, execFragmentReceived, hlisten]
  · simp [exec, execLineGuardChange, hfit]

/-- Settles O59: every command leaves a port and a pair of no fitted number as they are, by `exec_held` and `exec_unfitted`. -/
theorem unfittedPairsStayAtRest : Obligations.UnfittedPairsStayAtRest := by
  unfold Obligations.UnfittedPairsStayAtRest
  refine ⟨fun _ _ hr h => (step_held h).rest hr, fun s p hp => exec_unfitted s hp, fun straps s t h => ?_⟩
  have hs : Held (State.resetWith straps)
    { State.resetWith straps with pending := s.pending, freeCount := s.freeCount } := .of_same rfl rfl rfl rfl rfl rfl rfl
  exact ⟨execReset_fitted straps h,
    (execReset_kept straps h).rest (hs.rest (unfittedAtRest_resetWith straps))⟩

end Sys2Proof.Machine

/-! PROOFS. What the outbound half and the Pair Port leave of the inbound path: the live set, T_reorder, the NO-PATH count and
the notices of the other blocks (R75, R104, R118, R127, R155). -/

namespace Sys2Proof.Machine

variable {p : PairNo} {s t u : State}

/-! ### Acts at a port or a pair -/

theorem modPort_delivery (p : PairNo) (f : Port → Port) (s : State) : DeliveryKept s (s.modPort p f) :=
  .of_eq rfl rfl rfl rfl

theorem modPair_delivery (p : PairNo) (f : Pair → Pair) (s : State) : DeliveryKept s (s.modPair p f) :=
  .of_eq rfl rfl rfl rfl

theorem handover_delivery (p : PairNo) (s : State) : DeliveryKept s (handover p s) := by
  unfold handover
  split
  · exact modPort_delivery p _ s
  · exact .refl s

theorem stage_delivery (p : PairNo) (f : Fragment) (s : State) : DeliveryKept s (stage p f s) :=
  ((modPort_delivery p _ s).trans (modPair_delivery p _ _)).trans (handover_delivery p _)

theorem place_delivery {f : Fragment} (h : place p f s = some t) : DeliveryKept s t := by
  unfold place at h
  split at h
  · obtain rfl := Option.some.inj h
    exact stage_delivery p f s
  · cases h

theorem placeProgress_delivery (p : PairNo) (s : State) : DeliveryKept s (placeProgress p s) := by
  unfold placeProgress
  split
  · exact (place_delivery ‹_›).trans (modPair_delivery p _ _)
  · exact .refl s

theorem placeLeave_delivery (p : PairNo) (why : LeaveReason) (s : State) : DeliveryKept s (placeLeave p why s) := by
  unfold placeLeave
  split
  · exact (place_delivery ‹_›).trans (modPair_delivery p _ _)
  · exact modPair_delivery p _ s

theorem renewalTest_delivery (p : PairNo) (s : State) : DeliveryKept s (renewalTest p s) := by
  unfold renewalTest
  split
  · exact (modPair_delivery p _ s).trans (placeProgress_delivery p _)
  · exact .refl s

theorem setOrder_delivery (p : PairNo) (o : Order) (s : State) : DeliveryKept s (setOrder p o s) := by
  unfold setOrder
  split
  · exact .refl s
  · exact (modPort_delivery p _ s).trans (modPort_delivery p _ _)

theorem emptyQueue_delivery (p : PairNo) (s : State) : DeliveryKept s (emptyQueue p s) := .of_eq rfl rfl rfl rfl

theorem keepReport_delivery (p : PairNo) (r : Report) (s : State) : DeliveryKept s (keepReport p r s) :=
  (modPort_delivery p _ s).trans (handover_delivery p _)

theorem race_delivery (s : State) : DeliveryKept s s.race.2 := .of_eq rfl rfl rfl rfl

theorem race_if_delivery (b : Bool) (s : State) : DeliveryKept s (if b then s.race else (false, s)).2 := by
  split
  · exact race_delivery s
  · exact .refl s

/-! ### The Fragment Dispatcher -/

theorem modDisp_delivery (f : Dispatcher → Dispatcher) (s : State) : DeliveryKept s (s.modDisp f) := .of_eq rfl rfl rfl rfl

theorem selectFrame_delivery {f : OutFrame} (h : selectFrame s = some (f, t)) : DeliveryKept s t := by
  have hc : ∀ (c : Fin 4) (q : ClassQueue), DeliveryKept s (s.setCls c q) := fun _ _ => .of_eq rfl rfl rfl rfl
  unfold selectFrame at h
  split at h
  · cases h
  · dsimp only at h
    split at h
    · cases h
    · obtain ⟨rfl, rfl⟩ := Option.some.inj h |> Prod.mk.inj
      split
      · exact hc _ _
      · exact (hc _ _).trans (countBy_delivery (c := .agePromotions) (by decide) 1 _)

theorem placeFragment_delivery (p : PairNo) (plan : SplitPlan) (s : State) : DeliveryKept s (placeFragment p plan s) :=
  (((modDisp_delivery _ s).trans (stage_delivery p _ _)).trans (modPair_delivery p _ _)).trans
    (countBy_delivery (c := .fragmentsDispatched) (by decide) 1 _)

theorem finishFrame_delivery (plan : SplitPlan) (s : State) : DeliveryKept s (finishFrame plan s) :=
  ((modDisp_delivery _ s).trans (countBy_delivery (c := .framesDispatched) (by decide) 1 _)).trans
    (returnCells_delivery _ _ _)

theorem dispatchMove_delivery {b : Bool} (h : dispatchMove s = some (t, b)) : DeliveryKept s t := by
  unfold dispatchMove at h
  split at h
  · split at h
    · obtain ⟨rfl, rfl⟩ := Option.some.inj h |> Prod.mk.inj
      exact (selectFrame_delivery ‹_›).trans (modDisp_delivery _ _)
    · split at h
      · cases h
      · obtain ⟨rfl, rfl⟩ := Option.some.inj h |> Prod.mk.inj
        exact modDisp_delivery _ s
  · split at h
    · obtain ⟨rfl, rfl⟩ := Option.some.inj h |> Prod.mk.inj
      split
      · exact (placeFragment_delivery _ _ s).trans (finishFrame_delivery _ _)
      · exact placeFragment_delivery _ _ s
    · split at h
      · cases h
      · obtain ⟨rfl, rfl⟩ := Option.some.inj h |> Prod.mk.inj
        exact (modDisp_delivery _ s).trans (countBy_delivery (c := .dispatchHolds) (by decide) 1 _)

theorem renewalTests_delivery (s : State) : DeliveryKept s (renewalTests s) :=
  forPairs_induct (P := DeliveryKept s) (fun q _ h => h.trans (renewalTest_delivery q _)) s (.refl s)

theorem dispatchRun_delivery (n : Nat) (owed : Bool) (s : State) : DeliveryKept s (dispatchRun n owed s) := by
  induction n generalizing owed s with
  | zero =>
    unfold dispatchRun
    split
    · exact renewalTests_delivery s
    · exact .refl s
  | succ n ih =>
    cases owed with
    | true =>
      unfold dispatchRun
      have hr := race_if_delivery s.renewalWanted s
      generalize (if s.renewalWanted then s.race else (false, s)) = b at hr
      have hrun := (hr.trans (renewalTests_delivery _)).trans (ih false _)
      dsimp only
      split
      · split
        · exact (hr.trans (dispatchMove_delivery ‹_›)).trans (ih _ _)
        · exact hrun
      · exact hrun
    | false =>
      unfold dispatchRun
      have hr := race_if_delivery s.mayStop s
      generalize (if s.mayStop then s.race else (false, s)) = b at hr
      dsimp only
      split
      · exact hr.trans (modDisp_delivery _ _)
      · split
        · exact (hr.trans (dispatchMove_delivery ‹_›)).trans (ih _ _)
        · exact hr

/-- A re-decision leaves the inbound path at rest but for the pressure events of the cells it returns (R104, R118). -/
theorem redecide_delivery (s : State) : DeliveryKept s (redecide s) := by
  unfold redecide
  split
  · exact (dispatchRun_delivery _ _ s).trans (drainTells_delivery _)
  · exact .refl s

theorem InboundFrame.mask (h : InboundFrame s t) : t.mgmt.mask = s.mgmt.mask := by rw [h.mgmt]

theorem EventFrame.mask (h : EventFrame s t) : t.mgmt.mask = s.mgmt.mask := by rw [h.mgmt]

end Sys2Proof.Machine

/-! PROOFS. What entry to a state brings beside the pair's record and port: the notices, the removal from the live set, and
the purge (R39, R75, R101, R127, R187). -/

namespace Sys2Proof.Machine

variable {p : PairNo} {s t u : State}

/-! ### Beside the pair -/

/-- Nothing beside the inbound path has changed: what a removal from the live set and what a pressure event bring. -/
structure AsideKept (s t : State) : Prop where
  frame : PurgeFrame s t
  classes : t.classes = s.classes
  disp : t.disp = s.disp
  usedOut : t.cells.usedOut = s.cells.usedOut
  notices : ∀ i : NoticeInst, i.inbound = false → t.occurrences i = s.occurrences i
  noPath : t.counter .noPath = s.counter .noPath
  live : ∀ q, s.mark q = none → t.mark q = none

theorem AsideKept.refl (s : State) : AsideKept s s := ⟨.refl s, rfl, rfl, rfl, fun _ _ => rfl, rfl, fun _ => id⟩

theorem AsideKept.trans (h : AsideKept s t) (k : AsideKept t u) : AsideKept s u :=
  ⟨h.frame.trans k.frame, k.classes.trans h.classes, k.disp.trans h.disp, k.usedOut.trans h.usedOut,
    fun i hi => (k.notices i hi).trans (h.notices i hi), k.noPath.trans h.noPath,
    fun q hq => k.live q (h.live q hq)⟩

theorem AsideKept.of_inbound (hf : InboundFrame s t) (hk : InboundKept s t) (ho : OutboundKept s t)
    (hl : ∀ q, s.mark q = none → t.mark q = none) : AsideKept s t :=
  ⟨hf.purgeFrame, hf.classes, hf.disp, ho.usedOut, hk.notices, hk.noPath, hl⟩

theorem DeliveryKept.mark (h : DeliveryKept s t) (q : PairNo) : t.mark q = s.mark q := by
  simp only [State.mark, h.live]

theorem drainTells_aside (s : State) : AsideKept s (drainTells s) :=
  .of_inbound (drainTells_frame s) (drainTells_delivery s).toInboundKept (drainTells_outbound s) fun q hq =>
    ((drainTells_delivery s).mark q).trans hq

theorem race_aside (s : State) : AsideKept s s.race.2 :=
  ⟨race_purgeFrame s, rfl, rfl, rfl, fun _ _ => rfl, rfl, fun _ => id⟩

theorem recomputeT_outbound (s : State) : OutboundKept s (recomputeT s) := by
  unfold recomputeT
  split
  · exact .refl s
  · exact modRx_outbound _ s

theorem membershipFollow_outbound (s : State) : OutboundKept s (membershipFollow s) :=
  ((gapStep_outbound s).trans (recomputeT_outbound _)).trans (drainTells_outbound _)

theorem rxRemove_outbound (p : PairNo) (s : State) : OutboundKept s (rxRemove p s) := by
  unfold rxRemove
  split
  · have hm : OutboundKept s (s.setMark p none) := .of_eq rfl rfl
    exact hm.trans (membershipFollow_outbound _)
  · exact .refl s

/-! ### The live set (R127) -/

theorem recomputeT_mark (s : State) (q : PairNo) : (recomputeT s).mark q = s.mark q := by
  unfold recomputeT
  split <;> rfl

theorem membershipFollow_mark (s : State) (q : PairNo) : (membershipFollow s).mark q = s.mark q := by
  unfold membershipFollow
  rw [(drainTells_delivery _).mark, recomputeT_mark, (gapStep_delivery s).mark]

/-- A pair that has left the live set has no mark. -/
theorem rxRemove_mark (p : PairNo) (s : State) : (rxRemove p s).mark p = none := by
  unfold rxRemove
  split
  · rw [membershipFollow_mark, mark_setMark]
  · rename_i h
    simpa [State.isLive] using h

/-- A removal lets no pair into the live set. -/
theorem rxRemove_aside (p : PairNo) (s : State) : AsideKept s (rxRemove p s) := by
  refine .of_inbound (rxRemove_frame p s) (rxRemove_inbound p s) (rxRemove_outbound p s) fun q hq => ?_
  by_cases hqp : q = p
  · exact hqp ▸ rxRemove_mark p s
  · unfold rxRemove
    split
    · rw [membershipFollow_mark, mark_setMark_ne hqp, hq]
    · exact hq

/-! ### The ACTIVE count (R39) -/

theorem activeCount_congr (h : t.pairs = s.pairs) : t.activeCount = s.activeCount := by
  have : t.isActive = s.isActive := funext fun q => by rw [State.isActive, State.isActive, pair_congr h q]
  rw [State.activeCount, State.activeCount, this]

theorem activeCount_eq_zero (h : ∀ q, (s.pair q).state ≠ .active) : s.activeCount = 0 :=
  List.countP_eq_zero.2 fun q _ => by simp [State.isActive, h q]

/-- The count where `p` is the only ACTIVE pair. -/
theorem activeCount_eq_one (hp : (s.pair p).state = .active) (h : ∀ q, q ≠ p → (s.pair q).state ≠ .active) :
    s.activeCount = 1 := by
  have hs : s.isActive = fun q => decide (q = p) := funext fun q => by
    by_cases hq : q = p
    · subst hq
      simp [State.isActive, hp]
    · simp [State.isActive, hq, h q hq]
  rw [State.activeCount, hs]
  clear hp h hs
  revert p
  decide

theorem not_active_of_activeCount_one (hp : (s.pair p).state = .active) (h : s.activeCount = 1) (q : PairNo)
    (hq : q ≠ p) : (s.pair q).state ≠ .active := by
  rw [State.activeCount, List.countP_eq_length_filter, List.length_eq_one_iff] at h
  obtain ⟨a, ha⟩ := h
  have hmem : ∀ r, (s.pair r).state = .active → r = a := fun r hr => by
    have : r ∈ allPairs.filter s.isActive := List.mem_filter.2 ⟨mem_allPairs r, by simp [State.isActive, hr]⟩
    simpa [ha] using this
  exact fun hqa => hq ((hmem q hqa).trans (hmem p hp).symm)

/-! ### Removal and entry -/

/-- Removal and act in either order (R75): the act is made once, on a state that has changed only on the inbound side, and
the pair leaves the live set before it, or during the purge of the last ACTIVE pair. -/
theorem withRemoval_aside (p : PairNo) (act : (State → State) → State → State) (s : State) :
    ∃ during u, (∀ x, AsideKept x (during x)) ∧ AsideKept s u ∧ withRemoval p act s = act during u ∧
      (u.mark p = none ∨
        ((s.pair p).state = .active ∧ s.activeCount = 1 ∧ ∀ x, (during x).mark p = none)) := by
  have h2 : AsideKept s s.race.2.race.2 := (race_aside s).trans (race_aside _)
  unfold withRemoval
  split
  · rename_i hb
    have hb : (s.isActive p = true ∧ s.activeCount = 1) := by
      simp only [State.purgesWith, Bool.and_eq_true, beq_iff_eq] at hb
      exact hb.2.1
    dsimp only
    split
    · refine ⟨_, _, fun x => ?_, h2, rfl, .inr ⟨by simpa [State.isActive] using hb.1, hb.2, fun x => rxRemove_mark p _⟩⟩
      split
      · exact (drainTells_aside x).trans (rxRemove_aside p _)
      · exact rxRemove_aside p x
    · exact ⟨id, _, .refl, h2.trans (rxRemove_aside p _), rfl, .inl (rxRemove_mark p _)⟩
  · exact ⟨id, _, .refl, rxRemove_aside p s, rfl, .inl (rxRemove_mark p s)⟩

/-- Entry to a state is the entry of R39 on a state that has changed only on the inbound side. -/
theorem enter_aside (p : PairNo) (new : PairState) (why : Reason) (s : State) :
    ∃ during u, (∀ x, AsideKept x (during x)) ∧ AsideKept s u ∧ enter p new why s = entering during p new why u ∧
      (leavesLive new = true → u.mark p = none ∨
        ((s.pair p).state = .active ∧ s.activeCount = 1 ∧ ∀ x, (during x).mark p = none)) := by
  unfold enter
  split
  · obtain ⟨during, u, hd, hu, he, hm⟩ := withRemoval_aside p (fun during => entering during p new why) s
    exact ⟨during, u, hd, hu, he, fun _ => hm⟩
  · exact ⟨id, s, .refl, .refl s, rfl, fun h => absurd h ‹_›⟩

/-- The part of an entry before the ACTIVE count is looked at: the record, the order, the emptying, the handover. -/
def entryActs (p : PairNo) (new : PairState) (why : Reason) (s : State) : State :=
  let s2 := setOrder p new.order (s.modPair p fun r => r.entered new why)
  handover p (if entryEmpties (s.pair p).state new then emptyQueue p s2 else s2)

theorem entering_eq (during : State → State) (p : PairNo) (new : PairState) (why : Reason) (s : State) :
    entering during p new why s =
      activeChanged during s.activeCount ((entryActs p new why s).raise (.pairState p)) := rfl

/-- The acts of an entry at pair and port leave the rest of the part as it is. -/
structure EntryActs (p : PairNo) (s t : State) : Prop where
  frame : PairFrame p s t
  delivery : DeliveryKept s t
  classes : t.classes = s.classes
  disp : t.disp = s.disp
  cells : t.cells = s.cells

theorem setOrder_rest (p : PairNo) (o : Order) (s : State) : (setOrder p o s).classes = s.classes ∧
    (setOrder p o s).disp = s.disp ∧ (setOrder p o s).cells = s.cells := by
  unfold setOrder
  split <;> exact ⟨rfl, rfl, rfl⟩

theorem entryActs_acts (p : PairNo) (new : PairState) (why : Reason) (s : State) :
    EntryActs p s (entryActs p new why s) := by
  have hf := (modPair_frame p (fun r => r.entered new why) s).trans (setOrder_frame p new.order _)
  have hd := (modPair_delivery p (fun r => r.entered new why) s).trans (setOrder_delivery p new.order _)
  obtain ⟨hc, hp, hu⟩ := setOrder_rest p new.order (s.modPair p fun r => r.entered new why)
  unfold entryActs
  dsimp only
  split
  · exact ⟨(hf.trans (emptyQueue_frame p _)).trans (handover_frame p _),
      (hd.trans (emptyQueue_delivery p _)).trans (handover_delivery p _), (handover_classes _ _).trans hc,
      (handover_disp _ _).trans hp, (handover_cells _ _).trans hu⟩
  · exact ⟨hf.trans (handover_frame p _), hd.trans (handover_delivery p _), (handover_classes _ _).trans hc,
      (handover_disp _ _).trans hp, (handover_cells _ _).trans hu⟩

theorem entryActs_state (p : PairNo) (new : PairState) (why : Reason) (s : State) :
    ((entryActs p new why s).pair p).state = new := by
  unfold entryActs
  rw [handover_pair]
  split
  · rw [emptyQueue_pair, setOrder_pair, pair_modPair]
    rfl
  · rw [setOrder_pair, pair_modPair]
    rfl

/-! ### The purge (R101) -/

theorem returnFrames_usedOut (fs : List OutFrame) (s : State) :
    (returnFrames fs s).cells.usedOut = s.cells.usedOut - (fs.map (·.cells)).sum := by
  induction fs generalizing s with
  | nil => rfl
  | cons f fs ih =>
    have h := ih (returnCells .outbound f.cells s)
    rw [returnCells_usedOut, Nat.sub_sub] at h
    exact h

theorem emptyOutbound_classes (s : State) : (emptyOutbound s).classes = s.classes.map ClassQueue.emptied := by
  have h := (returnFrames_frame s.queued { s with classes := s.classes.map ClassQueue.emptied }).classes
  unfold emptyOutbound
  dsimp only
  split
  · rw [(returnCells_frame _ _ _).classes]
    exact h
  · exact h

theorem emptyOutbound_disp (s : State) :
    (emptyOutbound s).disp = { next := s.disp.next, split := none, held := false, standing := true } := by
  have h := (returnFrames_frame s.queued { s with classes := s.classes.map ClassQueue.emptied }).disp
  unfold emptyOutbound
  dsimp only
  split
  · rw [(returnCells_frame _ _ _).disp, h]
  · rename_i hs
    rw [h, hs]

/-- Emptying the outbound half returns every cell that its frames hold (R101). -/
theorem emptyOutbound_usedOut
    (h : s.cells.usedOut = (s.queued.map (·.cells)).sum + ((s.disp.split.map (·.cells)).getD 0)) :
    (emptyOutbound s).cells.usedOut = 0 := by
  have hr := returnFrames_usedOut s.queued { s with classes := s.classes.map ClassQueue.emptied }
  unfold emptyOutbound
  dsimp only
  split
  · rename_i plan hs
    rw [hs] at h
    rw [returnCells_usedOut]
    dsimp only
    rw [hr, h]
    simp
  · rename_i hs
    rw [hs] at h
    dsimp only
    rw [hr, h]
    simp

/-- A purge changes no notice but those of the inbound path. -/
theorem purge_notices {during : State → State} (hd : ∀ x, AsideKept x (during x)) (s : State) {i : NoticeInst}
    (hi : i.inbound = false) : (purge during s).occurrences i = s.occurrences i := by
  unfold purge
  rw [(drainTells_delivery _).notices i hi, (hd _).notices i hi, (emptyOutbound_delivery _).notices i hi]
  rfl

/-- What is purged: every frame of the outbound half, counted and its cells returned (R101). -/
theorem purge_purged {during : State → State} (hd : ∀ x, AsideKept x (during x)) (s : State) :
    (∀ c, (purge during s).cls c = { s.cls c with frames := [] }) ∧
    (purge during s).disp = { next := s.disp.next, split := none, held := false, standing := true } ∧
    (purge during s).counter .noPath = countUp (s.counter .noPath) s.outboundFrames ∧
    (s.cells.usedOut = (s.queued.map (·.cells)).sum + ((s.disp.split.map (·.cells)).getD 0) →
      (purge during s).cells.usedOut = 0) := by
  have hk : AsideKept (emptyOutbound (s.countBy .noPath s.outboundFrames)) (purge during s) :=
    (hd _).trans (drainTells_aside _)
  refine ⟨fun c => ?_, ?_, ?_, fun h => ?_⟩
  · simp only [State.cls, hk.classes, emptyOutbound_classes, Vector.getElem_map]
    rfl
  · rw [hk.disp, emptyOutbound_disp]
    rfl
  · rw [hk.noPath, (emptyOutbound_delivery _).noPath, counter_countBy]
  · rw [hk.usedOut]
    exact emptyOutbound_usedOut h

end Sys2Proof.Machine

/-! PROOFS. Entry to a state seen from outside: PAIR-STATE is raised, the pair leaves the live set, the loss of the last ACTIVE
pair purges (R39, R101, R127, R187). -/

namespace Sys2Proof.Machine

variable {p : PairNo} {s t u : State}

/-! ### Counts of notices (R186, R187) -/

theorem StateTold.trans {m n : Nat} (h : StateTold p m s t) (k : StateTold p n t u) (hm : t.mgmt.mask = s.mgmt.mask) :
    StateTold p (m + n) s u := fun hmask => by
  have ht := h hmask
  have hu := k (hm ▸ hmask)
  omega

theorem StateTold.of_eq_left {n : Nat} (h : StateTold p n t u) (ho : t.occurrences (.pairState p) = s.occurrences (.pairState p))
    (hm : t.mgmt.mask = s.mgmt.mask) : StateTold p n s u := fun hmask => ho ▸ h (hm ▸ hmask)

theorem StateTold.of_eq_right {n : Nat} (h : StateTold p n s t)
    (ho : u.occurrences (.pairState p) = t.occurrences (.pairState p)) : StateTold p n s u := fun hmask => ho.trans (h hmask)

/-- The change of the ACTIVE count raises no notice but BOND-STATE, and those of the inbound path. -/
theorem activeChanged_notices {during : State → State} (hd : ∀ x, AsideKept x (during x)) (n : Nat) (s : State)
    {i : NoticeInst} (hi : i.inbound = false) (hb : i.place ≠ NoticeInst.bondState.place) :
    (activeChanged during n s).occurrences i = s.occurrences i := by
  unfold activeChanged
  split
  · split
    · rfl
    · exact occurrences_raise_ne hb s
  · split
    · rw [purge_notices hd _ hi, occurrences_raise_ne hb]
    · rfl

theorem pairState_place_ne_bondState (p : PairNo) : (NoticeInst.pairState p).place ≠ NoticeInst.bondState.place :=
  fun h => by
    have := congrArg Fin.val h
    simp only [NoticeInst.place, Fin.isValue, Fin.coe_ofNat_eq_mod] at this
    omega

/-- The pair's change of state raises its PAIR-STATE once (R39). -/
theorem enter_told (p : PairNo) (new : PairState) (why : Reason) (s : State) : StateTold p 1 s (enter p new why s) := by
  obtain ⟨during, u, hd, hu, he, -⟩ := enter_aside p new why s
  have hv := entryActs_acts p new why u
  rw [he, entering_eq]
  intro hmask
  have hfree : (entryActs p new why u).isMasked (.pairState p) = false := by
    rw [State.isMasked, hv.frame.event.mask, hu.frame.event.mask]
    exact hmask
  rw [activeChanged_notices hd _ _ rfl (pairState_place_ne_bondState p), raise_unmasked hfree,
    hv.delivery.notices _ rfl, hu.notices _ rfl]

/-- Entry raises no other notice but BOND-STATE, and those of the inbound path. -/
theorem enter_notices (p : PairNo) (new : PairState) (why : Reason) (s : State) {i : NoticeInst} (hi : i.inbound = false)
    (hb : i.place ≠ NoticeInst.bondState.place) (hp : i.place ≠ (NoticeInst.pairState p).place) :
    (enter p new why s).occurrences i = s.occurrences i := by
  obtain ⟨during, u, hd, hu, he, -⟩ := enter_aside p new why s
  rw [he, entering_eq, activeChanged_notices hd _ _ hi hb, occurrences_raise_ne hp,
    (entryActs_acts p new why u).delivery.notices i hi, hu.notices i hi]

/-! ### The live set -/

theorem purge_left {during : State → State} (hd : ∀ x, AsideKept x (during x)) (s : State) {q : PairNo}
    (h : s.mark q = none ∨ ∀ x, (during x).mark q = none) : (purge during s).mark q = none := by
  unfold purge
  rw [(drainTells_delivery _).mark]
  rcases h with h | h
  · refine (hd _).live q ?_
    rw [(emptyOutbound_delivery _).mark]
    exact h
  · exact h _

theorem raise_mark (i : NoticeInst) (s : State) (q : PairNo) : (s.raise i).mark q = s.mark q := by
  rw [State.mark, State.mark, raise_rx]

theorem activeChanged_left {during : State → State} (hd : ∀ x, AsideKept x (during x)) (n : Nat) (s : State) {q : PairNo}
    (h : s.mark q = none) : (activeChanged during n s).mark q = none := by
  unfold activeChanged
  split
  · split
    · exact h
    · rw [raise_mark, h]
  · split
    · exact purge_left hd _ (.inl ((raise_mark _ _ _).trans h))
    · exact h

/-! ### The last ACTIVE pair -/

/-- Where the only ACTIVE pair leaves ACTIVE, the count falls from 1 to 0 and the entry purges (R39, R101). -/
theorem entering_last {during : State → State} {new : PairState} (why : Reason) (hp : (s.pair p).state = .active)
    (hlast : s.activeCount = 1) (hnew : new ≠ .active) :
    entering during p new why s = purge during (((entryActs p new why s).raise (.pairState p)).raise .bondState) := by
  have hzero : ((entryActs p new why s).raise (.pairState p)).activeCount = 0 := by
    refine activeCount_eq_zero fun q => ?_
    rw [pair_raise]
    by_cases hq : q = p
    · subst hq
      rwa [entryActs_state]
    · rw [(entryActs_acts p new why s).frame.pairs q hq]
      exact not_active_of_activeCount_one hp hlast q hq
  rw [entering_eq, activeChanged, if_neg (by omega), if_pos hzero]

/-- Entry to a state that is not kept in the live set takes the pair out of it (R127). -/
theorem enter_mark {new : PairState} (h : leavesLive new = true) (p : PairNo) (why : Reason) (s : State) :
    (enter p new why s).mark p = none := by
  obtain ⟨during, u, hd, hu, he, hm⟩ := enter_aside p new why s
  rw [he]
  rcases hm h with hnone | ⟨hactive, hone, hleft⟩
  · rw [entering_eq]
    refine activeChanged_left hd _ _ ?_
    rw [raise_mark, (entryActs_acts p new why u).delivery.mark, hnone]
  · have hnew : new ≠ .active := fun h' => by simp [h', leavesLive] at h
    rw [entering_last why ((congrArg Pair.state (pair_congr hu.frame.pairs p)).trans hactive)
      ((activeCount_congr hu.frame.pairs).trans hone) hnew]
    exact purge_left hd _ (.inr hleft)

/-- Entry of the last ACTIVE pair to another state tells BOND-STATE and purges the outbound half (R39, R101). -/
theorem enter_purged {new : PairState} (why : Reason) (hp : (s.pair p).state = .active)
    (hlast : ∀ q, q ≠ p → (s.pair q).state ≠ .active) (hnew : new ≠ .active) : Purged s (enter p new why s) := by
  obtain ⟨during, u, hd, hu, he, -⟩ := enter_aside p new why s
  have hv := entryActs_acts p new why u
  rw [he, entering_last why ((congrArg Pair.state (pair_congr hu.frame.pairs p)).trans hp)
    ((activeCount_congr hu.frame.pairs).trans (activeCount_eq_one hp hlast)) hnew]
  obtain ⟨hcls, hdisp, hcount, hcells⟩ :=
    purge_purged hd (((entryActs p new why u).raise (.pairState p)).raise .bondState)
  have hwcls : ∀ c, (((entryActs p new why u).raise (.pairState p)).raise .bondState).cls c = s.cls c := fun c => by
    simp only [State.cls, raise_classes, hv.classes, hu.classes]
  have hwdisp : (((entryActs p new why u).raise (.pairState p)).raise .bondState).disp = s.disp := by
    rw [raise_disp, raise_disp, hv.disp, hu.disp]
  refine ⟨fun c => (hcls c).trans (by rw [hwcls]), hdisp.trans (by rw [hwdisp]), ?_, fun h => hcells ?_, fun hmask => ?_⟩
  · rw [hcount, State.outboundFrames, hwdisp]
    simp only [State.queued, hwcls, List.length_append, State.counter, raise_counters]
    have := hv.delivery.noPath.trans hu.noPath
    rw [State.counter, State.counter] at this
    rw [this]
  · rw [hwdisp, raise_cells, raise_cells, hv.cells, hu.usedOut, h]
    simp only [State.queued, hwcls]
  · have hfree : ((entryActs p new why u).raise (.pairState p)).isMasked .bondState = false := by
      rw [State.isMasked, (raise_frame _ _).inbound.mask, hv.frame.event.mask, hu.frame.event.mask]
      exact hmask
    rw [purge_notices hd _ rfl, raise_unmasked hfree, occurrences_raise_ne (pairState_place_ne_bondState p).symm,
      hv.delivery.notices _ rfl, hu.notices _ rfl]

end Sys2Proof.Machine

/-! PROOFS. The first REPORT (O27): what entries with a closed gate keep of the pair, and the moves of a pair whose transceiver
has become present (R19, R21, R39, R41, R42). -/

namespace Sys2Proof.Machine

variable {p : PairNo} {s t u : State}

/-! ### Orders that are sent (R19) -/

/-- The messages that sending an order brings. -/
def Order.messages : Order → List PortMessage
  | .unordered => []
  | o => [.order o]

theorem Port.orderSent_sent (x : Port) : x.orderSent.sent = x.sent ++ x.order.messages := by
  unfold Port.orderSent
  cases x.order <;> simp [Order.messages]

theorem Port.ordered_sent (o : Order) (x : Port) :
    (x.ordered o).sent = x.sent ++ if x.order = o then [] else o.messages := by
  unfold Port.ordered
  split
  · exact (List.append_nil _).symm
  · exact Port.orderSent_sent _

/-! ### Entry to a state with a closed gate -/

/-- The port after an entry with a closed gate: under the state's order, its line queue empty (R39). -/
theorem Port.entered_closed_eq {new : PairState} (h : new.gateOpen = false) (old : PairState) (x : Port) :
    x.entered old new = { x with
      order := new.order, queue := [], takenFromHead := 0, residue := (x.entered old new).residue,
      sent := x.sent ++ if x.order = new.order then [] else new.order.messages } := by
  rw [Port.entered_closed h, Port.emptied, Port.ordered_eq, Port.ordered_sent]

/-- The pair's record after an entry, but for its counters (R39). -/
theorem enter_record (p : PairNo) (new : PairState) (why : Reason) (s : State) :
    (enter p new why s).pair p =
      { (s.pair p).entered new why with counters := ((enter p new why s).pair p).counters } := by
  rw [enter_pair]
  split <;> rfl

/-- An entry counts nothing but LOST-ON-DROP on its pair. -/
theorem enter_counter (p : PairNo) (new : PairState) (why : Reason) (s : State) {c : PairCounter}
    (hc : c.place ≠ PairCounter.lostOnDrop.place) :
    ((enter p new why s).pair p).counter c = (s.pair p).counter c := by
  rw [enter_pair]
  split
  · exact pair_counter_countBy_ne hc _ _
  · rfl

/-- What an entry with a closed gate keeps of its pair: the port's report, timers and guard, the enable flag, a pending
host disable, the flap history, and every counter but LOST-ON-DROP (R39). -/
structure EntryKept (p : PairNo) (s t : State) : Prop where
  port : t.port p = { s.port p with
    order := (t.port p).order, queue := (t.port p).queue, takenFromHead := (t.port p).takenFromHead,
    residue := (t.port p).residue, sent := (t.port p).sent }
  enabled : (t.pair p).enabled = (s.pair p).enabled
  hostDisable : (t.pair p).hostDisable = (s.pair p).hostDisable
  flaps : (t.pair p).flaps = (s.pair p).flaps
  counter : ∀ c : PairCounter, c.place ≠ PairCounter.lostOnDrop.place →
    (t.pair p).counter c = (s.pair p).counter c

theorem EntryKept.refl (p : PairNo) (s : State) : EntryKept p s s := ⟨rfl, rfl, rfl, rfl, fun _ _ => rfl⟩

theorem EntryKept.trans (h : EntryKept p s t) (k : EntryKept p t u) : EntryKept p s u :=
  ⟨by rw [k.port, h.port], k.enabled.trans h.enabled, k.hostDisable.trans h.hostDisable, k.flaps.trans h.flaps,
    fun c hc => (k.counter c hc).trans (h.counter c hc)⟩

theorem enter_kept {new : PairState} (h : new.gateOpen = false) (p : PairNo) (why : Reason) (s : State) :
    EntryKept p s (enter p new why s) := by
  refine ⟨?_, ?_, ?_, ?_, fun c hc => enter_counter p new why s hc⟩
  · rw [enter_port, Port.entered_closed_eq h]
  · rw [enter_record, Pair.entered]
  · rw [enter_record, Pair.entered]
  · rw [enter_record, Pair.entered]

/-- What an entry with a closed gate sends (R19). -/
theorem enter_sent {new : PairState} (h : new.gateOpen = false) (p : PairNo) (why : Reason) (s : State) :
    ((enter p new why s).port p).sent =
      (s.port p).sent ++ if (s.port p).order = new.order then [] else new.order.messages := by
  rw [enter_port, Port.entered_closed_eq h]

theorem enter_startTest {new : PairState} (h : new.gateOpen = false) (p : PairNo) (why : Reason) (s : State) :
    (enter p new why s).startTest p = s.startTest p := by
  rw [State.startTest, State.startTest, (enter_kept h p why s).enabled, (enter_frame p new why s).event.mgmt]

theorem startTest_iff : s.startTest p = true ↔ (s.pair p).enabled = true ∧ s.mgmt.released = true := by
  rw [State.startTest, Bool.and_eq_true]

theorem EntryKept.guard (h : EntryKept p s t) : (t.port p).guard = (s.port p).guard := by rw [h.port]

/-! ### A transceiver that has become present (R42) -/

theorem park_kept (p : PairNo) (s : State) : EntryKept p s (park p s) := enter_kept rfl p _ s

theorem park_startTest (p : PairNo) (s : State) : (park p s).startTest p = s.startTest p := enter_startTest rfl p _ s

theorem becamePresent_guard (h : (s.port p).guard = .active) :
    becamePresent p s = enter p .faulted .fault (park p s) := by
  unfold becamePresent
  exact if_pos ((park_kept p s).guard.trans h)

theorem becamePresent_start (hg : (s.port p).guard = .clear) (h : s.startTest p = true) :
    becamePresent p s = enter p .training .host (park p s) := by
  unfold becamePresent
  dsimp only
  rw [if_neg (by rw [(park_kept p s).guard, hg]; decide), if_pos ((park_startTest p s).trans h)]

theorem becamePresent_stay (hg : (s.port p).guard = .clear) (h : s.startTest p = false) :
    becamePresent p s = park p s := by
  unfold becamePresent
  dsimp only
  rw [if_neg (by rw [(park_kept p s).guard, hg]; decide), if_neg (by rw [park_startTest, h]; decide)]

/-- The pair goes to PARKED and may go on to FAULTED or to TRAINING: three entries with a closed gate. -/
theorem becamePresent_cases (p : PairNo) (s : State) :
    becamePresent p s = park p s ∨
      ∃ new why, new.gateOpen = false ∧ becamePresent p s = enter p new why (park p s) := by
  cases hg : (s.port p).guard with
  | active => exact .inr ⟨.faulted, .fault, rfl, becamePresent_guard hg⟩
  | clear =>
    cases hs : s.startTest p with
    | true => exact .inr ⟨.training, .host, rfl, becamePresent_start hg hs⟩
    | false => exact .inl (becamePresent_stay hg hs)

theorem becamePresent_kept (p : PairNo) (s : State) : EntryKept p s (becamePresent p s) := by
  rcases becamePresent_cases p s with h | ⟨new, why, hnew, h⟩
  · exact h ▸ park_kept p s
  · exact h ▸ (park_kept p s).trans (enter_kept hnew p why _)

theorem becamePresent_not_active (p : PairNo) (s : State) : (becamePresent p s).isActive p = false := by
  rcases becamePresent_cases p s with h | ⟨new, why, hnew, h⟩
  · rw [h, State.isActive, park, (enter_state p _ _ s).1]
    rfl
  · rw [h, State.isActive, (enter_state p _ _ _).1]
    cases new with
    | settling | joining | active | leaving => cases hnew
    | _ => rfl

theorem park_order (p : PairNo) (s : State) : ((park p s).port p).order = .quiet := enter_order ..

theorem park_sent (p : PairNo) (s : State) : ((park p s).port p).sent =
    (s.port p).sent ++ if (s.port p).order = .quiet then [] else [.order .quiet] := enter_sent rfl ..

theorem park_told (p : PairNo) (s : State) : StateTold p 1 s (park p s) := enter_told p _ _ s

/-- A transceiver with an active guard: the pair is in FAULTED, two states on (R41, R42). -/
theorem becamePresent_faulted (h : (s.port p).guard = .active) : ((becamePresent p s).pair p).state = .faulted ∧
    ((becamePresent p s).pair p).reason = .fault ∧ ((becamePresent p s).port p).order = .quiet ∧
    ((becamePresent p s).port p).sent =
      (s.port p).sent ++ (if (s.port p).order = .quiet then [] else [.order .quiet]) ∧
    StateTold p 2 s (becamePresent p s) := by
  rw [becamePresent_guard h]
  refine ⟨(enter_state ..).1, (enter_state ..).2, enter_order .., ?_,
    (park_told p s).trans (enter_told p _ _ _) (park_frame p s).event.mask⟩
  rw [enter_sent rfl, park_order, park_sent]
  exact List.append_nil _

/-- A transceiver whose pair passes the start test: the pair is in TRAINING, two states on (R41, R42). -/
theorem becamePresent_training (hg : (s.port p).guard = .clear) (h : s.startTest p = true) :
    ((becamePresent p s).pair p).state = .training ∧ ((becamePresent p s).pair p).reason = .host ∧
    ((becamePresent p s).port p).order = .train ∧
    ((becamePresent p s).port p).sent =
      (s.port p).sent ++ (if (s.port p).order = .quiet then [] else [.order .quiet]) ++ [.order .train] ∧
    StateTold p 2 s (becamePresent p s) := by
  rw [becamePresent_start hg h]
  refine ⟨(enter_state ..).1, (enter_state ..).2, enter_order .., ?_,
    (park_told p s).trans (enter_told p _ _ _) (park_frame p s).event.mask⟩
  rw [enter_sent rfl, park_order, park_sent]
  rfl

/-- A transceiver whose pair fails the start test: the pair stays in PARKED (R40, R42). -/
theorem becamePresent_parked (hg : (s.port p).guard = .clear) (h : s.startTest p = false) :
    ((becamePresent p s).pair p).state = .parked ∧
    ((becamePresent p s).pair p).reason = (if (s.pair p).enabled then .notReleased else .host) ∧
    ((becamePresent p s).port p).order = .quiet ∧
    ((becamePresent p s).port p).sent =
      (s.port p).sent ++ (if (s.port p).order = .quiet then [] else [.order .quiet]) ∧
    StateTold p 1 s (becamePresent p s) := by
  rw [becamePresent_stay hg h]
  exact ⟨(enter_state ..).1, (enter_state ..).2, park_order p s, park_sent p s, park_told p s⟩

/-! ### The first REPORT (R21) -/

/-- A port that keeps a report (R20, R21, R31). -/
def Port.reported (r : Report) (now : Nat) (x : Port) : Port :=
  { x with report := r, silence := some (now + 500), residue := if r.line = .showtime then x.residue else [] }

theorem keepReport_port (p : PairNo) (r : Report) (s : State) :
    (keepReport p r s).port p = ((s.port p).reported r s.now).handAll (s.pair p).state.gateOpen := by
  rw [keepReport, handover_port_self, port_modPort, pair_modPort]
  rfl

/-- The part as the first REPORT leaves it before the Pair Controller takes it: kept, and the order sent (R19, R21). -/
def firstKept (p : PairNo) (r : Report) (s : State) : State :=
  sendOrder p (keepReport p r (s.modPort p fun x => { x with present := true }))

theorem firstReport_eq (p : PairNo) (r : Report) (s : State) :
    firstReport p r s = redecide (becamePresent p (firstKept p r s)) := rfl

theorem firstKept_frame (p : PairNo) (r : Report) (s : State) : PairFrame p s (firstKept p r s) :=
  ((modPort_frame p _ s).trans (keepReport_frame p _ _)).trans (sendOrder_frame p _)

theorem firstKept_delivery (p : PairNo) (r : Report) (s : State) : DeliveryKept s (firstKept p r s) :=
  ((modPort_delivery p _ s).trans (keepReport_delivery p _ _)).trans (modPort_delivery p Port.orderSent _)

theorem firstKept_pair (p : PairNo) (r : Report) (s : State) : (firstKept p r s).pair p = s.pair p := by
  rw [firstKept, sendOrder_pair, keepReport_pair, pair_modPort]

/-- The port of a pair whose gate is closed, with a report kept (R20, R21). -/
theorem firstKept_port (r : Report) (h : (s.pair p).state.gateOpen = false) :
    (firstKept p r s).port p = (({ s.port p with present := true } : Port).reported r s.now).orderSent := by
  rw [firstKept, sendOrder_port, keepReport_port, port_modPort, pair_modPort, h, Port.handAll_false]
  rfl

/-- Settles O27: VACANT has a closed gate, so each entry that the REPORT brings is one of `becamePresent_cases`. -/
theorem firstReportMakesThePairPresent : Obligations.FirstReportMakesThePairPresent := by
  unfold Obligations.FirstReportMakesThePairPresent
  intro s p line up down upDelay downDelay hfit hpresent hvacant
  have hexec : exec (.report p line up down upDelay downDelay) s = .next
      (firstReport p (clampReport line up.toNat down.toNat upDelay.toNat downDelay.toNat) s) := by
    have hf : s.isFitted p = true := decide_eq_true hfit
    simp [exec, execReport, hf, hpresent]
  generalize hr : clampReport line up.toNat down.toNat upDelay.toNat downDelay.toNat = r at hexec
  -- Before the Pair Controller: `u`; after it: `becamePresent p u`; the re-decision finds the pair idle.
  have hu := firstKept_frame p r s
  have hupair := firstKept_pair p r s
  have hport := firstKept_port (p := p) (s := s) r (by rw [hvacant]; rfl)
  have huport := hport.trans (Port.orderSent_eq _)
  have husent := (congrArg Port.sent hport).trans (Port.orderSent_sent _)
  have htold := (firstKept_delivery p r s).notices (.pairState p) rfl
  rw [firstReport_eq] at hexec
  generalize firstKept p r s = u at *
  have hv := becamePresent_frame p u
  have hkept := becamePresent_kept p u
  obtain ⟨htpair, htport⟩ := (redecide_frame (becamePresent p u)).idle p (becamePresent_not_active p u)
  have hguard : (u.port p).guard = (s.port p).guard := by rw [huport]; rfl
  have hstart : u.startTest p = true ↔ (s.pair p).enabled = true ∧ s.mgmt.released = true := by
    rw [startTest_iff, hupair, hu.event.mgmt]
  have htells : ∀ n, StateTold p n u (becamePresent p u) → StateTold p n s (redecide (becamePresent p u)) := fun n h =>
    (h.of_eq_left htold hu.event.mask).of_eq_right ((redecide_delivery _).notices _ rfl)
  have hsends : ∀ l, ((becamePresent p u).port p).sent =
      (u.port p).sent ++ (if (u.port p).order = .quiet then [] else [.order .quiet]) ++ l →
      (s.port p).order = .unordered → ((redecide (becamePresent p u)).port p).sent =
        (s.port p).sent ++ (.order .quiet :: l) := fun l h ho => by
    have hou : (u.port p).order = .unordered := by rw [huport]; exact ho
    rw [htport, h, hou, husent]
    simp [Port.reported, ho, Order.messages]
  refine ⟨_, hexec, ?_, (hu.life.trans hv.life).trans (redecide_life p _), ?_, ?_, ?_, ?_, ?_, fun hg => ?_,
    fun hg he hl => ?_, fun hg hn => ?_⟩
  · exact ((redecide_frame _).now.trans hv.now).trans hu.now
  · rw [htport, hkept.port, huport]
    rfl
  · rw [htport, hkept.port, huport]
    rfl
  · rw [htport, hkept.port, huport, ← hr]
    rfl
  · rw [htpair, hkept.enabled, hupair]
  · rw [htpair, hkept.counter .faults (by decide), hupair]
  · obtain ⟨hstate, hreason, horder, hsent, htold⟩ := becamePresent_faulted (hguard.trans hg)
    rw [htpair, htport]
    exact ⟨hstate, hreason, horder, htport ▸ hsends [] (hsent.trans (List.append_nil _).symm), htells 2 htold⟩
  · obtain ⟨hstate, hreason, horder, hsent, htold⟩ := becamePresent_training (hguard.trans hg) (hstart.2 ⟨he, hl⟩)
    rw [htpair, htport]
    exact ⟨hstate, hreason, horder, htport ▸ hsends _ hsent, htells 2 htold⟩
  · obtain ⟨hstate, hreason, horder, hsent, htold⟩ := becamePresent_parked (hguard.trans hg)
      (Bool.eq_false_iff.2 fun h => hn (hstart.1 h))
    rw [htpair, htport]
    exact ⟨hstate, hupair ▸ hreason, horder, htport ▸ hsends [] (hsent.trans (List.append_nil _).symm), htells 1 htold⟩

end Sys2Proof.Machine

/-! PROOFS. The silence timer (O42) and the guard (O43): a pending host disable that is done, the purge seen from before and
after, and the moves of a pair by absence and by its guard (R21, R31, R36, R43, R64, R101). -/

namespace Sys2Proof.Machine

variable {p : PairNo} {s t u : State}

/-! ### The purge, seen from before and after -/

/-- The outbound half, its NO-PATH count and its notice are as they were. -/
structure OutboundSame (s t : State) : Prop where
  classes : t.classes = s.classes
  disp : t.disp = s.disp
  cells : t.cells = s.cells
  noPath : t.counter .noPath = s.counter .noPath
  bond : t.occurrences .bondState = s.occurrences .bondState
  mask : t.mgmt.mask = s.mgmt.mask

theorem OutboundSame.trans (h : OutboundSame s t) (k : OutboundSame t u) : OutboundSame s u :=
  ⟨k.classes.trans h.classes, k.disp.trans h.disp, k.cells.trans h.cells, k.noPath.trans h.noPath, k.bond.trans h.bond,
    k.mask.trans h.mask⟩

theorem OutboundSame.cls (h : OutboundSame s t) (c : Fin 4) : t.cls c = s.cls c := by
  rw [State.cls, State.cls]
  simp only [h.classes]

theorem Purged.before (h : Purged t u) (k : OutboundSame s t) : Purged s u := by
  refine ⟨fun c => by rw [h.classes c, k.cls c], by rw [h.disp, k.disp], ?_, fun hu => h.cells ?_, fun hm => ?_⟩
  · rw [h.counted, k.noPath, k.disp]
    simp only [k.cls]
  · rw [k.cells, hu, k.disp]
    simp only [State.queued, k.cls]
  · rw [h.bond (by rw [k.mask, hm]), k.bond]

theorem Purged.after (h : Purged s t) (k : OutboundSame t u) : Purged s u :=
  ⟨fun c => (k.cls c).trans (h.classes c), k.disp.trans h.disp, k.noPath.trans h.counted,
    fun hu => by rw [k.cells, h.cells hu], fun hm => k.bond.trans (h.bond hm)⟩

/-- After a purge nothing is held, so a re-decision finds nothing to decide (R101, R118). -/
theorem Purged.redecide (h : Purged s t) : Purged s (redecide t) := by
  rw [redecide_of_not_held (by rw [h.disp])]
  exact h

theorem reach_same (d : Nat) (s : State) : OutboundSame s (s.reach d) := ⟨rfl, rfl, rfl, rfl, rfl, rfl⟩

theorem modPort_same (p : PairNo) (f : Port → Port) (s : State) : OutboundSame s (s.modPort p f) :=
  ⟨rfl, rfl, rfl, rfl, rfl, rfl⟩

theorem modPair_same (p : PairNo) (f : Pair → Pair) (s : State) : OutboundSame s (s.modPair p f) :=
  ⟨rfl, rfl, rfl, rfl, rfl, rfl⟩

theorem emptyQueue_same (p : PairNo) (s : State) : OutboundSame s (emptyQueue p s) := ⟨rfl, rfl, rfl, rfl, rfl, rfl⟩

/-! ### A pending host disable (R67) -/

theorem commandDone_place_ne_bondState (p : PairNo) :
    NoticeInst.bondState.place ≠ (NoticeInst.commandDone p).place := fun h => by
  have := congrArg Fin.val h
  simp only [NoticeInst.place, Fin.isValue, Fin.coe_ofNat_eq_mod] at this
  omega

theorem commandDone_place_ne_pairState (p q : PairNo) :
    (NoticeInst.commandDone p).place ≠ (NoticeInst.pairState q).place := fun h => by
  have := congrArg Fin.val h
  have := q.isLt
  simp only [NoticeInst.place] at *
  omega

theorem hostDone_pair (p : PairNo) (s : State) :
    (hostDone p s).pair p = { s.pair p with hostDisable := false } := by
  unfold hostDone
  split
  · rw [pair_raise, pair_modPair]
  · rename_i h
    rw [← Bool.eq_false_iff.2 h]

theorem hostDone_ports (p : PairNo) (s : State) : (hostDone p s).ports = s.ports := by
  unfold hostDone
  split
  · rw [raise_ports]
    rfl
  · rfl

theorem hostDone_mark (p q : PairNo) (s : State) : (hostDone p s).mark q = s.mark q := by
  unfold hostDone
  split
  · rw [raise_mark]
    rfl
  · rfl

/-- Only COMMAND-DONE is raised. -/
theorem hostDone_notices (p : PairNo) (s : State) {i : NoticeInst} (hi : i.place ≠ (NoticeInst.commandDone p).place) :
    (hostDone p s).occurrences i = s.occurrences i := by
  unfold hostDone
  split
  · rw [occurrences_raise_ne hi]
    rfl
  · rfl

/-- A host disable that pends is done, and COMMAND-DONE raised (R67). -/
theorem hostDone_done (h : (s.pair p).hostDisable = true) (hm : s.mgmt.mask.getLsbD 2 = false) :
    (hostDone p s).occurrences (.commandDone p) = min (s.occurrences (.commandDone p) + 1) 255 := by
  unfold hostDone
  rw [if_pos h, raise_unmasked (by exact hm)]
  rfl

theorem hostDone_same (p : PairNo) (s : State) : OutboundSame s (hostDone p s) := by
  have hb := hostDone_notices p s (commandDone_place_ne_bondState p)
  have hm := (hostDone_frame p s).event.mask
  unfold hostDone at hb hm ⊢
  split
  · rename_i h
    rw [if_pos h] at hb hm
    exact ⟨raise_classes _ _, raise_disp _ _, raise_cells _ _, by rw [State.counter, raise_counters]; rfl, hb, hm⟩
  · exact ⟨rfl, rfl, rfl, rfl, rfl, rfl⟩

/-! ### Silence (R21, R43) -/

/-- The part at the silence timer's expiry before the Pair Controller takes it: the transceiver absent, its queue emptied,
no residue (R21, R31). -/
def silenced (p : PairNo) (d : Nat) (s : State) : State :=
  (emptyQueue p ((s.reach d).modPort p fun x => { x with present := false, silence := none, report := Report.none })).modPort
    p fun x => { x with residue := [] }

theorem exec_silence {d : Nat} (h : (s.port p).silence = some d) :
    exec (.silenceTimerExpiry p) s = .next (redecide (becameAbsent p (silenced p d s))) := by
  simp [exec, execSilenceTimerExpiry, h, silenced]

theorem silenced_life (p : PairNo) (d : Nat) (s : State) : LifeFrame p s (silenced p d s) :=
  (reach_frame p d s).trans
    (((modPort_frame p _ _).trans (emptyQueue_frame p _)).trans (modPort_frame p _ _)).life

theorem silenced_same (p : PairNo) (d : Nat) (s : State) : OutboundSame s (silenced p d s) :=
  (((reach_same d s).trans (modPort_same p _ _)).trans (emptyQueue_same p _)).trans (modPort_same p _ _)

theorem silenced_delivery (p : PairNo) (d : Nat) (s : State) : DeliveryKept s (silenced p d s) := .of_eq rfl rfl rfl rfl

theorem silenced_pair (p : PairNo) (d : Nat) (s : State) :
    (silenced p d s).pair p = (s.pair p).countBy .lostOnDrop ((s.port p).queue.countP (·.frag.isData)) := by
  rw [silenced, pair_modPort, emptyQueue_pair, port_modPort, pair_modPort]
  rfl

theorem silenced_pair_ne (p : PairNo) (d : Nat) (s : State) {q : PairNo} (h : q ≠ p) :
    (silenced p d s).pair q = s.pair q := by
  rw [silenced, pair_modPort, (emptyQueue_frame p _).pairs q h]
  rfl

theorem silenced_port (p : PairNo) (d : Nat) (s : State) : (silenced p d s).port p = { s.port p with
    present := false, silence := none, report := Report.none, queue := [], takenFromHead := 0, residue := [] } := by
  rw [silenced, port_modPort, emptyQueue_port, port_modPort]
  rfl

theorem becameAbsent_pair (p : PairNo) (s : State) : (becameAbsent p s).pair p =
    { (s.pair p).entered .vacant .silent with
      hostDisable := false, counters := ((enter p .vacant .silent s).pair p).counters } := by
  rw [becameAbsent, hostDone_pair, enter_record]

theorem becameAbsent_port (p : PairNo) (s : State) :
    (becameAbsent p s).port p = (s.port p).entered (s.pair p).state .vacant := by
  rw [becameAbsent, port_congr (hostDone_ports p _), enter_port]

theorem countUp_countUp_zero (a n : Nat) : countUp (countUp a n) 0 = countUp a n := by
  unfold countUp
  omega

theorem entryEmpties_vacant (old : PairState) : entryEmpties old .vacant = true := rfl

/-- An entry finds nothing to keep as residue in an empty queue (R31). -/
theorem Port.entered_residue {new : PairState} {x : Port} (h : new.gateOpen = false) (hq : x.queue = [])
    (hr : x.residue = []) (old : PairState) : (x.entered old new).residue = [] := by
  have hres : (x.ordered new.order).residue = [] := (x.ordered_residue new.order).elim (fun h => h.trans hr) id
  have hun : (x.ordered new.order).uncovered = [] := by
    rw [Port.uncovered, Port.ordered_eq, hq]
    rfl
  rw [Port.entered_closed h, Port.emptied, hres, hun]
  split <;> rfl

/-- The emptying of an empty queue counts nothing (R31). -/
theorem becameAbsent_lost (h : (s.port p).queue = []) {r : Pair} {n : Nat} (hr : s.pair p = r.countBy .lostOnDrop n) :
    ((becameAbsent p s).pair p).counter .lostOnDrop = countUp (r.counter .lostOnDrop) n := by
  have he : ((enter p .vacant .silent s).pair p).counter .lostOnDrop = countUp (r.counter .lostOnDrop) n := by
    rw [enter_pair, if_pos (entryEmpties_vacant _), h, pair_counter_countBy, hr]
    exact (congrArg (countUp · 0) (pair_counter_countBy ..)).trans (countUp_countUp_zero ..)
  rw [becameAbsent, hostDone_pair]
  exact he

/-- Settles O42: the expiry empties the queue, and absence enters VACANT. -/
theorem silenceMakesThePairVacant : Obligations.SilenceMakesThePairVacant := by
  unfold Obligations.SilenceMakesThePairVacant
  intro s p d hd
  have hpair := silenced_pair p d s
  have hother := fun q (hq : q ≠ p) => silenced_pair_ne p d s hq
  have hport := silenced_port p d s
  have hsame := silenced_same p d s
  have hlife := silenced_life p d s
  have hkept := silenced_delivery p d s
  have hnow : (silenced p d s).now = max s.now d := rfl
  have hexec := exec_silence hd
  generalize silenced p d s = u at *
  -- The Pair Controller's move from `u`, and the re-decision, which finds the pair VACANT.
  have hv := becameAbsent_frame p u
  have hvpair := becameAbsent_pair p u
  have hvport := (becameAbsent_port p u).trans ((Port.entered_closed_eq rfl _ _))
  have hres := Port.entered_residue (new := .vacant) (x := u.port p) rfl (by rw [hport]) (by rw [hport]) (u.pair p).state
  have hidle : (becameAbsent p u).isActive p = false := by
    rw [State.isActive, hvpair]
    rfl
  obtain ⟨htpair, htport⟩ := (redecide_frame (becameAbsent p u)).idle p hidle
  have hvtold : StateTold p 1 u (becameAbsent p u) :=
    (enter_told p .vacant .silent u).of_eq_right (hostDone_notices p _ (commandDone_place_ne_pairState p p).symm)
  have hlost := becameAbsent_lost (by rw [hport]) hpair
  refine ⟨_, hexec, ?_, (hlife.trans hv.life).trans (redecide_life p _), ?_, ?_, ?_, ?_, ?_, ?_, ?_, ?_, ?_, ?_, ?_, ?_,
    ?_, ?_, ?_, ?_, ?_, ?_⟩
  · exact ((redecide_frame _).now.trans hv.now).trans hnow
  · rw [htport, hvport, hport]
  · rw [htport, hvport, hport]
  · rw [htport, hvport]
  · rw [htport, hvport]
  · rw [htport, hvport, hres]
  · rw [htport, hvport]
    rfl
  · rw [LostOnDrop, htpair, hlost]
  · exact (hvtold.of_eq_left (hkept.notices _ rfl) hsame.mask).of_eq_right ((redecide_delivery _).notices _ rfl)
  · rw [htport, hvport, hport]
    rfl
  · intro hactive hlast
    have hp := enter_purged (s := u) (p := p) (new := .vacant) .silent (by rw [hpair]; exact hactive)
      (fun q hq => hother q hq ▸ hlast q hq) (by decide)
    exact ((hp.after (hostDone_same p _)).before hsame).redecide
  · rw [(redecide_delivery _).mark, becameAbsent, hostDone_mark, enter_mark rfl]
  · rw [htpair, hvpair]
    rfl
  · rw [htpair, hvpair]
    rfl
  · rw [htpair, hvpair]
    rfl
  · rw [htpair, hvpair]
  · rw [htpair, hvpair, hpair]
    rfl
  · rw [htpair, hvpair, hpair]
    rfl
  · intro hdis hmask
    rw [(redecide_delivery _).notices _ rfl, becameAbsent, hostDone_done, enter_notices p _ _ u rfl
      (commandDone_place_ne_bondState p).symm (commandDone_place_ne_pairState p p), hkept.notices _ rfl]
    · rw [enter_record, Pair.entered, hpair]
      exact hdis
    · rw [(enter_frame p _ _ u).event.mask, hsame.mask]
      exact hmask

end Sys2Proof.Machine

/-! PROOFS. The guard pin and the guard state (O43): the debounce table, the fault of a pair, and its going on (R36, R41, R64). -/

namespace Sys2Proof.Machine

variable {p : PairNo} {s t u : State}

/-! ### The debounce table (R36) -/

/-- A sampled pin: the level, and what the table makes of the timer. -/
theorem exec_lineGuardChange (hp : p.val < s.mgmt.fitted) {level : Bool} {timer : Option Nat}
    (h : (s.port p).debounced s.now level = timer) : exec (.lineGuardChange p level) s =
      .next (s.modPort p fun x => { x with guardPin := level, debounce := timer }) := by
  have hf : s.isFitted p = true := decide_eq_true hp
  subst h
  simp [exec, execLineGuardChange, hf, State.modPort]

theorem debounced_clear_true {x : Port} (h : x.guard = .clear) (now : Nat) :
    x.debounced now true = x.debounce.orElse fun _ => some (now + 20) := by
  simp only [Port.debounced, h, Config.guardAssertMs]

theorem debounced_clear_false {x : Port} (h : x.guard = .clear) (now : Nat) : x.debounced now false = none := by
  simp only [Port.debounced, h]

theorem debounced_active_true {x : Port} (h : x.guard = .active) (now : Nat) : x.debounced now true = none := by
  simp only [Port.debounced, h]

theorem debounced_active_false {x : Port} (h : x.guard = .active) (now : Nat) :
    x.debounced now false = x.debounce.orElse fun _ => some (now + 5000) := by
  simp only [Port.debounced, h, Config.guardClearMs]

theorem orElse_of_ne_none {α : Type} {o : Option α} (h : o ≠ none) (f : Unit → Option α) : o.orElse f = o := by
  cases o with
  | none => exact absurd rfl h
  | some a => rfl

/-! ### The guard's expiries -/

/-- The part with the guard state changed by an expiry at the time of its deadline (R36). -/
def guarded (p : PairNo) (g : GuardState) (d : Nat) (s : State) : State := setGuard p g (s.reach d)

theorem setGuard_frame (p : PairNo) (g : GuardState) (s : State) : PairFrame p s (setGuard p g s) := modPort_frame p _ s

theorem setGuard_same (p : PairNo) (g : GuardState) (s : State) : OutboundSame s (setGuard p g s) := modPort_same p _ s

theorem guarded_life (p : PairNo) (g : GuardState) (d : Nat) (s : State) : LifeFrame p s (guarded p g d s) :=
  (reach_frame p d s).trans (setGuard_frame p g _).life

theorem guarded_same (p : PairNo) (g : GuardState) (d : Nat) (s : State) : OutboundSame s (guarded p g d s) :=
  (reach_same d s).trans (setGuard_same p g _)

theorem guarded_pair (p q : PairNo) (g : GuardState) (d : Nat) (s : State) : (guarded p g d s).pair q = s.pair q := rfl

theorem guarded_port (p : PairNo) (g : GuardState) (d : Nat) (s : State) :
    (guarded p g d s).port p = { s.port p with guard := g, debounce := none } := port_modPort ..

theorem exec_guardAssert {d : Nat} (hd : (s.port p).debounce = some d) (hg : (s.port p).guard = .clear) :
    exec (.guardAssertTimerExpiry p) s = .next (redecide (guardActive p (guarded p .active d s))) := by
  simp [exec, execGuardAssertTimerExpiry, hd, hg, guarded]

theorem exec_guardClear {d : Nat} (hd : (s.port p).debounce = some d) (hg : (s.port p).guard = .active) :
    exec (.guardClearTimerExpiry p) s = .next (redecide (guardClear p (guarded p .clear d s))) := by
  simp [exec, execGuardClearTimerExpiry, hd, hg, guarded]

/-! ### The fault (R64) -/

theorem guardActive_vacant (h : (s.pair p).state = .vacant) : guardActive p s = s := by rw [guardActive, if_pos h]

theorem guardActive_eq (h : (s.pair p).state ≠ .vacant) :
    guardActive p s = hostDone p ((enter p .faulted .fault s).countPair p .faults) := by rw [guardActive, if_neg h]

theorem guardActive_pair (h : (s.pair p).state ≠ .vacant) : (guardActive p s).pair p =
    { (((enter p .faulted .fault s).pair p).countBy .faults 1) with hostDisable := false } := by
  rw [guardActive_eq h, hostDone_pair, State.countPair, State.countPairBy, pair_modPair]

theorem guardActive_port (h : (s.pair p).state ≠ .vacant) :
    (guardActive p s).port p = (s.port p).entered (s.pair p).state .faulted := by
  rw [guardActive_eq h, port_congr (hostDone_ports p _), State.countPair, State.countPairBy, port_modPair, enter_port]

/-- What the fault of a pair makes of it: FAULTED, under QUIET, its queue empty, out of the live set, one fault more
(R39, R64). -/
theorem guardActive_faulted (h : (s.pair p).state ≠ .vacant) :
    ((guardActive p s).pair p).state = .faulted ∧ ((guardActive p s).pair p).reason = .fault ∧
    ((guardActive p s).pair p).stateTimer = none ∧ ((guardActive p s).pair p).hostDisable = false ∧
    ((guardActive p s).port p).order = .quiet ∧ ((guardActive p s).port p).queue = [] ∧
    (guardActive p s).mark p = none ∧
    ((guardActive p s).pair p).counter .faults = countUp ((s.pair p).counter .faults) 1 := by
  rw [guardActive_pair h, guardActive_port h, Port.entered_closed_eq rfl]
  refine ⟨(enter_state p _ _ s).1, (enter_state p _ _ s).2, ?_, rfl, rfl, rfl, ?_, ?_⟩
  · rw [enter_record]
    rfl
  · rw [guardActive_eq h, hostDone_mark]
    exact enter_mark rfl p _ s
  · exact (pair_counter_countBy ..).trans (by rw [enter_counter p _ _ s (by decide)])

theorem guardActive_not_active (p : PairNo) (s : State) : (guardActive p s).isActive p = false := by
  by_cases h : (s.pair p).state = .vacant
  · rw [guardActive_vacant h, State.isActive, h]
    rfl
  · rw [State.isActive, (guardActive_faulted h).1]
    rfl

theorem guardActive_guard (p : PairNo) (s : State) : ((guardActive p s).port p).guard = (s.port p).guard ∧
    ((guardActive p s).port p).debounce = (s.port p).debounce := by
  by_cases h : (s.pair p).state = .vacant
  · rw [guardActive_vacant h]
    exact ⟨rfl, rfl⟩
  · rw [guardActive_port h, Port.entered_closed_eq rfl]
    exact ⟨rfl, rfl⟩

/-- The fault of the last ACTIVE pair purges (R64, R101). -/
theorem guardActive_purged (h : (s.pair p).state = .active) (hlast : ∀ q, q ≠ p → (s.pair q).state ≠ .active) :
    Purged s (guardActive p s) := by
  rw [guardActive_eq (by rw [h]; decide)]
  exact ((enter_purged .fault h hlast (by decide)).after (modPair_same p _ _)).after (hostDone_same p _)

/-! ### Going on (R41) -/

/-- A FAULTED pair goes on to a state with a closed gate; another pair stays. -/
theorem guardClear_cases (p : PairNo) (s : State) :
    guardClear p s = s ∨ ∃ new why, new.gateOpen = false ∧ guardClear p s = enter p new why s := by
  unfold guardClear
  split
  · unfold restart
    split
    · exact .inr ⟨.training, _, rfl, rfl⟩
    · exact .inr ⟨.parked, _, rfl, rfl⟩
  · exact .inl rfl

theorem guardClear_kept (p : PairNo) (s : State) : EntryKept p s (guardClear p s) := by
  rcases guardClear_cases p s with h | ⟨new, why, hnew, h⟩
  · exact h.symm ▸ .refl p s
  · exact h ▸ enter_kept hnew p why s

theorem guardClear_stays (h : (s.pair p).state ≠ .faulted) : guardClear p s = s := by rw [guardClear, if_neg h]

theorem guardClear_training (h : (s.pair p).state = .faulted) (hs : s.startTest p = true) :
    guardClear p s = enter p .training (s.pair p).reason s := by rw [guardClear, if_pos h, restart, if_pos hs]

theorem guardClear_parked (h : (s.pair p).state = .faulted) (hs : s.startTest p = false) : guardClear p s = park p s := by
  rw [guardClear, if_pos h, restart, if_neg (by rw [hs]; decide)]

/-- A re-decision leaves state, reason, order, guard and debounce timer of every pair (R104). -/
theorem redecide_control (p : PairNo) (s : State) :
    ((redecide s).pair p).state = (s.pair p).state ∧ ((redecide s).pair p).reason = (s.pair p).reason ∧
    ((redecide s).port p).order = (s.port p).order ∧ ((redecide s).port p).guard = (s.port p).guard ∧
    ((redecide s).port p).debounce = (s.port p).debounce := by
  rw [(redecide_frame s).pairs p, (redecide_frame s).ports p]
  exact ⟨rfl, rfl, rfl, rfl, rfl⟩

/-! ### The obligation -/

theorem guard_debounced (s : State) (p : PairNo) (hp : p.val < s.mgmt.fitted) :
    let sets (asserted : Bool) (timer : Option Nat) : Prop :=
      exec (.lineGuardChange p asserted) s =
        .next (s.modPort p fun x => { x with guardPin := asserted, debounce := timer })
    ((s.port p).guard = .clear → (s.port p).debounce = none → sets true (some (s.now + 20))) ∧
    ((s.port p).guard = .clear → (s.port p).debounce ≠ none → sets true (s.port p).debounce) ∧
    ((s.port p).guard = .clear → sets false none) ∧
    ((s.port p).guard = .active → sets true none) ∧
    ((s.port p).guard = .active → (s.port p).debounce = none → sets false (some (s.now + 5000))) ∧
    ((s.port p).guard = .active → (s.port p).debounce ≠ none → sets false (s.port p).debounce) := by
  refine ⟨fun h hd => exec_lineGuardChange hp ?_, fun h hd => exec_lineGuardChange hp ?_,
    fun h => exec_lineGuardChange hp (debounced_clear_false h _), fun h => exec_lineGuardChange hp (debounced_active_true h _),
    fun h hd => exec_lineGuardChange hp ?_, fun h hd => exec_lineGuardChange hp ?_⟩
  · rw [debounced_clear_true h, hd]
    rfl
  · rw [debounced_clear_true h, orElse_of_ne_none hd]
  · rw [debounced_active_false h, hd]
    rfl
  · rw [debounced_active_false h, orElse_of_ne_none hd]

theorem guard_asserted {d : Nat} (hd : (s.port p).debounce = some d) (hg : (s.port p).guard = .clear) :
    ∃ t, exec (.guardAssertTimerExpiry p) s = .next t ∧ t.now = max s.now d ∧
      LifeFrame p s t ∧ (t.port p).guard = .active ∧ (t.port p).debounce = none ∧
      ((s.pair p).state = .vacant → t.pair p = s.pair p) ∧
      ((s.pair p).state = .active → (∀ q, q ≠ p → (s.pair q).state ≠ .active) → Purged s t) ∧
      ((s.pair p).state ≠ .vacant → (t.pair p).state = .faulted ∧ (t.pair p).reason = .fault ∧
        (t.pair p).stateTimer = none ∧ (t.pair p).hostDisable = false ∧ (t.port p).order = .quiet ∧
        (t.port p).queue = [] ∧ t.mark p = none ∧
        (t.pair p).counter .faults = countUp ((s.pair p).counter .faults) 1) := by
  have hexec := exec_guardAssert hd hg
  have hport := guarded_port p .active d s
  have hpair := fun q => guarded_pair p q .active d s
  have hsame := guarded_same p .active d s
  have hlife := guarded_life p .active d s
  have hnow : (guarded p .active d s).now = max s.now d := rfl
  generalize guarded p .active d s = u at *
  have hv := guardActive_frame p u
  obtain ⟨htpair, htport⟩ := (redecide_frame (guardActive p u)).idle p (guardActive_not_active p u)
  obtain ⟨hguard, hdeb⟩ := guardActive_guard p u
  refine ⟨_, hexec, ?_, (hlife.trans hv.life).trans (redecide_life p _), ?_, ?_, fun h => ?_, fun h hlast => ?_, fun h => ?_⟩
  · exact ((redecide_frame _).now.trans hv.now).trans hnow
  · rw [htport, hguard, hport]
  · rw [htport, hdeb, hport]
  · rw [htpair, guardActive_vacant (by rw [hpair, h]), hpair]
  · exact ((guardActive_purged (by rw [hpair, h]) fun q hq => by rw [hpair]; exact hlast q hq).before hsame).redecide
  · rw [htpair, htport, (redecide_delivery _).mark, ← hpair p]
    exact guardActive_faulted (by rw [hpair]; exact h)

theorem guard_cleared {d : Nat} (hd : (s.port p).debounce = some d) (hg : (s.port p).guard = .active) :
    ∃ t, exec (.guardClearTimerExpiry p) s = .next t ∧ t.now = max s.now d ∧
      LifeFrame p s t ∧ (t.port p).guard = .clear ∧ (t.port p).debounce = none ∧
      ((s.pair p).state ≠ .faulted → (t.pair p).state = (s.pair p).state ∧ (t.pair p).reason = (s.pair p).reason) ∧
      ((s.pair p).state = .faulted → (s.pair p).enabled = true → s.mgmt.released = true →
        (t.pair p).state = .training ∧ (t.pair p).reason = (s.pair p).reason ∧ (t.port p).order = .train) ∧
      ((s.pair p).state = .faulted → ¬((s.pair p).enabled = true ∧ s.mgmt.released = true) →
        (t.pair p).state = .parked ∧ (t.pair p).reason = (if (s.pair p).enabled then .notReleased else .host) ∧
        (t.port p).order = .quiet) := by
  have hexec := exec_guardClear hd hg
  have hport := guarded_port p .clear d s
  have hpair := guarded_pair p p .clear d s
  have hlife := guarded_life p .clear d s
  have hstart : (guarded p .clear d s).startTest p = true ↔ (s.pair p).enabled = true ∧ s.mgmt.released = true :=
    startTest_iff
  have hnow : (guarded p .clear d s).now = max s.now d := rfl
  generalize guarded p .clear d s = u at *
  have hv := guardClear_frame p u
  have hkept := (guardClear_kept p u).port
  obtain ⟨hstate, hreason, horder, hguard, hdeb⟩ := redecide_control p (guardClear p u)
  refine ⟨_, hexec, ?_, (hlife.trans hv.life).trans (redecide_life p _), ?_, ?_, fun h => ?_, fun h he hl => ?_, fun h hn => ?_⟩
  · exact ((redecide_frame _).now.trans hv.now).trans hnow
  · rw [hguard, hkept, hport]
  · rw [hdeb, hkept, hport]
  · rw [hstate, hreason, guardClear_stays (by rw [hpair]; exact h), hpair]
    exact ⟨rfl, rfl⟩
  · rw [hstate, hreason, horder, guardClear_training (hpair ▸ h) (hstart.2 ⟨he, hl⟩), enter_order, hpair]
    exact ⟨(enter_state ..).1, (enter_state ..).2, rfl⟩
  · rw [hstate, hreason, horder, guardClear_parked (hpair ▸ h) (Bool.eq_false_iff.2 fun h => hn (hstart.1 h)), park_order,
      park, (enter_state ..).1, (enter_state ..).2, hpair]
    exact ⟨rfl, rfl, rfl⟩

/-- Settles O43: the debounce table case by case, then the two expiries by `guardActive_faulted` and `guardClear_cases`. -/
theorem guardIsDebouncedAndMovesThePair : Obligations.GuardIsDebouncedAndMovesThePair := by
  unfold Obligations.GuardIsDebouncedAndMovesThePair
  exact ⟨guard_debounced, fun s p d hd => ⟨guard_asserted hd, guard_cleared hd⟩⟩

end Sys2Proof.Machine

/-! PROOFS. What a move of a pair leaves of its port: the report, the silence timer and the guard; and T_reorder over the live
pairs (R20, R21, R36, R155). -/

namespace Sys2Proof.Machine

variable {p : PairNo} {s t u : State}

/-! ### The port's own part -/

/-- Of pair `p`'s port only the order, the line queue, the residue and what it sent have changed. -/
def PortKept (p : PairNo) (s t : State) : Prop :=
  t.port p = { s.port p with
    order := (t.port p).order, queue := (t.port p).queue, takenFromHead := (t.port p).takenFromHead,
    residue := (t.port p).residue, sent := (t.port p).sent }

theorem PortKept.of_eq (h : t.port p = s.port p) : PortKept p s t := by rw [PortKept, h]

theorem PortKept.trans (h : PortKept p s t) (k : PortKept p t u) : PortKept p s u := by
  rw [PortKept] at *
  rw [k, h]

theorem Port.handAll_frame (gate : Bool) (x : Port) :
    x.handAll gate = { x with queue := (x.handAll gate).queue, sent := (x.handAll gate).sent } := by
  cases gate with
  | false => rfl
  | true => rw [Port.handAll, if_pos rfl, handOne_frame x.handOne, handOne_frame x]

theorem Port.entered_frame (old new : PairState) (x : Port) : x.entered old new = { x with
    order := (x.entered old new).order, queue := (x.entered old new).queue,
    takenFromHead := (x.entered old new).takenFromHead, residue := (x.entered old new).residue,
    sent := (x.entered old new).sent } := by
  rw [Port.entered, Port.handAll_frame]
  split <;> rw [Port.ordered_eq]
  rfl

theorem enter_portKept (p : PairNo) (new : PairState) (why : Reason) (s : State) : PortKept p s (enter p new why s) := by
  rw [PortKept, enter_port, Port.entered_frame]

theorem entering_portKept (p : PairNo) (new : PairState) (why : Reason) (s : State) :
    PortKept p s (entering id p new why s) := by
  rw [PortKept, entering_port (during := id) PurgeFrame.refl, Port.entered_frame]

theorem emptyQueue_portKept (p : PairNo) (s : State) : PortKept p s (emptyQueue p s) := by
  rw [PortKept, emptyQueue_port, Port.emptied]

theorem modPair_portKept (p : PairNo) (f : Pair → Pair) (s : State) : PortKept p s (s.modPair p f) := .of_eq rfl

theorem rxRemove_portKept (p : PairNo) (s : State) : PortKept p s (rxRemove p s) :=
  .of_eq (port_congr (rxRemove_frame p s).ports p)

theorem hostDone_portKept (p : PairNo) (s : State) : PortKept p s (hostDone p s) :=
  .of_eq (port_congr (hostDone_ports p s) p)

theorem stage_portKept (p : PairNo) (f : Fragment) (s : State) : PortKept p s (stage p f s) := by
  rw [PortKept, stage_port_self, Port.handAll_frame]
  rfl

theorem place_portKept {f : Fragment} (h : place p f s = some t) : PortKept p s t := by
  unfold place at h
  split at h
  · obtain rfl := Option.some.inj h
    exact stage_portKept p f s
  · cases h

theorem placeJoin_portKept (p : PairNo) (s : State) : PortKept p s (placeJoin p s) := by
  unfold placeJoin
  split
  · exact (place_portKept ‹_›).trans (modPair_portKept p _ _)
  · exact modPair_portKept p _ s

theorem placeLeave_portKept (p : PairNo) (why : LeaveReason) (s : State) : PortKept p s (placeLeave p why s) := by
  unfold placeLeave
  split
  · exact (place_portKept ‹_›).trans (modPair_portKept p _ _)
  · exact modPair_portKept p _ s

theorem quarantine_portKept (p : PairNo) (why : Reason) (s : State) : PortKept p s (quarantine p why s) :=
  (((enter_portKept p _ _ s).trans (modPair_portKept p _ _)).trans (modPair_portKept p _ _)).trans
    (modPair_portKept p _ _)

theorem afterRetrain_portKept (p : PairNo) (s : State) : PortKept p s (afterRetrain p s) := by
  unfold afterRetrain
  split
  · exact quarantine_portKept p _ s
  · exact enter_portKept p _ _ s

theorem countRetrain_portKept (p : PairNo) (s : State) : PortKept p s (countRetrain p s) :=
  (modPair_portKept p _ s).trans (modPair_portKept p _ _)

theorem lineDrop_portKept (p : PairNo) (s : State) : PortKept p s (lineDrop p s) := by
  have h : PortKept p s (countRetrain p (rxRemove p (emptyQueue p s))) :=
    ((emptyQueue_portKept p s).trans (rxRemove_portKept p _)).trans (countRetrain_portKept p _)
  unfold lineDrop
  dsimp only
  split
  · exact (h.trans (enter_portKept p _ _ _)).trans (hostDone_portKept p _)
  · exact h.trans (afterRetrain_portKept p _)

theorem enterJoining_portKept (p : PairNo) (why : Reason) (s : State) : PortKept p s (enterJoining p why s) :=
  (((enter_portKept p _ _ s).trans (modPair_portKept p _ _)).trans (placeJoin_portKept p _)).trans
    (modPair_portKept p _ _)

theorem gracefulLeave_portKept (p : PairNo) (why : Reason) (s : State) : PortKept p s (gracefulLeave p why s) := by
  have h : PortKept p s (enterLeaving id p why .graceful s) :=
    ((entering_portKept p _ _ s).trans (modPair_portKept p _ _)).trans (modPair_portKept p _ _)
  unfold gracefulLeave
  dsimp only
  split
  · exact (h.trans (modPair_portKept p _ _)).trans (placeLeave_portKept p _ _)
  · exact h.trans (placeLeave_portKept p _ _)

theorem activeRateTest_portKept (p : PairNo) (s : State) : PortKept p s (activeRateTest p s) := by
  unfold activeRateTest
  split
  · exact .of_eq rfl
  · exact gracefulLeave_portKept p _ s

theorem rateTest_portKept (p : PairNo) (s : State) : PortKept p s (rateTest p s) := by
  unfold rateTest
  split
  · split
    · unfold settlingRateTest
      split
      · exact enterJoining_portKept p _ s
      · exact modPair_portKept p _ s
    · exact .of_eq rfl
  · exact activeRateTest_portKept p s
  · exact .of_eq rfl

/-- A REPORT at the Pair Controller leaves the port's report, timers and guard. -/
theorem pairReport_portKept (p : PairNo) (line : LineState) (s : State) : PortKept p s (pairReport p line s) := by
  unfold pairReport
  split
  · split
    · exact (enter_portKept p _ _ s).trans (modPair_portKept p _ _)
    · exact .of_eq rfl
  · split
    · exact rateTest_portKept p s
    · exact (countRetrain_portKept p s).trans (afterRetrain_portKept p _)
  · split
    · exact .of_eq rfl
    · exact lineDrop_portKept p s
  · split
    · exact .of_eq rfl
    · exact lineDrop_portKept p s
  · split
    · exact activeRateTest_portKept p s
    · exact lineDrop_portKept p s
  all_goals exact .of_eq rfl

/-- A re-decision leaves all of a port but its line queue and what it sent. -/
theorem DispatchFrame.portKept (h : DispatchFrame s t) (p : PairNo) : PortKept p s t := by
  rw [PortKept, h.ports p]

/-! ### T_reorder (R155) -/

/-- A greatest value over a list is attained. -/
theorem foldl_max_attained {α : Type} (f : α → Nat) (a : α) (l : List α) :
    ∃ b ∈ a :: l, (l.map f).foldl max (f a) = f b ∧ ∀ c ∈ a :: l, f c ≤ f b := by
  induction l generalizing a with
  | nil => exact ⟨a, by simp, rfl, by simp⟩
  | cons x l ih =>
    obtain ⟨y, hy, hmax⟩ : ∃ y, (y = a ∨ y = x) ∧ max (f a) (f x) = f y := by
      rcases Nat.le_total (f a) (f x) with h | h
      · exact ⟨x, .inr rfl, Nat.max_eq_right h⟩
      · exact ⟨a, .inl rfl, Nat.max_eq_left h⟩
    obtain ⟨b, hb, hfold, hle⟩ := ih y
    refine ⟨b, ?_, ?_, ?_⟩
    · rcases List.mem_cons.1 hb with rfl | hb
      · rcases hy with rfl | rfl <;> simp
      · simp [hb]
    · rw [List.map_cons, List.foldl_cons, hmax, hfold]
    · have hyb := hle y (by simp)
      simp only [List.forall_mem_cons] at hle ⊢
      exact ⟨by omega, by omega, hle.2⟩

/-- A least value over a list is attained. -/
theorem foldl_min_attained {α : Type} (f : α → Nat) (a : α) (l : List α) :
    ∃ b ∈ a :: l, (l.map f).foldl min (f a) = f b ∧ ∀ c ∈ a :: l, f b ≤ f c := by
  induction l generalizing a with
  | nil => exact ⟨a, by simp, rfl, by simp⟩
  | cons x l ih =>
    obtain ⟨y, hy, hmin⟩ : ∃ y, (y = a ∨ y = x) ∧ min (f a) (f x) = f y := by
      rcases Nat.le_total (f a) (f x) with h | h
      · exact ⟨a, .inl rfl, Nat.min_eq_left h⟩
      · exact ⟨x, .inr rfl, Nat.min_eq_right h⟩
    obtain ⟨b, hb, hfold, hle⟩ := ih y
    refine ⟨b, ?_, ?_, ?_⟩
    · rcases List.mem_cons.1 hb with rfl | hb
      · rcases hy with rfl | rfl <;> simp
      · simp [hb]
    · rw [List.map_cons, List.foldl_cons, hmin, hfold]
    · have hyb := hle y (by simp)
      simp only [List.forall_mem_cons] at hle ⊢
      exact ⟨by omega, by omega, hle.2⟩

theorem recomputeT_ports (s : State) : (recomputeT s).ports = s.ports ∧ (recomputeT s).cfg = s.cfg := by
  unfold recomputeT
  split <;> exact ⟨rfl, rfl⟩

theorem mem_livePairs (q : PairNo) : q ∈ allPairs.filter s.isLive ↔ (s.mark q).isSome = true := by
  rw [List.mem_filter]
  exact ⟨fun h => h.2, fun h => ⟨mem_allPairs q, h⟩⟩

theorem clamp_eq {lo hi : Nat} (h : lo ≤ hi) (v : Nat) : clamp lo hi v = min hi (max lo v) := by
  unfold clamp
  split
  · omega
  · split <;> omega

/-- The value of R155 over pairs `a :: l`. -/
theorem tReorderOf_eq (margin : Nat) (g : PairNo → Report) (a : PairNo) (l : List PairNo) :
    tReorderOf margin (g a) (l.map g) = min 255 (max 2 (margin
      + ((l.map fun q => (g q).downDelay).foldl max (g a).downDelay
        - (l.map fun q => (g q).downDelay).foldl min (g a).downDelay)
      + ceilDiv 4160 ((l.map fun q => max 64 (g q).downRate).foldl min (max 64 (g a).downRate)))) := by
  rw [tReorderOf, clamp_eq (by decide), List.map_map, List.map_map]
  rfl

/-- With a pair live, T_reorder computed afresh is the value of R155. -/
theorem recomputeT_reorderTime (h : (s.mark p).isSome = true) : ReorderTime (recomputeT s) := by
  obtain ⟨hports, hcfg⟩ := recomputeT_ports s
  have hmem := fun q => mem_livePairs (s := s) q
  have hne : allPairs.filter s.isLive ≠ [] := List.ne_nil_of_mem ((hmem p).2 h)
  obtain ⟨a, l, hl⟩ := List.exists_cons_of_ne_nil hne
  obtain ⟨far, hfar, hfareq, hfarle⟩ := foldl_max_attained (fun q => (s.port q).report.downDelay) a l
  obtain ⟨near, hnear, hneareq, hnearle⟩ := foldl_min_attained (fun q => (s.port q).report.downDelay) a l
  obtain ⟨slow, hslow, hsloweq, hslowle⟩ := foldl_min_attained (fun q => max 64 (s.port q).report.downRate) a l
  have ht : (recomputeT s).rx.tReorder = tReorderOf s.cfg.margin (s.port a).report (l.map fun q => (s.port q).report) := by
    rw [recomputeT, State.liveReports, hl]
    rfl
  have hlive : ∀ q ∈ a :: l, ((recomputeT s).mark q).isSome = true := fun q hq => by
    rw [recomputeT_mark]
    exact (hmem q).1 (hl ▸ hq)
  unfold ReorderTime
  refine ⟨far, near, slow, hlive far hfar, hlive near hnear, hlive slow hslow, fun q hq => ?_, ?_⟩
  · have hq : ((recomputeT s).mark q).isSome = true := hq
    rw [recomputeT_mark] at hq
    have hq : q ∈ a :: l := hl ▸ (hmem q).2 hq
    simp only [port_congr hports]
    exact ⟨hfarle q hq, hnearle q hq, hslowle q hq⟩
  · simp only [port_congr hports, hcfg]
    rw [ht, tReorderOf_eq s.cfg.margin fun q => (s.port q).report, hfareq, hneareq, hsloweq]

end Sys2Proof.Machine

/-! PROOFS. A later REPORT (O28): kept and the order sent again, then the Pair Controller's move by state (R19, R20, R44 to R46,
R55, R56, R61, R155). -/

namespace Sys2Proof.Machine

variable {p : PairNo} {s t u : State}

/-! ### The report kept, the order sent again (R19, R20) -/

/-- A port that sends its order again where a report disagrees with it. -/
def Port.corrected (line : LineState) (x : Port) : Port := if disagrees x.order line then x.orderSent else x

/-- The part as a later REPORT leaves it before the Pair Controller takes it. -/
def laterKept (p : PairNo) (r : Report) (s : State) : State :=
  let s1 := keepReport p r s
  if disagrees (s1.port p).order r.line then sendOrder p s1 else s1

theorem laterKept_frame (p : PairNo) (r : Report) (s : State) : PairFrame p s (laterKept p r s) := by
  unfold laterKept
  dsimp only
  split
  · exact (keepReport_frame p r s).trans (sendOrder_frame p _)
  · exact keepReport_frame p r s

theorem laterKept_delivery (p : PairNo) (r : Report) (s : State) : DeliveryKept s (laterKept p r s) := by
  unfold laterKept
  dsimp only
  split
  · exact (keepReport_delivery p r s).trans (modPort_delivery p Port.orderSent _)
  · exact keepReport_delivery p r s

theorem laterKept_pair (p q : PairNo) (r : Report) (s : State) : (laterKept p r s).pair q = s.pair q := by
  unfold laterKept
  dsimp only
  split
  · rw [sendOrder_pair, keepReport_pair]
  · rw [keepReport_pair]

theorem laterKept_port (p : PairNo) (r : Report) (s : State) : (laterKept p r s).port p =
    (((s.port p).reported r s.now).handAll (s.pair p).state.gateOpen).corrected r.line := by
  unfold laterKept Port.corrected
  dsimp only
  rw [keepReport_port]
  split
  · rw [sendOrder_port, keepReport_port]
  · rw [keepReport_port]

theorem Port.corrected_frame (line : LineState) (x : Port) : x.corrected line =
    { x with sent := (x.corrected line).sent, residue := (x.corrected line).residue } := by
  unfold Port.corrected
  split
  · exact x.orderSent_eq
  · rfl

theorem Port.corrected_sent (line : LineState) (x : Port) :
    (x.corrected line).sent = x.sent ++ if disagrees x.order line then x.order.messages else [] := by
  unfold Port.corrected
  split
  · exact x.orderSent_sent
  · exact (List.append_nil _).symm

theorem laterKept_order (p : PairNo) (r : Report) (s : State) : ((laterKept p r s).port p).order = (s.port p).order := by
  rw [laterKept_port, Port.corrected_frame, Port.handAll_frame]
  rfl

theorem laterKept_report (p : PairNo) (r : Report) (s : State) : ((laterKept p r s).port p).report = r := by
  rw [laterKept_port, Port.corrected_frame, Port.handAll_frame]
  rfl

/-- What goes out: what a cleared residue lets be handed over, then the order again where the report disagrees. -/
theorem laterKept_sent (p : PairNo) (r : Report) (s : State) : ((laterKept p r s).port p).sent =
    (((s.port p).reported r s.now).handAll (s.pair p).state.gateOpen).sent ++
      if disagrees (s.port p).order r.line then (s.port p).order.messages else [] := by
  rw [laterKept_port, Port.corrected_sent, Port.handAll_frame]
  rfl

/-! ### The blocks in either order -/

/-- Which block takes the report of a dropped live pair first (R75) [9]. -/
def eitherFirst (p : PairNo) (r : Report) (u : State) : Bool × State :=
  if u.isLive p && r.line != .showtime then u.race else (false, u)

theorem laterReport_eq (p : PairNo) (r : Report) (s : State) : laterReport p r s =
    if (eitherFirst p r (laterKept p r s)).1 then
      redecide (pairReport p r.line (rxReport p (eitherFirst p r (laterKept p r s)).2))
    else rxReport p (redecide (pairReport p r.line (eitherFirst p r (laterKept p r s)).2)) := rfl

/-- Whatever the order of Pair Controller and Reorder Engine, the Pair Controller and the dispatcher make their moves on a
state that the inbound path alone has changed, and after them the inbound path alone changes anything. -/
theorem laterReport_cases (p : PairNo) (r : Report) (s : State) : ∃ v, PurgeFrame (laterKept p r s) v ∧
    PurgeFrame (redecide (pairReport p r.line v)) (laterReport p r s) := by
  have hrx := fun x => (rxReport_frame p x).purgeFrame
  rw [laterReport_eq]
  generalize laterKept p r s = u
  have hb : PurgeFrame u (eitherFirst p r u).2 := by
    unfold eitherFirst
    split
    · exact race_purgeFrame u
    · exact .refl u
  split
  · exact ⟨_, hb.trans (hrx _), .refl _⟩
  · exact ⟨_, hb, hrx _⟩

/-- With SHOWTIME the Reorder Engine takes the report last (R156). -/
theorem laterReport_showtime {r : Report} (h : r.line = .showtime) (p : PairNo) (s : State) :
    laterReport p r s = rxReport p (redecide (pairReport p .showtime (laterKept p r s))) := by
  have hb : eitherFirst p r (laterKept p r s) = (false, laterKept p r s) := by simp [eitherFirst, h]
  rw [laterReport_eq, hb, h]
  rfl

/-! ### The Pair Controller's moves -/

/-- A pair that leaves a REPORT without SHOWTIME behind: to a state with a closed gate, what it enters sent. -/
structure Dropped (p : PairNo) (s t : State) : Prop where
  state : (t.pair p).state = .training ∨ (t.pair p).state = .parked ∨ (t.pair p).state = .quarantine
  sent : (t.port p).sent =
    (s.port p).sent ++ if (s.port p).order = (t.pair p).state.order then [] else (t.pair p).state.order.messages

theorem enter_dropped {new : PairState} (why : Reason) (h : new = .training ∨ new = .parked ∨ new = .quarantine) :
    Dropped p s (enter p new why s) := by
  refine ⟨by rwa [(enter_state ..).1], ?_⟩
  rw [(enter_state ..).1]
  exact enter_sent (by rcases h with rfl | rfl | rfl <;> rfl) p why s

theorem park_dropped (p : PairNo) (s : State) : Dropped p s (park p s) := enter_dropped _ (.inr (.inl rfl))

theorem Dropped.before (h : Dropped p t u) (ho : (t.port p).order = (s.port p).order)
    (hs : (t.port p).sent = (s.port p).sent) : Dropped p s u := ⟨h.state, ho ▸ hs ▸ h.sent⟩

theorem Dropped.after (h : Dropped p s t) (hst : (u.pair p).state = (t.pair p).state)
    (hs : (u.port p).sent = (t.port p).sent) : Dropped p s u := ⟨hst ▸ h.state, by rw [hs, hst, h.sent]⟩

theorem quarantine_dropped (p : PairNo) (why : Reason) (s : State) : Dropped p s (quarantine p why s) := by
  refine (enter_dropped why (.inr (.inr rfl))).after ?_ rfl
  rw [quarantine, startTimer, State.countPair, State.countPairBy]
  simp only [pair_modPair]
  rfl

theorem afterRetrain_dropped (p : PairNo) (s : State) : Dropped p s (afterRetrain p s) := by
  unfold afterRetrain
  split
  · exact quarantine_dropped p _ s
  · exact enter_dropped _ (.inl rfl)

theorem retrain_dropped (p : PairNo) (s : State) : Dropped p s (retrain p s) :=
  (afterRetrain_dropped p (countRetrain p s)).before rfl rfl

theorem lineDrop_dropped (p : PairNo) (s : State) : Dropped p s (lineDrop p s) := by
  have hport : (countRetrain p (rxRemove p (emptyQueue p s))).port p = (s.port p).emptied :=
    (port_congr (rxRemove_frame p _).ports p).trans (emptyQueue_port p s)
  have ho : ((countRetrain p (rxRemove p (emptyQueue p s))).port p).order = (s.port p).order := by rw [hport]; rfl
  have hs : ((countRetrain p (rxRemove p (emptyQueue p s))).port p).sent = (s.port p).sent := by rw [hport]; rfl
  unfold lineDrop
  dsimp only
  split
  · refine Dropped.before (Dropped.after (park_dropped p _) ?_ ?_) ho hs
    · rw [hostDone_pair]
    · rw [port_congr (hostDone_ports ..)]
  · exact (afterRetrain_dropped p _).before ho hs

/-- Without SHOWTIME a pair that has trained is dropped (R46, R61). -/
theorem pairReport_dropped {line : LineState} (h : (s.pair p).state = .settling ∨ (s.pair p).state = .joining ∨
    (s.pair p).state = .active ∨ (s.pair p).state = .leaving) (hl : line ≠ .showtime) :
    Dropped p s (pairReport p line s) := by
  unfold pairReport
  rcases h with h | h | h | h <;> simp only [h, if_neg hl]
  · exact retrain_dropped p s
  · exact lineDrop_dropped p s
  · exact lineDrop_dropped p s
  · exact lineDrop_dropped p s

/-- A pair that no REPORT moves. -/
theorem pairReport_rests (line : LineState) (h : (s.pair p).state = .parked ∨ (s.pair p).state = .quarantine ∨
    (s.pair p).state = .faulted) : pairReport p line s = s := by
  unfold pairReport
  rcases h with h | h | h <;> simp only [h]

theorem pairReport_training_waits {line : LineState} (h : (s.pair p).state = .training) (hl : line ≠ .showtime) :
    pairReport p line s = s := by
  unfold pairReport
  simp only [h, if_neg hl]

theorem pairReport_joining (h : (s.pair p).state = .joining ∨ (s.pair p).state = .leaving) :
    pairReport p .showtime s = s := by
  unfold pairReport
  rcases h with h | h <;> simp only [h, if_true]

theorem pairReport_training (h : (s.pair p).state = .training) : pairReport p .showtime s =
    startTimer p .holdoff s.cfg.holdoff (enter p .settling (s.pair p).reason s) := by
  unfold pairReport
  simp only [h, if_true]

theorem pairReport_settling (h : (s.pair p).state = .settling) : pairReport p .showtime s =
    if (s.pair p).stateTimer.isNone then settlingRateTest p s else s := by
  unfold pairReport rateTest
  simp only [h, if_true]

theorem pairReport_active (h : (s.pair p).state = .active) : pairReport p .showtime s = activeRateTest p s := by
  unfold pairReport
  simp only [h, if_true]

end Sys2Proof.Machine

/-! PROOFS. A later REPORT seen at its end (O28): the LEAVE and the JOIN placed, the pair that stays, the pair that is dropped,
and T_reorder (R19, R20, R44 to R46, R55, R56, R155). -/

namespace Sys2Proof.Machine

variable {p : PairNo} {s t u : State}

/-! ### A LEAVE placed (R48, R56) -/

theorem place_pair {f : Fragment} (h : place p f s = some t) : t.pair p =
    { s.pair p with progressTimer := none, outRef := f.reference.orElse fun _ => (s.pair p).outRef } := by
  unfold place at h
  split at h
  · obtain rfl := Option.some.inj h
    exact stage_pair p f s
  · cases h

theorem placeLeave_record (p : PairNo) (why : LeaveReason) (s : State) : (placeLeave p why s).pair p = { s.pair p with
    progressTimer := ((placeLeave p why s).pair p).progressTimer, outRef := ((placeLeave p why s).pair p).outRef,
    waitLeave := ((placeLeave p why s).pair p).waitLeave } := by
  unfold placeLeave
  split
  · rw [pair_modPair, place_pair ‹_›]
  · rw [pair_modPair]

theorem placeJoin_record (p : PairNo) (s : State) : (placeJoin p s).pair p = { s.pair p with
    progressTimer := ((placeJoin p s).pair p).progressTimer, outRef := ((placeJoin p s).pair p).outRef,
    waitJoin := ((placeJoin p s).pair p).waitJoin } := by
  unfold placeJoin
  split
  · rw [pair_modPair, place_pair ‹_›]
  · rw [pair_modPair]

/-- A fragment staged joins the tail of the queue, whatever the handover marks (R25). -/
theorem stage_frags (p : PairNo) (f : Fragment) (s : State) :
    ((stage p f s).port p).queue.map (·.frag) = (s.port p).queue.map (·.frag) ++ [f] := by
  rw [stage_port_self, (Port.handAll_keeps _ _).1]
  simp [Port.append]

/-- A LEAVE joins the queue where there is room for it, and waits where there is none. -/
theorem placeLeave_placed (p : PairNo) (why : LeaveReason) (s : State) : LeavePlaced p why s (placeLeave p why s) := by
  have hsize : (Fragment.leave why).size = 9 := rfl
  refine ⟨fun hlen hoct => ?_, fun hfull => ?_⟩
  · rw [placeLeave, place_of_room (Port.hasRoom_iff.2 ⟨hlen, hsize ▸ hoct⟩)]
    dsimp only
    rw [pair_modPair, port_modPair, stage_frags]
    exact ⟨rfl, rfl⟩
  · rw [placeLeave, place_of_full (Bool.eq_false_iff.2 fun h => hfull (hsize ▸ Port.hasRoom_iff.1 h))]
    dsimp only
    rw [pair_modPair, port_modPair]
    exact ⟨rfl, rfl⟩

theorem LeavePlaced.before {why : LeaveReason} (h : LeavePlaced p why t u)
    (hq : (t.port p).queue.map (·.frag) = (s.port p).queue.map (·.frag))
    (hb : (t.port p).backlog = (s.port p).backlog) : LeavePlaced p why s u := by
  have hlen : (t.port p).queue.length = (s.port p).queue.length := by simpa using congrArg List.length hq
  refine ⟨fun hl ho => ?_, fun hfull => ?_⟩
  · rw [← hq]
    exact h.room (hlen ▸ hl) (hb ▸ ho)
  · rw [← hq]
    exact h.full (by rw [hlen, hb]; exact hfull)

theorem LeavePlaced.after {why : LeaveReason} (h : LeavePlaced p why s t) (hpair : u.pair p = t.pair p)
    (hport : u.port p = t.port p) : LeavePlaced p why s u := by
  refine ⟨fun hl ho => ?_, fun hfull => ?_⟩
  · rw [hpair, hport]
    exact h.room hl ho
  · rw [hpair, hport]
    exact h.full hfull

/-! ### The graceful leave of a rate test (R55, R56) -/

/-- The pair in LEAVING, its leave timer started, before its LEAVE is placed. -/
theorem gracefulLeave_lowRate (p : PairNo) (s : State) : gracefulLeave p .lowRate s =
    placeLeave p .lowRate (startTimer p .leave s.cfg.leaveTimeout
      ((enter p .leaving .lowRate s).modPair p fun r => { r with leaveForm := .graceful })) := rfl

theorem Port.ordered_queue (o : Order) (x : Port) : (x.ordered o).queue = x.queue ∧
    (x.ordered o).takenFromHead = x.takenFromHead := by
  rw [Port.ordered_eq]
  exact ⟨rfl, rfl⟩

/-- From ACTIVE to LEAVING the line queue is kept (R39). -/
theorem entered_leaving_queue (x : Port) :
    (x.entered .active .leaving).queue.map (·.frag) = x.queue.map (·.frag) ∧
    (x.entered .active .leaving).backlog = x.backlog := by
  obtain ⟨hq, ht⟩ := Port.ordered_queue PairState.leaving.order x
  have he : x.entered .active .leaving = (x.ordered PairState.leaving.order).handAll PairState.leaving.gateOpen := rfl
  rw [he, (Port.handAll_keeps _ _).1, Port.handAll_backlog, hq, Port.backlog, Port.backlog, hq, ht]
  exact ⟨rfl, rfl⟩

theorem gracefulLeave_pair (p : PairNo) (s : State) :
    ((gracefulLeave p .lowRate s).pair p).state = .leaving ∧ ((gracefulLeave p .lowRate s).pair p).reason = .lowRate ∧
    ((gracefulLeave p .lowRate s).pair p).leaveForm = .graceful ∧
    ((gracefulLeave p .lowRate s).pair p).stateTimer = some (.leave, s.now + s.cfg.leaveTimeout) := by
  have hnow : (enter p .leaving .lowRate s).now = s.now := (enter_frame p _ _ s).now
  rw [gracefulLeave_lowRate, placeLeave_record, startTimer, pair_modPair, pair_modPair]
  refine ⟨(enter_state ..).1, (enter_state ..).2, rfl, ?_⟩
  change some (StateTimer.leave, (enter p .leaving .lowRate s).now + s.cfg.leaveTimeout) = _
  rw [hnow]

theorem gracefulLeave_placed (h : (s.pair p).state = .active) : LeavePlaced p .lowRate s (gracefulLeave p .lowRate s) := by
  obtain ⟨hq, hb⟩ := entered_leaving_queue (s.port p)
  rw [gracefulLeave_lowRate]
  refine (placeLeave_placed p .lowRate _).before ?_ ?_ <;>
    rw [startTimer, port_modPair, port_modPair, enter_port, h]
  · exact hq
  · exact hb

theorem activeChanged_mark (n : Nat) (s : State) (q : PairNo) : (activeChanged id n s).mark q = s.mark q := by
  unfold activeChanged
  split
  · split
    · rfl
    · exact raise_mark _ _ _
  · split
    · rw [purge, (drainTells_delivery _).mark]
      exact ((emptyOutbound_delivery _).mark q).trans (raise_mark _ _ _)
    · rfl

/-- A pair that goes to LEAVING stays in the live set (R127). -/
theorem gracefulLeave_mark (p : PairNo) (s : State) (q : PairNo) : (gracefulLeave p .lowRate s).mark q = s.mark q := by
  have he : enter p .leaving .lowRate s =
    activeChanged id s.activeCount ((entryActs p .leaving .lowRate s).raise (.pairState p)) := rfl
  have hm : ∀ (f : Pair → Pair) (x : State), (x.modPair p f).mark q = x.mark q := fun _ _ => rfl
  rw [gracefulLeave_lowRate, (placeLeave_delivery p _ _).mark, startTimer, hm, hm, he, activeChanged_mark, raise_mark,
    (entryActs_acts p _ _ s).delivery.mark]

/-! ### Entry to JOINING after the holdoff (R45, R47) -/

theorem enterJoining_pair (p : PairNo) (why : Reason) (s : State) :
    ((enterJoining p why s).pair p).state = .joining ∧ ((enterJoining p why s).pair p).reason = why ∧
    ((enterJoining p why s).pair p).stateTimer = some (.join, s.now + s.cfg.joinTimeout * 1000) := by
  have hnow : (enter p .joining why s).now = s.now := (enter_frame p _ _ s).now
  rw [enterJoining, pair_modPair, placeJoin_record, startTimer, pair_modPair]
  refine ⟨(enter_state ..).1, (enter_state ..).2, ?_⟩
  change some (StateTimer.join, (enter p .joining why s).now + s.cfg.joinTimeout * 1000) = _
  rw [hnow]

/-! ### The end of a REPORT -/

/-- A pair that the Pair Controller leaves as it is, and that is not ACTIVE, is at the end as the report's keeping made it. -/
theorem laterReport_stays {r : Report} (ha : (s.pair p).state ≠ .active)
    (h : ∀ v : State, v.pair p = s.pair p → pairReport p r.line v = v) :
    (laterReport p r s).pair p = s.pair p ∧ (laterReport p r s).port p = (laterKept p r s).port p := by
  obtain ⟨v, huv, hwt⟩ := laterReport_cases p r s
  have hv : v.pair p = s.pair p := (pair_congr huv.pairs p).trans (laterKept_pair p p r s)
  have hidle : v.isActive p = false := by simp [State.isActive, hv, ha]
  rw [h v hv] at hwt
  obtain ⟨hpair, hport⟩ := (redecide_frame v).idle p hidle
  exact ⟨((pair_congr hwt.pairs p).trans hpair).trans hv,
    ((port_congr hwt.ports p).trans hport).trans (port_congr huv.ports p)⟩

/-- A pair that has trained is dropped by a REPORT without SHOWTIME: what it sent, by the state it goes to. -/
theorem laterReport_dropped {r : Report} (h : (s.pair p).state = .settling ∨ (s.pair p).state = .joining ∨
    (s.pair p).state = .active ∨ (s.pair p).state = .leaving) (hl : r.line ≠ .showtime) :
    Dropped p (laterKept p r s) (laterReport p r s) := by
  obtain ⟨v, huv, hwt⟩ := laterReport_cases p r s
  have hv : v.pair p = s.pair p := (pair_congr huv.pairs p).trans (laterKept_pair p p r s)
  have hd : Dropped p v (pairReport p r.line v) := pairReport_dropped (by rwa [hv]) hl
  have hidle : (pairReport p r.line v).isActive p = false := by
    rw [State.isActive]
    rcases hd.state with h | h | h <;> rw [h] <;> rfl
  obtain ⟨hpair, hport⟩ := (redecide_frame (pairReport p r.line v)).idle p hidle
  refine (hd.before (by rw [port_congr huv.ports p]) (by rw [port_congr huv.ports p])).after ?_ ?_
  · rw [pair_congr hwt.pairs p, hpair]
  · rw [port_congr hwt.ports p, hport]

/-- With SHOWTIME, a pair that is not ACTIVE after the Pair Controller's move is at the end as that move left it. -/
theorem laterReport_moved {r : Report} (hl : r.line = .showtime)
    (ha : ((pairReport p .showtime (laterKept p r s)).pair p).state ≠ .active) :
    (laterReport p r s).pair p = (pairReport p .showtime (laterKept p r s)).pair p ∧
    (laterReport p r s).port p = (pairReport p .showtime (laterKept p r s)).port p := by
  have hidle : (pairReport p .showtime (laterKept p r s)).isActive p = false := by simp [State.isActive, ha]
  obtain ⟨hpair, hport⟩ := (redecide_frame (pairReport p .showtime (laterKept p r s))).idle p hidle
  rw [laterReport_showtime hl, pair_congr (rxReport_frame p _).pairs p, port_congr (rxReport_frame p _).ports p]
  exact ⟨hpair, hport⟩

/-- State and reason at the end are those that the Pair Controller's move gave. -/
theorem laterReport_state {r : Report} (hl : r.line = .showtime) :
    ((laterReport p r s).pair p).state = ((pairReport p .showtime (laterKept p r s)).pair p).state ∧
    ((laterReport p r s).pair p).reason = ((pairReport p .showtime (laterKept p r s)).pair p).reason := by
  obtain ⟨hstate, hreason, -⟩ := redecide_control p (pairReport p .showtime (laterKept p r s))
  rw [laterReport_showtime hl, pair_congr (rxReport_frame p _).pairs p]
  exact ⟨hstate, hreason⟩

/-! ### T_reorder at the end (R155, R156) -/

theorem ReorderTime.of_kept (h : ReorderTime s) (hd : DeliveryKept s t) (hf : InboundFrame s t) : ReorderTime t := by
  unfold ReorderTime at *
  simp only [hd.mark, port_congr hf.ports, hf.cfg, hd.tReorder]
  exact h

theorem rxReport_reorderTime (h : (s.mark p).isSome = true) : ReorderTime (rxReport p s) := by
  rw [rxReport, State.isLive, if_pos h]
  exact (recomputeT_reorderTime h).of_kept (rxFollow_delivery _) (rxFollow_frame _)

/-- The live set is kept by what a REPORT with SHOWTIME brings a pair that is in it. -/
theorem pairReport_mark (h : (s.pair p).state = .joining ∨ (s.pair p).state = .active ∨ (s.pair p).state = .leaving) :
    (pairReport p .showtime s).mark p = s.mark p := by
  rcases h with h | h | h
  · rw [pairReport_joining (.inl h)]
  · rw [pairReport_active h, activeRateTest]
    split
    · rfl
    · exact gracefulLeave_mark p s p
  · rw [pairReport_joining (.inr h)]

theorem laterReport_reorderTime {r : Report} (hl : r.line = .showtime) (h : (s.pair p).state = .joining ∨
    (s.pair p).state = .active ∨ (s.pair p).state = .leaving) (hm : (s.mark p).isSome = true) :
    ReorderTime (laterReport p r s) := by
  rw [laterReport_showtime hl]
  refine rxReport_reorderTime ?_
  rw [(redecide_delivery _).mark, pairReport_mark (by rw [laterKept_pair]; exact h), (laterKept_delivery p r s).mark]
  exact hm

end Sys2Proof.Machine

/-! PROOFS. The obligation on a later REPORT (O28): its parts by the pair's state and the report's line state. -/

namespace Sys2Proof.Machine

variable {p : PairNo} {s t : State} {r : Report}

theorem exec_laterReport {line : LineState} {up down : BitVec 16} {upDelay downDelay : BitVec 8}
    (hf : p.val < s.mgmt.fitted) (hp : (s.port p).present = true) :
    exec (.report p line up down upDelay downDelay) s = .next
      (laterReport p (clampReport line up.toNat down.toNat upDelay.toNat downDelay.toNat) s) := by
  have hfit : s.isFitted p = true := decide_eq_true hf
  simp [exec, execReport, hfit, hp]

/-! ### What every report keeps (R20, R21) -/

theorem laterReport_life (p : PairNo) (r : Report) (s : State) :
    LifeFrame p s (laterReport p r s) ∧ (laterReport p r s).now = s.now := by
  obtain ⟨v, huv, hwt⟩ := laterReport_cases p r s
  have hu := laterKept_frame p r s
  have hw := pairReport_frame p r.line v
  exact ⟨(((hu.trans (huv.pairFrame p)).trans hw).life.trans (redecide_life p _)).trans (hwt.pairFrame p).life,
    hwt.now.trans ((redecide_frame _).now.trans (hw.now.trans (huv.now.trans hu.now)))⟩

theorem laterReport_fields (p : PairNo) (r : Report) (s : State) :
    ((laterReport p r s).port p).present = (s.port p).present ∧
    ((laterReport p r s).port p).silence = some (s.now + 500) ∧ ((laterReport p r s).port p).report = r := by
  obtain ⟨v, huv, hwt⟩ := laterReport_cases p r s
  have hk : PortKept p (laterKept p r s) (laterReport p r s) :=
    (((PortKept.of_eq (port_congr huv.ports p)).trans (pairReport_portKept p _ v)).trans
      ((redecide_frame _).portKept p)).trans (.of_eq (port_congr hwt.ports p))
  rw [hk, laterKept_port, Port.corrected_frame, Port.handAll_frame]
  exact ⟨rfl, rfl, rfl⟩

/-! ### The order sent again (R19) -/

theorem laterKept_sent_closed (h : (s.pair p).state.gateOpen = false) : ((laterKept p r s).port p).sent =
    (s.port p).sent ++ if disagrees (s.port p).order r.line then (s.port p).order.messages else [] := by
  rw [laterKept_sent, h]
  rfl

theorem quiet_again (line : LineState) : (if disagrees .quiet line then Order.quiet.messages else []) =
    if line = .idle then [] else [.order .quiet] := by
  cases line <;> rfl

theorem train_again {line : LineState} (h : line ≠ .showtime) :
    (if disagrees .train line then Order.train.messages else []) = if line = .idle then [.order .train] else [] := by
  cases line with
  | showtime => exact absurd rfl h
  | idle | training => rfl

/-- Under TRAIN and IDLE: the STAGED fragments the credit allows, then the order again (R19, R27) [30]. -/
theorem laterKept_sent_idle (hg : (s.pair p).state.gateOpen = true) (ho : (s.port p).order = .train)
    (hl : r.line = .idle) (hlaw : LineQueueLaw (s.port p)) : ((laterKept p r s).port p).sent = (s.port p).sent
      ++ ((((s.port p).queue.filter fun e => !e.handed).take (2 - (s.port p).queue.countP (·.handed))).map fun e =>
        .fragment e.frag) ++ [.order .train] := by
  obtain ⟨handed, staged, hp⟩ := hlaw.parts
  have hx : Parts ((s.port p).reported r s.now) handed staged := ⟨hp.queue, hp.handed, hp.staged⟩
  have hres : ((s.port p).reported r s.now).residue = [] := by rw [Port.reported, hl]; rfl
  rw [laterKept_sent, hg, Port.handAll_eq hx, hres, ho, hl, hp.queue, countP_handed_append hp.handed hp.staged,
    filter_staged_append hp.handed hp.staged]
  have htake : staged.take (allowance true handed.length staged.length ([] : List Nat).length) =
      staged.take (2 - handed.length) := by
    rw [List.take_eq_take_min (i := 2 - handed.length), Nat.min_comm]
    rfl
  rw [htake]
  rfl

/-- With SHOWTIME under TRAIN nothing is sent again, and the queue is as the handover test leaves it. -/
theorem laterKept_port_showtime (ho : (s.port p).order = .train) (hl : r.line = .showtime) :
    (laterKept p r s).port p = ((s.port p).reported r s.now).handAll (s.pair p).state.gateOpen := by
  have hx : (((s.port p).reported r s.now).handAll (s.pair p).state.gateOpen).order = .train := by
    rw [Port.handAll_frame]
    exact ho
  rw [laterKept_port, Port.corrected, hx, hl]
  rfl

theorem laterKept_queue (p : PairNo) (r : Report) (s : State) :
    ((laterKept p r s).port p).queue.map (·.frag) = (s.port p).queue.map (·.frag) ∧
    ((laterKept p r s).port p).backlog = (s.port p).backlog := by
  obtain ⟨hq, ht, -⟩ := ((s.port p).reported r s.now).handAll_keeps (s.pair p).state.gateOpen
  have hf : ((laterKept p r s).port p).queue.map (·.frag) = (s.port p).queue.map (·.frag) := by
    rw [laterKept_port, Port.corrected_frame]
    exact hq
  refine ⟨hf, ?_⟩
  rw [Port.backlog, Port.backlog, queueSize_eq_of_frags hf, laterKept_port, Port.corrected_frame]
  exact congrArg (queueSize (s.port p).queue - ·) ht

theorem Dropped.sent_of_train (h : Dropped p s t) (ho : (s.port p).order = .train) : (t.port p).sent =
    (s.port p).sent ++ if (t.pair p).state = .training then [] else [.order .quiet] := by
  rw [h.sent, ho]
  rcases h.state with h | h | h <;> rw [h] <;> rfl

/-! ### By state -/

theorem laterReport_rests (h : (s.pair p).state = .parked ∨ (s.pair p).state = .quarantine ∨
    (s.pair p).state = .faulted) : (laterReport p r s).pair p = s.pair p ∧
    ((s.port p).order = .quiet → ((laterReport p r s).port p).sent =
      (s.port p).sent ++ (if r.line = .idle then [] else [.order .quiet])) := by
  have hstay := laterReport_stays (p := p) (r := r) (s := s) (by rcases h with h | h | h <;> rw [h] <;> decide)
    fun v hv => pairReport_rests _ (by rwa [hv])
  refine ⟨hstay.1, fun ho => ?_⟩
  rw [hstay.2, laterKept_sent_closed (by rcases h with h | h | h <;> rw [h] <;> rfl), ho, quiet_again]

theorem laterReport_trains (h : (s.pair p).state = .training) (hl : r.line ≠ .showtime) :
    (laterReport p r s).pair p = s.pair p ∧ ((s.port p).order = .train → ((laterReport p r s).port p).sent =
      (s.port p).sent ++ (if r.line = .idle then [.order .train] else [])) := by
  have hstay := laterReport_stays (p := p) (r := r) (s := s) (by rw [h]; decide)
    fun v hv => pairReport_training_waits (by rw [hv, h]) hl
  refine ⟨hstay.1, fun ho => ?_⟩
  rw [hstay.2, laterKept_sent_closed (by rw [h]; rfl), ho, train_again hl]

theorem laterReport_idle_sent (h : (s.pair p).state = .settling ∨ (s.pair p).state = .joining ∨
    (s.pair p).state = .active ∨ (s.pair p).state = .leaving) (ho : (s.port p).order = .train) (hl : r.line = .idle)
    (hlaw : LineQueueLaw (s.port p)) : ((laterReport p r s).port p).sent = (s.port p).sent
      ++ ((((s.port p).queue.filter fun e => !e.handed).take (2 - (s.port p).queue.countP (·.handed))).map fun e =>
        .fragment e.frag) ++ [.order .train]
      ++ (if ((laterReport p r s).pair p).state = .training then [] else [.order .quiet]) := by
  have hd := laterReport_dropped (r := r) h (by rw [hl]; decide)
  have hg : (s.pair p).state.gateOpen = true := by rcases h with h | h | h | h <;> rw [h] <;> rfl
  rw [hd.sent_of_train ((laterKept_order p r s).trans ho), laterKept_sent_idle hg ho hl hlaw]

theorem laterReport_joins (h : (s.pair p).state = .joining ∨ (s.pair p).state = .leaving)
    (ho : (s.port p).order = .train) (hl : r.line = .showtime) :
    (laterReport p r s).pair p = s.pair p ∧
    ((laterReport p r s).port p).queue.map (·.frag) = (s.port p).queue.map (·.frag) ∧
    (LineQueueLaw (s.port p) →
      HandedOver true (s.port p).sent (s.port p).queue (s.port p).residue ((laterReport p r s).port p)) := by
  have hstay := laterReport_stays (p := p) (r := r) (s := s) (by rcases h with h | h <;> rw [h] <;> decide)
    fun v hv => hl ▸ pairReport_joining (by rwa [hv])
  have hg : (s.pair p).state.gateOpen = true := by rcases h with h | h <;> rw [h] <;> rfl
  refine ⟨hstay.1, by rw [hstay.2, (laterKept_queue p r s).1], fun hlaw => ?_⟩
  obtain ⟨handed, staged, hp⟩ := hlaw.parts
  have hx : Parts ((s.port p).reported r s.now) handed staged := ⟨hp.queue, hp.handed, hp.staged⟩
  have hres : ((s.port p).reported r s.now).residue = (s.port p).residue := by rw [Port.reported, hl]; rfl
  have hover := hx.handedOver p s
  rw [hstay.2, laterKept_port_showtime ho hl]
  rw [hres, hg] at hover
  rw [hg]
  exact hover

theorem laterReport_settles (h : (s.pair p).state = .training) (hl : r.line = .showtime) :
    ((laterReport p r s).pair p).state = .settling ∧ ((laterReport p r s).pair p).reason = (s.pair p).reason ∧
    ((laterReport p r s).pair p).stateTimer = some (.holdoff, s.now + s.cfg.holdoff) := by
  have hu := laterKept_frame p r s
  have hupair := laterKept_pair p p r s
  have hw := pairReport_training (p := p) (s := laterKept p r s) (by rw [hupair, h])
  have hst := enter_state p .settling ((laterKept p r s).pair p).reason (laterKept p r s)
  have hnow : (enter p .settling ((laterKept p r s).pair p).reason (laterKept p r s)).now = s.now :=
    (enter_frame ..).now.trans hu.now
  have hpair : (pairReport p .showtime (laterKept p r s)).pair p =
      { (enter p .settling ((laterKept p r s).pair p).reason (laterKept p r s)).pair p with
        stateTimer := some (.holdoff, s.now + s.cfg.holdoff) } := by
    rw [hw, startTimer, pair_modPair, hnow, hu.event.cfg]
  rw [(laterReport_moved hl (by rw [hpair, hst.1]; decide)).1, hpair, hst.1, hst.2, hupair]
  exact ⟨rfl, rfl, rfl⟩

/-- The effective up rate under the report kept (R45). -/
theorem laterKept_usable (p : PairNo) (r : Report) (s : State) :
    (laterKept p r s).usable p = decide (64 ≤ r.upRate * (s.pair p).derate / 100) := by
  rw [State.usable, State.effUp, laterKept_report, laterKept_pair]
  rfl

theorem laterReport_settling (h : (s.pair p).state = .settling) (hl : r.line = .showtime) :
    ((s.pair p).stateTimer ≠ none → (laterReport p r s).pair p = s.pair p) ∧
    ((s.pair p).stateTimer = none → 64 ≤ r.upRate * (s.pair p).derate / 100 →
      ((laterReport p r s).pair p).state = .joining ∧ ((laterReport p r s).pair p).reason = (s.pair p).reason ∧
      ((laterReport p r s).pair p).stateTimer = some (.join, s.now + s.cfg.joinTimeout * 1000)) ∧
    ((s.pair p).stateTimer = none → r.upRate * (s.pair p).derate / 100 < 64 →
      ((laterReport p r s).pair p).state = .settling ∧ ((laterReport p r s).pair p).reason = .lowRate ∧
      ((laterReport p r s).pair p).stateTimer = none) := by
  have hupair := laterKept_pair p p r s
  have hu := laterKept_frame p r s
  have hw := pairReport_settling (p := p) (s := laterKept p r s) (by rw [hupair, h])
  refine ⟨fun ht => (laterReport_stays (by rw [h]; decide) fun v hv => ?_).1, fun ht hrate => ?_, fun ht hrate => ?_⟩
  · rw [hl, pairReport_settling (by rw [hv, h]), hv, if_neg (by simpa using ht)]
  · have htest : pairReport p .showtime (laterKept p r s) = enterJoining p (s.pair p).reason (laterKept p r s) := by
      rw [hw, hupair, ht, Option.isNone_none, if_pos rfl, settlingRateTest, laterKept_usable, if_pos (decide_eq_true hrate), hupair]
    obtain ⟨hstate, hreason, htimer⟩ := enterJoining_pair p (s.pair p).reason (laterKept p r s)
    rw [(laterReport_moved hl (by rw [htest, hstate]; decide)).1, htest, hstate, hreason, htimer, hu.now, hu.event.cfg]
    exact ⟨rfl, rfl, rfl⟩
  · have htest : pairReport p .showtime (laterKept p r s) = setReason p .lowRate (laterKept p r s) := by
      rw [hw, hupair, ht, Option.isNone_none, if_pos rfl, settlingRateTest, laterKept_usable, if_neg (by simpa using hrate)]
    have hpair : (pairReport p .showtime (laterKept p r s)).pair p = { s.pair p with reason := .lowRate } := by
      rw [htest, setReason, pair_modPair, hupair]
    rw [(laterReport_moved hl (by rw [hpair]; simp [h])).1, hpair]
    exact ⟨h, rfl, ht⟩

theorem laterReport_active (h : (s.pair p).state = .active) (hl : r.line = .showtime) :
    (64 ≤ r.upRate * (s.pair p).derate / 100 → ((laterReport p r s).pair p).state = .active ∧
      ((laterReport p r s).pair p).reason = (s.pair p).reason) ∧
    (r.upRate * (s.pair p).derate / 100 < 64 → ((laterReport p r s).pair p).state = .leaving ∧
      ((laterReport p r s).pair p).reason = .lowRate ∧ ((laterReport p r s).pair p).leaveForm = .graceful ∧
      ((laterReport p r s).pair p).stateTimer = some (.leave, s.now + s.cfg.leaveTimeout) ∧
      LeavePlaced p .lowRate s (laterReport p r s)) := by
  have hupair := laterKept_pair p p r s
  have hu := laterKept_frame p r s
  have huactive : ((laterKept p r s).pair p).state = .active := by rw [hupair, h]
  have hw := pairReport_active huactive
  obtain ⟨hq, hb⟩ := laterKept_queue p r s
  refine ⟨fun hrate => ?_, fun hrate => ?_⟩
  · obtain ⟨hstate, hreason⟩ := laterReport_state (p := p) (s := s) hl
    rw [hstate, hreason, hw, activeRateTest, laterKept_usable, if_pos (decide_eq_true hrate), hupair]
    exact ⟨h, rfl⟩
  · have htest : pairReport p .showtime (laterKept p r s) = gracefulLeave p .lowRate (laterKept p r s) := by
      rw [hw, activeRateTest, laterKept_usable, if_neg (by simpa using hrate)]
    obtain ⟨hstate, hreason, hform, htimer⟩ := gracefulLeave_pair p (laterKept p r s)
    obtain ⟨hpair, hport⟩ := laterReport_moved (p := p) (s := s) hl (by rw [htest, hstate]; decide)
    rw [htest] at hpair hport
    rw [hu.now, hu.event.cfg] at htimer
    have hplaced := ((gracefulLeave_placed huactive).before hq hb).after hpair hport
    rw [hpair]
    exact ⟨hstate, hreason, hform, htimer, hplaced⟩

/-! ### The obligation -/

/-- Settles O28: the parts above, for the report that the clamps make of the message's fields. -/
theorem reportIsKeptAndActedOn : Obligations.ReportIsKeptAndActedOn := by
  unfold Obligations.ReportIsKeptAndActedOn
  intro s p line up down upDelay downDelay hf hp rate
  have hexec := exec_laterReport (line := line) (up := up) (down := down) (upDelay := upDelay) (downDelay := downDelay) hf hp
  have hline : (clampReport line up.toNat down.toNat upDelay.toNat downDelay.toNat).line = line := rfl
  have hrate : (clampReport line up.toNat down.toNat upDelay.toNat downDelay.toNat).upRate * (s.pair p).derate / 100 =
    rate := rfl
  obtain ⟨hpresent, hsilence, hreport⟩ := laterReport_fields p
    (clampReport line up.toNat down.toNat upDelay.toNat downDelay.toNat) s
  obtain ⟨hlife, hnow⟩ := laterReport_life p (clampReport line up.toNat down.toNat upDelay.toNat downDelay.toNat) s
  have hclamped : clampReport line up.toNat down.toNat upDelay.toNat downDelay.toNat =
      { line := line, upRate := min up.toNat 16000, downRate := min down.toNat 16000,
        upDelay := min upDelay.toNat 63, downDelay := min downDelay.toNat 63 } := rfl
  generalize clampReport line up.toNat down.toNat upDelay.toNat downDelay.toNat = r at *
  subst hline
  rw [← hrate]
  exact ⟨_, hexec, hnow, hlife, hpresent.trans hp, hsilence, hreport.trans hclamped,
    laterReport_rests, fun h ho hl => (laterReport_trains h hl).2 ho, laterReport_idle_sent, laterReport_joins,
    laterReport_settles, fun h hl => (laterReport_trains h hl).1, laterReport_settling, laterReport_active,
    fun h hl => laterReport_reorderTime hl h⟩

end Sys2Proof.Machine

/-! PROOFS. The frame that is handed to the dispatcher (R99): the highest non-empty class, and the aged head before it. -/

namespace Sys2Proof.Machine

variable {s t : State} {c : Fin 4} {f : OutFrame} {rest : List OutFrame}

/-! ### The highest non-empty class (R99, step 2) -/

/-- No class above `c` holds a frame. -/
def State.topClass (s : State) (c : Fin 4) : Prop := ∀ d, c < d → (s.cls d).frames = []

/-- In a falling list the first class that passes a test is the greatest one that does. -/
theorem find?_eq_greatest {test : Fin 4 → Bool} {l : List (Fin 4)} (hl : l.Pairwise (· > ·)) (hc : c ∈ l)
    (htest : test c = true) : l.find? test = some c ↔ ∀ d ∈ l, c < d → test d = false := by
  induction l with
  | nil => cases hc
  | cons x l ih =>
    obtain ⟨hx, hl⟩ := List.pairwise_cons.1 hl
    rcases List.mem_cons.1 hc with rfl | hcl
    · rw [List.find?_cons_of_pos htest]
      refine ⟨fun _ d hd hlt => ?_, fun _ => rfl⟩
      rcases List.mem_cons.1 hd with rfl | hd
      · exact absurd hlt (lt_irrefl _)
      · exact absurd hlt (lt_asymm (hx d hd))
    · cases hxt : test x with
      | true =>
        rw [List.find?_cons_of_pos hxt]
        refine ⟨fun h => ?_, fun h => ?_⟩
        · obtain rfl := Option.some.inj h
          exact absurd (hx x hcl) (lt_irrefl _)
        · rw [h x (by simp) (hx c hcl)] at hxt
          cases hxt
      | false =>
        rw [List.find?_cons_of_neg (by simp [hxt]), ih hl hcl]
        simp [hxt]

theorem mem_classes (c : Fin 4) : c ∈ ([3, 2, 1, 0] : List (Fin 4)) := by
  revert c
  decide

theorem priorityChoice_iff (hc : (s.cls c).frames = f :: rest) : priorityChoice s = some c ↔ s.topClass c := by
  rw [priorityChoice, find?_eq_greatest (by decide) (mem_classes c) (by simp [hc])]
  refine ⟨fun h d hd => ?_, fun h d _ hd => by simp [h d hd]⟩
  simpa using h d (mem_classes d) hd

theorem priorityChoice_isSome (hc : (s.cls c).frames = f :: rest) : ∃ b, priorityChoice s = some b := by
  rw [← Option.isSome_iff_exists, priorityChoice, List.find?_isSome]
  exact ⟨c, mem_classes c, by simp [hc]⟩

/-! ### The aged head (R99, step 1) -/

/-- The head of class `c` has waited its age limit. -/
def State.agedClass (s : State) (c : Fin 4) : Prop := c ≠ 3 ∧ (s.cls c).ageLimit ≠ 0 ∧
  ∃ f rest, (s.cls c).frames = f :: rest ∧ (s.cls c).ageLimit ≤ s.now - f.admitted

theorem agedHead_eq_some {x : Fin 4 × OutFrame} : agedHead s c = some x ↔
    s.agedClass c ∧ x.1 = c ∧ ∃ rest, (s.cls c).frames = x.2 :: rest := by
  obtain ⟨d, g⟩ := x
  unfold agedHead State.agedClass
  cases hc : (s.cls c).frames with
  | nil => simp
  | cons f rest =>
    simp only [Option.ite_none_right_eq_some, Bool.and_eq_true, decide_eq_true_eq, Option.some.injEq, Prod.mk.injEq,
      List.cons.injEq]
    constructor
    · rintro ⟨⟨⟨h3, h0⟩, hage⟩, rfl, rfl⟩
      exact ⟨⟨h3, h0, f, rest, ⟨rfl, rfl⟩, hage⟩, rfl, rest, rfl, rfl⟩
    · rintro ⟨⟨h3, h0, f', rest', ⟨rfl, rfl⟩, hage⟩, rfl, rest'', rfl, rfl⟩
      exact ⟨⟨⟨h3, h0⟩, hage⟩, rfl, rfl⟩

theorem mem_agedHeads {x : Fin 4 × OutFrame} : x ∈ [0, 1, 2].filterMap (agedHead s) ↔
    s.agedClass x.1 ∧ ∃ rest, (s.cls x.1).frames = x.2 :: rest := by
  rw [List.mem_filterMap]
  constructor
  · rintro ⟨c, -, h⟩
    obtain ⟨haged, rfl, hframes⟩ := agedHead_eq_some.1 h
    exact ⟨haged, hframes⟩
  · rintro ⟨haged, hframes⟩
    have hmem : ∀ c : Fin 4, c ≠ 3 → c ∈ ([0, 1, 2] : List (Fin 4)) := by decide
    exact ⟨x.1, hmem x.1 haged.1, agedHead_eq_some.2 ⟨haged, rfl, hframes⟩⟩

theorem agedChoice_none (h : ∀ d, ¬s.agedClass d) : agedChoice s = none := by
  have hnil : [0, 1, 2].filterMap (agedHead s) = [] :=
    List.eq_nil_iff_forall_not_mem.2 fun x hx => h x.1 (mem_agedHeads.1 hx).1
  rw [agedChoice, hnil]

/-- Run through aged heads, the choice ends at the one with the earliest admission order. -/
theorem foldl_earlier_eq {m : Fin 4 × OutFrame} (l : List (Fin 4 × OutFrame)) (a : Fin 4 × OutFrame) (hm : m ∈ a :: l)
    (hleast : ∀ x ∈ a :: l, x ≠ m → m.2.order < x.2.order) : l.foldl earlier a = m := by
  induction l generalizing a with
  | nil => exact (List.mem_singleton.1 hm).symm
  | cons x l ih =>
    have hkeep : earlier a x = m ∨ (m ∈ l ∧ (earlier a x = a ∨ earlier a x = x)) := by
      rcases List.mem_cons.1 hm with rfl | hm
      · by_cases hx : x = m
        · exact .inl (by rw [hx, earlier, ite_self])
        · exact .inl (if_neg (Nat.lt_asymm (hleast x (by simp) hx)))
      · rcases List.mem_cons.1 hm with rfl | hm
        · by_cases ha : a = m
          · exact .inl (by rw [ha, earlier, ite_self])
          · exact .inl (if_pos (hleast a (by simp) ha))
        · unfold earlier
          split
          · exact .inr ⟨hm, .inr rfl⟩
          · exact .inr ⟨hm, .inl rfl⟩
    rw [List.foldl_cons]
    refine ih _ ?_ fun y hy hne => ?_
    · rcases hkeep with h | ⟨h, -⟩
      · simp [h]
      · simp [h]
    · rcases List.mem_cons.1 hy with rfl | hy
      · rcases hkeep with h | ⟨-, h | h⟩
        · exact absurd h hne
        · rw [h] at hne ⊢
          exact hleast a (by simp) hne
        · rw [h] at hne ⊢
          exact hleast x (by simp) hne
      · exact hleast y (by simp [hy]) hne

theorem agedChoice_some (haged : s.agedClass c) (hc : (s.cls c).frames = f :: rest)
    (hleast : ∀ d g rest', d ≠ c → s.agedClass d → (s.cls d).frames = g :: rest' → f.order < g.order) :
    agedChoice s = some c := by
  have hmem : (c, f) ∈ [0, 1, 2].filterMap (agedHead s) := mem_agedHeads.2 ⟨haged, rest, hc⟩
  have hless : ∀ x ∈ [0, 1, 2].filterMap (agedHead s), x ≠ (c, f) → f.order < x.2.order := fun x hx hne => by
    obtain ⟨hx, rest', hxf⟩ := mem_agedHeads.1 hx
    refine hleast x.1 x.2 rest' (fun hxc => hne ?_) hx hxf
    rw [hxc, hc] at hxf
    obtain ⟨hf, -⟩ := List.cons.inj hxf
    exact Prod.ext hxc hf.symm
  unfold agedChoice
  split
  · rename_i hnil
    rw [hnil] at hmem
    cases hmem
  · rename_i a l hl
    rw [hl] at hmem hless
    rw [foldl_earlier_eq l a hmem hless]

/-! ### The selection (R99) -/

/-- The choice of a class made, its head is the frame, and a choice that is not by priority is counted. -/
theorem selectFrame_of_choice {b : Fin 4} (hb : priorityChoice s = some b) (ha : (agedChoice s).getD b = c)
    (hc : (s.cls c).frames = f :: rest) : selectFrame s = some (f,
      if c = b then s.setCls c { s.cls c with frames := rest }
      else (s.setCls c { s.cls c with frames := rest }).count .agePromotions) := by
  unfold selectFrame
  rw [hb]
  dsimp only
  rw [ha, hc]

/-- The frame handed to the dispatcher, case by case (R99). -/
theorem selectFrame_spec (s : State) (c : Fin 4) (f : OutFrame) (rest : List OutFrame)
    (hc : (s.cls c).frames = f :: rest) :
    let s' := s.setCls c { s.cls c with frames := rest }
    ((∀ d, ¬s.agedClass d) → s.topClass c → selectFrame s = some (f, s')) ∧
    (s.agedClass c → (∀ d g rest', d ≠ c → s.agedClass d → (s.cls d).frames = g :: rest' → f.order < g.order) →
      (s.topClass c → selectFrame s = some (f, s')) ∧
      (¬s.topClass c → selectFrame s = some (f, s'.count .agePromotions))) := by
  refine ⟨fun hno htop => ?_, fun haged hleast => ⟨fun htop => ?_, fun htop => ?_⟩⟩
  · have hb := (priorityChoice_iff hc).2 htop
    exact (selectFrame_of_choice hb (by rw [agedChoice_none hno]; rfl) hc).trans (by rw [if_pos rfl])
  · have hb := (priorityChoice_iff hc).2 htop
    exact (selectFrame_of_choice hb (by rw [agedChoice_some haged hc hleast]; rfl) hc).trans (by rw [if_pos rfl])
  · obtain ⟨b, hb⟩ := priorityChoice_isSome hc
    have hne : c ≠ b := fun h => htop ((priorityChoice_iff hc).1 (h ▸ hb))
    exact (selectFrame_of_choice hb (by rw [agedChoice_some haged hc hleast]; rfl) hc).trans (by rw [if_neg hne])

/-! ### What a selection changes, and what it looks at -/

/-- The state `t` is `s` with a frame taken off its class queue. -/
structure FrameTaken (s t : State) : Prop where
  disp : t.disp = s.disp
  ports : t.ports = s.ports
  pairs : t.pairs = s.pairs
  cells : t.cells = s.cells
  cfg : t.cfg = s.cfg
  counter : ∀ d : BondCounter, d.isDispatch = true → t.counter d = s.counter d

theorem selectFrame_taken (h : selectFrame s = some (f, t)) : FrameTaken s t := by
  unfold selectFrame at h
  split at h
  · cases h
  · dsimp only at h
    split at h
    · cases h
    · obtain ⟨rfl, rfl⟩ := Prod.mk.inj (Option.some.inj h)
      split
      · exact ⟨rfl, rfl, rfl, rfl, rfl, fun _ _ => rfl⟩
      · exact ⟨rfl, rfl, rfl, rfl, rfl, fun d hd => (countBy_outbound (c := .agePromotions) rfl 1 _).counter d hd⟩

theorem agedHead_congr (hc : t.classes = s.classes) (hn : t.now = s.now) (c : Fin 4) : agedHead t c = agedHead s c := by
  have hcls : t.cls c = s.cls c := by simp only [State.cls, hc]
  rw [agedHead, agedHead, hcls, hn]

/-- A selection looks at the class queues and the time, and at nothing else (R99). -/
theorem selectFrame_congr (hc : t.classes = s.classes) (hn : t.now = s.now) {s' : State}
    (h : selectFrame s = some (f, s')) : ∃ t', selectFrame t = some (f, t') ∧ t'.classes = s'.classes := by
  have hcls : ∀ k, t.cls k = s.cls k := fun k => by simp only [State.cls, hc]
  have hprio : priorityChoice t = priorityChoice s := by simp only [priorityChoice, hcls]
  have haged : agedChoice t = agedChoice s := by
    rw [agedChoice, agedChoice, funext (agedHead_congr hc hn)]
  unfold selectFrame at h ⊢
  rw [hprio, haged]
  split at h
  · cases h
  · rename_i b hb
    dsimp only at h
    split at h
    · cases h
    · rename_i g rest hg
      obtain ⟨rfl, rfl⟩ := Prod.mk.inj (Option.some.inj h)
      dsimp only
      rw [hcls, hg]
      refine ⟨_, rfl, ?_⟩
      have hset : ∀ (u : State) (k : Fin 4) (q : ClassQueue), (if k = b then u.setCls k q else
          (u.setCls k q).count .agePromotions).classes = u.classes.set k.val q := fun u k q => by split <;> rfl
      rw [hset, hset, hc]

end Sys2Proof.Machine

/-! PROOFS. A TAKEN that gives the last fragment of a frame its entry (O52): the fragment is placed, the frame is done, and the
frame selected next is held behind the full queue (R28, R30, R105, R115 to R118). -/

namespace Sys2Proof.Machine

variable {p : PairNo} {s t v w w' : State} {plan : SplitPlan} {f : OutFrame}

/-! ### The run of the dispatcher -/

/-- The state `v` holds the last fragment of its frame, and `p`, the one ACTIVE pair, has one entry free for it. -/
structure LastWaits (p : PairNo) (plan : SplitPlan) (v : State) : Prop where
  split : v.disp.split = some plan
  held : v.disp.held = true
  midRun : v.disp.midRun = false
  last : plan.current = plan.k
  active : (v.pair p).state = .active
  alone : ∀ q, q ≠ p → (v.pair q).state ≠ .active
  eligible : v.eligible plan.size p = true
  length : (v.port p).queue.length = 3

/-- The state with the last fragment placed and its frame done (R115, R116). -/
def lastPlaced (p : PairNo) (plan : SplitPlan) (v : State) : State := finishFrame plan (placeFragment p plan v)

theorem lastPlaced_disp (p : PairNo) (plan : SplitPlan) (v : State) : (lastPlaced p plan v).disp =
    { v.disp with next := v.disp.next + 1, split := none, held := false, midRun := false } := by
  rw [lastPlaced, (finishFrame_finished plan _).disp, (placeFragment_placed p plan v).disp]

theorem lastPlaced_port (p : PairNo) (plan : SplitPlan) (v : State) : (lastPlaced p plan v).port p =
    ((v.port p).append [plan.fragment v.disp.next]).handAll (v.pair p).state.gateOpen := by
  rw [lastPlaced, port_congr (finishFrame_finished plan _).ports, (placeFragment_placed p plan v).port]

theorem lastPlaced_pair (p : PairNo) (plan : SplitPlan) (v : State) : (lastPlaced p plan v).pair p =
    { v.pair p with progressTimer := none, outRef := some (v.disp.next + 1), renewal := false } := by
  rw [lastPlaced, pair_congr (finishFrame_finished plan _).pairs, (placeFragment_placed p plan v).pair]

theorem lastPlaced_pair_ne (plan : SplitPlan) (v : State) {q : PairNo} (hq : q ≠ p) :
    (lastPlaced p plan v).pair q = v.pair q := by
  rw [lastPlaced, pair_congr (finishFrame_finished plan _).pairs, (placeFragment_placed p plan v).pairs q hq]

theorem lastPlaced_frags (p : PairNo) (plan : SplitPlan) (v : State) :
    ((lastPlaced p plan v).port p).queue.map (·.frag) =
      (v.port p).queue.map (·.frag) ++ [plan.fragment v.disp.next] := by
  rw [lastPlaced_port, (Port.handAll_keeps _ _).1]
  simp [Port.append]

theorem LastWaits.not_active (h : LastWaits p plan v) {q : PairNo} (hq : q ≠ p) :
    ((lastPlaced p plan v).pair q).state ≠ .active := by
  rw [lastPlaced_pair_ne plan v hq]
  exact h.alone q hq

/-- The pair's reference stands at the next number, so no renewal is due (R8, R9). -/
theorem LastWaits.no_renewal (h : LastWaits p plan v) (q : PairNo) :
    ((lastPlaced p plan v).isActive q && (lastPlaced p plan v).renewalPends q) = false := by
  rw [Bool.eq_false_iff, ne_eq, renewalPends_iff]
  rintro ⟨hactive, hpends⟩
  have hq : q = p := by
    by_contra hne
    exact h.not_active hne hactive
  subst hq
  simp [lastPlaced_pair, lastPlaced_disp] at hpends

theorem LastWaits.choose (h : LastWaits p plan v) : choose v plan.size = some p :=
  choose_eq_some h.eligible fun q hq he => absurd ((eligible_iff v plan.size q).1 he).1 (h.alone q hq)

/-- The next frame finds the line queue full (R111, R117). -/
theorem LastWaits.choose_next (h : LastWaits p plan v) (hw : FrameTaken (lastPlaced p plan v) w) (c : Nat) :
    Machine.choose (beginSplit f w) c = none := by
  refine choose_none.2 fun q _ => Bool.eq_false_iff.2 fun he => ?_
  obtain ⟨hactive, -, hlen, -⟩ := (eligible_iff (beginSplit f w) c q).1 he
  have hpair : (beginSplit f w).pair q = (lastPlaced p plan v).pair q := pair_congr hw.pairs q
  have hport : (beginSplit f w).port q = (lastPlaced p plan v).port q := port_congr hw.ports q
  rw [hpair] at hactive
  have hq : q = p := by
    by_contra hne
    exact h.not_active hne hactive
  subst hq
  have hfull := congrArg List.length (lastPlaced_frags q plan v)
  rw [List.length_map, List.length_append, List.length_map, h.length] at hfull
  rw [hport, hfull] at hlen
  exact absurd hlen (Nat.lt_irrefl 4)

/-- The run places the last fragment, takes the next frame and holds its first fragment (R104, R105, R116, R117). -/
theorem LastWaits.dispatchRun_eq (h : LastWaits p plan v) (hsel : selectFrame (lastPlaced p plan v) = some (f, w))
    (n : Nat) : dispatchRun (n + 5) false v = (beginSplit f w).holding := by
  have hstop : v.mayStop = false := by simp [State.mayStop, h.split, h.held, h.midRun]
  have hmove := dispatchMove_of_chosen h.split h.choose
  rw [if_pos h.last] at hmove
  have hnone : (lastPlaced p plan v).disp.split = none := by rw [lastPlaced_disp]
  have hstop' : (lastPlaced p plan v).mayStop = false := by simp [State.mayStop, hnone]
  have hmove' : dispatchMove (lastPlaced p plan v) = some (beginSplit f w, false) := by simp [dispatchMove, hnone, hsel]
  calc dispatchRun (n + 5) false v = dispatchRun (n + 4) true (lastPlaced p plan v) := dispatchRun_move hstop hmove _
    _ = dispatchRun (n + 3) false (lastPlaced p plan v) := dispatchRun_owed_idle h.no_renewal _
    _ = dispatchRun (n + 2) false (beginSplit f w) := dispatchRun_move hstop' hmove' _
    _ = (beginSplit f w).holding :=
      dispatchRun_hold rfl (le_refl 1) rfl (h.choose_next (selectFrame_taken hsel) _) n

/-- The state `t` is `v` with the last fragment placed on `p`, its frame done, and the frame selected next held. -/
structure NextHeld (p : PairNo) (plan : SplitPlan) (f : OutFrame) (v t : State) : Prop where
  disp : t.disp = { next := v.disp.next + 1, split := some (planOf v.cfg.pMax f), held := true, standing := false }
  frags : (t.port p).queue.map (·.frag) = (v.port p).queue.map (·.frag) ++ [plan.fragment v.disp.next]
  usedOut : t.cells.usedOut = v.cells.usedOut - plan.cells
  frames : t.counter .framesDispatched = countUp (v.counter .framesDispatched) 1
  holds : t.counter .dispatchHolds = countUp (v.counter .dispatchHolds) 1

theorem lastPlaced_cfg (h : (v.pair p).state = .active) (plan : SplitPlan) : (lastPlaced p plan v).cfg = v.cfg ∧
    (lastPlaced p plan v).now = v.now := by
  have ha : v.isActive p = true := by simp [State.isActive, h]
  have hf := (placeFragment_frame ha plan).trans (finishFrame_frame plan _)
  exact ⟨hf.event.cfg, hf.now⟩

theorem LastWaits.holding_next (h : LastWaits p plan v) (hw : FrameTaken (lastPlaced p plan v) w) :
    NextHeld p plan f v (beginSplit f w).holding := by
  have hp := placeFragment_placed p plan v
  have hd := finishFrame_finished plan (placeFragment p plan v)
  have hcount : ∀ c : BondCounter, c.place ≠ BondCounter.dispatchHolds.place →
      (beginSplit f w).holding.counter c = w.counter c := fun c hc => counter_countBy_ne hc 1 _
  refine ⟨?_, ?_, ?_, ?_, ?_⟩
  · change ({ w.disp with split := some (planOf w.cfg.pMax f), held := true, standing := false, midRun := false }
      : Dispatcher) = _
    rw [hw.disp, hw.cfg, lastPlaced_disp, (lastPlaced_cfg h.active plan).1]
  · exact (congrArg _ (congrArg Port.queue (port_congr hw.ports p))).trans (lastPlaced_frags p plan v)
  · exact (congrArg Cells.usedOut hw.cells).trans (by rw [lastPlaced, hd.usedOut, hp.cells])
  · rw [hcount _ (by decide), hw.counter _ rfl, lastPlaced, hd.frames, hp.counter _ (by decide)]
  · have hc : (beginSplit f w).holding.counter .dispatchHolds = countUp (w.counter .dispatchHolds) 1 :=
      counter_countBy .dispatchHolds 1 _
    rw [hc, hw.counter _ rfl, lastPlaced, hd.holds, hp.counter _ (by decide)]

theorem NextHeld.drained (h : NextHeld p plan f v t) : NextHeld p plan f v (drainTells t) := by
  have hd := drainTells_frame t
  have hk := drainTells_outbound t
  exact ⟨hd.disp.trans h.disp, by rw [port_congr hd.ports, h.frags], hk.usedOut.trans h.usedOut,
    (hk.counter _ rfl).trans h.frames, (hk.counter _ rfl).trans h.holds⟩

/-- The re-decision that the room brings (R118). -/
theorem LastWaits.redecide_next (h : LastWaits p plan v) {v' : State} (hsel : selectFrame v = some (f, v')) :
    NextHeld p plan f v (redecide v) ∧ (redecide v).classes = v'.classes := by
  have hclasses : (lastPlaced p plan v).classes = v.classes :=
    (finishFrame_finished plan _).classes.trans (placeFragment_placed p plan v).classes
  obtain ⟨w, hw, hwc⟩ := selectFrame_congr hclasses (lastPlaced_cfg h.active plan).2 hsel
  have hrun : redecide v = drainTells (beginSplit f w).holding := by
    rw [redecide, if_pos h.held, dispatch]
    exact congrArg drainTells (h.dispatchRun_eq hw 123)
  rw [hrun]
  exact ⟨(h.holding_next (selectFrame_taken hw)).drained, (drainTells_frame _).classes.trans hwc⟩

/-! ### The TAKEN (R28, R30) -/

/-- A TAKEN of what is left of the head, where no residue stands: the head is retired, and nothing else of the part but its
pair's counters changes (R28). -/
structure HeadTaken (p : PairNo) (n : Nat) (queued : List Entry) (s t : State) : Prop where
  applied : TakenApplied p n 1 s t
  queue : (t.port p).queue = queued
  classes : t.classes = s.classes
  cells : t.cells = s.cells
  counters : t.counters = s.counters

theorem applyTaken_rest (p : PairNo) (n : Nat) (s : State) : (applyTaken p n s).1.classes = s.classes ∧
    (applyTaken p n s).1.cells = s.cells ∧ (applyTaken p n s).1.counters = s.counters ∧
    ((applyTaken p n s).1.port p).report = (s.port p).report := by
  unfold applyTaken
  dsimp only
  split <;> refine ⟨rfl, rfl, rfl, ?_⟩ <;> simp [State.countPair, State.countPairBy]

/-- Cover that ends with the head leaves the entries behind it (R28, step 3). -/
theorem coverQueue_exact (q : List Entry) (k : Cover) (h : k.left = 0) : (coverQueue 0 k q).2.2.retired = k.retired := by
  cases q with
  | nil => rfl
  | cons e rest =>
    have hsize := size_ge e.frag
    unfold coverQueue
    rw [h, Nat.sub_zero, if_neg (show ¬e.frag.size ≤ 0 by omega)]
    split <;> rfl

theorem applyTaken_head {n : Nat} {e : Entry} {queued : List Entry} (hlaw : LineQueueLaw (s.port p))
    (hres : (s.port p).residue = []) (hq : (s.port p).queue = e :: queued) (he : e.handed = true)
    (hn : n = e.frag.size - (s.port p).takenFromHead) :
    HeadTaken p n queued s (applyTaken p n s).1 ∧ (applyTaken p n s).2 = [e.frag] := by
  have hret : (applyTaken p n s).2 = [e.frag] := by
    have hcover : (applyTaken p n s).2 = (coverQueue (s.port p).takenFromHead { left := n, sent := 0, retired := [] }
        (e :: queued)).2.2.retired := by
      simp only [applyTaken, hres, coverResidue, hq]
    rw [hcover, coverQueue, if_pos he, if_pos (le_of_eq hn.symm)]
    exact coverQueue_exact queued _ (by rw [hn, Nat.sub_self])
  obtain ⟨m, happ, htake⟩ := applyTaken_spec p n s hlaw
  obtain ⟨hclasses, hcells, hcounters, -⟩ := applyTaken_rest p n s
  have hm : m = 1 := by
    have hlen := congrArg List.length (htake.symm.trans hret)
    have := happ.covered.count
    rw [List.length_map, List.length_take, List.length_singleton] at hlen
    omega
  subst hm
  exact ⟨⟨happ, by rw [happ.covered.queue, hq]; rfl, hclasses, hcells, hcounters⟩, hret⟩

/-- With nothing waiting at the pair, a room report places nothing (R48). -/
theorem pairRoom_of_no_waits (hack : (s.pair p).waitAck = none) (hjoin : (s.pair p).waitJoin = false)
    (hleave : (s.pair p).waitLeave = none) (hren : (s.pair p).renewal = false) : pairRoom p s = s := by
  simp [pairRoom, tryAck, tryJoin, tryLeave, tryRenewal, hack, hjoin, hleave, hren]

theorem roomReport_of_no_waits (hack : (s.pair p).waitAck = none) (hjoin : (s.pair p).waitJoin = false)
    (hleave : (s.pair p).waitLeave = none) (hren : (s.pair p).renewal = false) : roomReport p s = redecide s := by
  have hwants : s.wantsRoom p = false := by simp [State.wantsRoom, hack, hjoin, hleave, hren]
  simp [roomReport, hwants, pairRoom_of_no_waits hack hjoin hleave hren]

theorem startProgress_of_queue (h : (s.port p).queue ≠ []) : startProgress p s = s := by
  simp [startProgress, h]

/-- The backlog without the head (R24). -/
theorem HeadTaken.backlog {n : Nat} {e : Entry} {queued : List Entry} (h : HeadTaken p n queued s t)
    (hlaw : LineQueueLaw (s.port p)) (hq : (s.port p).queue = e :: queued) (he : e.handed = true)
    (hn : n = e.frag.size - (s.port p).takenFromHead) :
    0 < n ∧ (t.port p).backlog ≤ (s.port p).backlog - n ∧ (t.port p).backlog < (s.port p).backlog := by
  have htaken : (s.port p).takenFromHead < e.frag.size := by
    have := hlaw.taken
    rw [hq] at this
    simpa [he] using this
  have hs : (s.port p).backlog = e.frag.size + queueSize queued - (s.port p).takenFromHead := by
    rw [Port.backlog, hq]
    simp [queueSize]
  have ht : (t.port p).backlog ≤ queueSize queued := by
    rw [Port.backlog, h.queue]
    exact Nat.sub_le _ _
  omega

/-- The whole of a TAKEN that retires the head of an ACTIVE pair with nothing waiting: the re-decision, and the last
handover test (R30, R118). -/
theorem takeTaken_head {n : Nat} {e : Entry} {queued : List Entry} (happ : HeadTaken p n queued s (applyTaken p n s).1)
    (hret : (applyTaken p n s).2 = [e.frag]) (hlow : ((applyTaken p n s).1.port p).backlog < (s.port p).backlog)
    (hactive : (s.pair p).state = .active) (hack : (s.pair p).waitAck = none) (hjoin : (s.pair p).waitJoin = false)
    (hleave : (s.pair p).waitLeave = none) (hren : (s.pair p).renewal = false) :
    takeTaken p n s = handover p (startProgress p (redecide (applyTaken p n s).1)) := by
  obtain ⟨c, hrec⟩ := happ.applied.record
  have htold : tellRetired p [e.frag] (applyTaken p n s).1 = (applyTaken p n s).1 :=
    tellRetired_of_no_leave fun hl => by
      rw [hrec] at hl
      exact absurd (hactive.symm.trans hl) (by decide)
  have hroom : roomReport p (applyTaken p n s).1 = redecide (applyTaken p n s).1 :=
    roomReport_of_no_waits (by rw [hrec]; exact hack) (by rw [hrec]; exact hjoin) (by rw [hrec]; exact hleave)
      (by rw [hrec]; exact hren)
  simp [takeTaken, hret, htold, hroom, hlow]

theorem NextHeld.handedOver (h : NextHeld p plan f v t) : NextHeld p plan f v (handover p t) := by
  refine ⟨(handover_disp p t).trans h.disp, ?_, (congrArg Cells.usedOut (handover_cells p t)).trans h.usedOut, ?_, ?_⟩
  · rw [handover_port_self, (Port.handAll_keeps _ _).1, h.frags]
  · simpa [State.counter] using h.frames
  · simpa [State.counter] using h.holds

/-- The entry that a TAKEN of the head gives goes to the last fragment of the frame being split; the frame selected next is
held (R30, R105, R115 to R118). -/
theorem taken_places_last {n : BitVec 16} {e : Entry} {queued : List Entry} {ref : Seq} {s' : State}
    (hf : p.val < s.mgmt.fitted) (hp : (s.port p).present = true) (hlaw : LineQueueLaw (s.port p))
    (hres : (s.port p).residue = []) (hq : (s.port p).queue = e :: queued) (hlen : queued.length = 3)
    (he : e.handed = true) (hn : n.toNat = e.frag.size - (s.port p).takenFromHead) (hactive : (s.pair p).state = .active)
    (halone : ∀ q, q ≠ p → (s.pair q).state ≠ .active) (hack : (s.pair p).waitAck = none)
    (hjoin : (s.pair p).waitJoin = false) (hleave : (s.pair p).waitLeave = none) (hren : (s.pair p).renewal = false)
    (hrate : 64 ≤ (s.port p).report.upRate * (s.pair p).derate / 100) (href : (s.pair p).outRef = some ref)
    (hdist : dist s.disp.next ref ≤ 8190) (hsplit : s.disp.split = some plan) (hheld : s.disp.held = true)
    (hmid : s.disp.midRun = false) (hlast : plan.current = plan.k)
    (hroom : (s.port p).backlog - n.toNat + plan.size ≤ 3072) (hsel : selectFrame s = some (f, s')) :
    ∃ t, exec (.taken p n) s = .next t ∧ t.classes = s'.classes ∧
      t.disp = { next := s.disp.next + 1, split := some (planOf s.cfg.pMax f), held := true, standing := false } ∧
      (t.port p).queue.map (·.frag) = queued.map (·.frag) ++ [plan.fragment s.disp.next] ∧
      t.cells.usedOut = s.cells.usedOut - plan.cells ∧
      t.counter .framesDispatched = countUp (s.counter .framesDispatched) 1 ∧
      t.counter .dispatchHolds = countUp (s.counter .dispatchHolds) 1 := by
  obtain ⟨happ, hret⟩ := applyTaken_head hlaw hres hq he hn
  obtain ⟨hpos, hbacklog, hlow⟩ := happ.backlog hlaw hq he hn
  have hexec := exec_taken hf hp (n := n) fun h0 => by simp [h0] at hpos
  rw [takeTaken_head happ hret hlow hactive hack hjoin hleave hren] at hexec
  obtain ⟨-, -, -, hreport⟩ := applyTaken_rest p n.toNat s
  generalize (applyTaken p n.toNat s).1 = v at *
  have hframe := happ.applied.frame
  have hdisp : v.disp = s.disp := happ.applied.disp
  obtain ⟨c, hrec⟩ := happ.applied.record
  have hwaits : LastWaits p plan v :=
    { split := by rw [hdisp, hsplit]
      held := by rw [hdisp, hheld]
      midRun := by rw [hdisp, hmid]
      last := hlast
      active := by rw [hrec]; exact hactive
      alone := fun q hq => by
        rw [hframe.pairs q hq]
        exact halone q hq
      eligible := (eligible_iff v plan.size p).2 (by
        rw [hrec, hreport, hdisp, happ.queue, hlen]
        exact ⟨hactive, hrate, by decide, by omega, ref, href, hdist⟩)
      length := by rw [happ.queue, hlen] }
  obtain ⟨v', hselv, hclasses⟩ := selectFrame_congr happ.classes hframe.now hsel
  obtain ⟨hnext, hnextc⟩ := hwaits.redecide_next hselv
  have hfilled : ((redecide v).port p).queue ≠ [] := fun h0 => by
    have hfrags := hnext.frags
    rw [h0] at hfrags
    simp at hfrags
  rw [startProgress_of_queue hfilled] at hexec
  have hend := hnext.handedOver
  refine ⟨_, hexec, (handover_classes p _).trans (hnextc.trans hclasses), ?_, ?_, ?_, ?_, ?_⟩
  · rw [hend.disp, hdisp, hframe.event.cfg]
  · rw [hend.frags, happ.queue, hdisp]
  · rw [hend.usedOut, happ.cells]
  · rw [hend.frames, State.counter, happ.counters]
    rfl
  · rw [hend.holds, State.counter, happ.counters]
    rfl

/-- Settles O52: the selection by `selectFrame_spec`, and the entry given by `taken_places_last`. -/
theorem framesAreSelectedByAgeAndPriority : Obligations.FramesAreSelectedByAgeAndPriority := by
  unfold Obligations.FramesAreSelectedByAgeAndPriority
  refine ⟨fun s => ⟨selectFrame_of_empty, selectFrame_spec s⟩, ?_⟩
  intro s p n e queued plan ref f s' hf hp hlaw hres hq hlen he hn hactive halone hack hjoin hleave hren hrate href hdist
    hsplit hheld hmid hlast hroom hsel
  exact taken_places_last hf hp hlaw hres hq hlen he hn hactive halone hack hjoin hleave hren hrate href hdist hsplit hheld
    hmid hlast hroom hsel

end Sys2Proof.Machine

/-! PROOFS. A request that is ready is taken, judged and answered (R173, R174): the reply, the operands of the pair
requests, and what the answer leaves of the rest of the part. -/

namespace Sys2Proof.Machine

variable {p : PairNo} {s t : State}

/-! ### Intake and reply (R173, R174) -/

/-- A state with the reply to a request at the tail of its output queue. -/
def State.replied (m : Message) (status : Status) (result : List Octet) (s : State) : State :=
  pushOut (replyTo m { state := s, status := status, result := result }) s

/-- The state after a request, by its answer. -/
def Answer.placed (m : Message) (a : Answer) : State := a.state.replied m a.status a.result

/-- A request that is ready is judged on the state without its message, and its answer is placed. -/
theorem intake_of_ready {m : Message} (h : ReadyFor m s) (judge : State → Answer) :
    intake m judge s = (judge (removeHead s)).placed m :=
  intake_of_takeable (takeable_iff.2 h)

/-- A refused request leaves the state of the statements: its message taken and the reply made. -/
theorem refuse_placed (m : Message) (why : Status) (s : State) :
    (refuse why (removeHead s)).placed m = answered m why.code [] s := rfl

/-- A request that only changes a pair's record: the change and the reply go together in either order. -/
theorem done_modPair_placed (m : Message) (f : Pair → Pair) (s : State) :
    (done [] ((removeHead s).modPair p f)).placed m = answered m 0 [] (s.modPair p f) := rfl

@[simp] theorem replied_pair (m : Message) (status : Status) (result : List Octet) (s : State) (q : PairNo) :
    (s.replied m status result).pair q = s.pair q := rfl

@[simp] theorem replied_port (m : Message) (status : Status) (result : List Octet) (s : State) (q : PairNo) :
    (s.replied m status result).port q = s.port q := rfl

@[simp] theorem replied_now (m : Message) (status : Status) (result : List Octet) (s : State) :
    (s.replied m status result).now = s.now := rfl

/-- What an act leaves alone is left alone between the answers made before and after it. -/
theorem LifeFrame.replied (h : LifeFrame p s t) (m : Message) (status : Status) (result : List Octet) :
    LifeFrame p (s.replied m status result) (t.replied m status result) := by
  obtain ⟨⟨hpending, hmgmt, hcfg, hrules, horder, hlan⟩, hpairs, hports⟩ := h
  refine ⟨⟨hpending, ?_, hcfg, hrules, horder, hlan⟩, hpairs, hports⟩
  simp only [State.replied, pushOut, State.modMgmt, replyTo]
  rw [hmgmt]

/-! ### Operands of the pair requests (R184) -/

theorem field_zero_one (o : Octet) (l : List Octet) : field (o :: l) 0 1 = o.toNat := by simp [field]

theorem field_one_one (o d : Octet) : field [o, d] 1 1 = d.toNat := by simp [field]

theorem pairOf_of_gt {n : Nat} (h : 7 < n) : pairOf n = none := dif_neg (by omega)

theorem modeOf_mode (abort : Bool) : modeOf (if abort then (2 : Octet) else 1).toNat = some abort := by
  cases abort <;> rfl

theorem modeOf_of_ne {d : Octet} (h1 : d ≠ 1) (h2 : d ≠ 2) : modeOf d.toNat = none := by
  have hne1 : d.toNat ≠ 1 := fun h => h1 (BitVec.eq_of_toNat_eq h)
  have hne2 : d.toNat ≠ 2 := fun h => h2 (BitVec.eq_of_toNat_eq h)
  unfold modeOf
  split <;> simp_all

/-- A pair number and a mode of which one names nothing. -/
theorem pairOf_or_modeOf_none {o d : Octet} (h : 7 < o.toNat ∨ (d ≠ 1 ∧ d ≠ 2)) :
    pairOf o.toNat = none ∨ modeOf d.toNat = none :=
  h.imp pairOf_of_gt fun ⟨h1, h2⟩ => modeOf_of_ne h1 h2

/-- A request judged on its pair alone is refused where its number names none. -/
theorem withPair_of_gt {o : Octet} (h : 7 < o.toNat) (l : List Octet) (judge : PairNo → State → Answer) (s : State) :
    withPair (o :: l) judge s = refuse .refusedRange s := by
  rw [withPair, field_zero_one, pairOf_of_gt h]

/-- A request judged on its pair alone is refused at or above the fitted count, and carried out below it. -/
theorem withPair_of_pair (p : PairNo) (l : List Octet) (judge : PairNo → State → Answer) (s : State) :
    withPair (BitVec.ofNat 8 p.val :: l) judge s =
      if p.val < s.mgmt.fitted then judge p s else refuse .refusedState s := by
  rw [withPair, field_zero_one, toNat_ofNat_pair, pairOf_val]
  simp [State.isFitted]

/-! ### PROBE-PAIR (R69) -/

theorem exec_probePair {tag : Octet} {body : List Octet} (hb : body.length = 2) (h : ReadyFor ⟨0x13, tag, body⟩ s) :
    exec (.probePair tag body) s = .next ((judgeProbePair body (removeHead s)).placed ⟨0x13, tag, body⟩) := by
  show Host.Outcome.next (intake _ (withLength 2 body (judgeProbePair body)) s) = _
  rw [intake_of_ready h, withLength_eq hb]

/-- The two verdicts and the seconds remaining, as PROBE-PAIR returns them. -/
theorem judgeProbePair_of_pair (p : PairNo) (abort : Bool) (s : State) :
    judgeProbePair [BitVec.ofNat 8 p.val, if abort then 2 else 1] s =
      done (be1 (enableVerdict s p).code ++ be1 (disableVerdict s p abort).code ++ be2 (penaltySeconds s p)) s := by
  rw [judgeProbePair, field_zero_one, toNat_ofNat_pair, pairOf_val, field_one_one, modeOf_mode]

theorem judgeProbePair_refused {o d : Octet} (h : 7 < o.toNat ∨ (d ≠ 1 ∧ d ≠ 2)) (s : State) :
    judgeProbePair [o, d] s = refuse .refusedRange s := by
  rw [judgeProbePair, field_zero_one, field_one_one]
  obtain h | h := pairOf_or_modeOf_none h <;> rw [h]
  cases pairOf o.toNat <;> rfl

/-- A PROBE-PAIR that is ready returns the verdicts and seconds that the state gives (R69). -/
theorem probePair_gives {tag : Octet} {abort : Bool} {enable disable : Verdict} {seconds : Nat}
    (h : ReadyFor ⟨0x13, tag, [BitVec.ofNat 8 p.val, if abort then 2 else 1]⟩ s)
    (henable : enableVerdict s p = enable) (hdisable : disableVerdict s p abort = disable)
    (hseconds : penaltySeconds s p = seconds) :
    exec (.probePair tag [BitVec.ofNat 8 p.val, if abort then 2 else 1]) s =
      .next (answered ⟨0x13, tag, [BitVec.ofNat 8 p.val, if abort then 2 else 1]⟩ 0
        ([BitVec.ofNat 8 enable.code, BitVec.ofNat 8 disable.code] ++ be2 seconds) s) := by
  rw [exec_probePair rfl h, judgeProbePair_of_pair, ← henable, ← hdisable, ← hseconds]
  rfl

/-- Outside QUARANTINE no seconds remain [31]. -/
theorem penaltySeconds_of_ne (h : (s.pair p).state ≠ .quarantine) : penaltySeconds s p = 0 := if_neg h

/-- In QUARANTINE the seconds to the end of the penalty remain, rounded up. -/
theorem penaltySeconds_of_penalty {d : Nat} (h : (s.pair p).state = .quarantine)
    (hd : (s.pair p).stateTimer = some (.penalty, d)) : penaltySeconds s p = (d - s.now + 999) / 1000 := by
  rw [penaltySeconds, if_pos h, State.timeLeft, hd]
  rfl

/-- Settles O13: the verdicts by the pair's state, row by row of the table. -/
theorem probePairGivesTheVerdicts : Obligations.ProbePairGivesTheVerdicts := by
  unfold Obligations.ProbePairGivesTheVerdicts
  refine ⟨fun s tag p abort => ?_, fun s tag o d h hready => ?_⟩
  · intro body gives hready
    have key : ∀ {enable disable : Verdict} {seconds : Nat}, enableVerdict s p = enable →
        disableVerdict s p abort = disable → penaltySeconds s p = seconds →
        gives (BitVec.ofNat 8 enable.code) (BitVec.ofNat 8 disable.code) seconds := probePair_gives hready
    refine ⟨fun hfit => ?_, fun hfit => ?_⟩
    · have hno : s.isFitted p = false := decide_eq_false (by omega)
      refine key (enable := .notFitted) (disable := .notFitted) (by simp [enableVerdict, hno])
        (by simp [disableVerdict, hno]) ?_
      by_cases hq : (s.pair p).state = .quarantine
      · rw [if_pos hq]
      · rw [if_neg hq, penaltySeconds_of_ne hq]
    · have hyes : s.isFitted p = true := decide_eq_true hfit
      have none_left : (s.pair p).state ≠ .quarantine → penaltySeconds s p = 0 := penaltySeconds_of_ne
      refine ⟨fun h => ?_, fun h => ?_, fun h => ?_, fun h => ?_, fun h hr => ?_, fun h hr hf => ?_, fun h hr hf => ?_,
        fun d h hd => ?_, fun h => ?_⟩
      · exact key (enable := .vacant) (disable := .vacant) (by simp [enableVerdict, hyes, h])
          (by simp [disableVerdict, hyes, h]) (none_left (by simp [h]))
      · have := key (seconds := 0) rfl rfl (none_left (by simp [h]))
        simp only [enableVerdict, disableVerdict, hyes, h, Bool.not_true, Bool.false_eq_true, if_false] at this
        cases hrel : s.mgmt.released <;> cases hen : (s.pair p).enabled <;>
          simpa [hrel, hen, Verdict.code] using this
      · obtain h | h | h := h <;>
          exact key (enable := .already) (disable := .wouldPark) (by simp [enableVerdict, hyes, h])
            (by simp [disableVerdict, hyes, h]) (none_left (by simp [h]))
      · exact key (enable := .already) (disable := .wouldLeave) (by simp [enableVerdict, hyes, h])
          (by simp [disableVerdict, hyes, h]) (none_left (by simp [h]))
      · exact key (enable := .already) (disable := .wouldLeave) (by simp [enableVerdict, hyes, h, hr])
          (by simp [disableVerdict, hyes, h, hr]) (none_left (by simp [h]))
      · cases abort
        · exact key (enable := .busy) (disable := .busy) (by simp [enableVerdict, hyes, h, hr])
            (by simp [disableVerdict, hyes, h, hr]) (none_left (by simp [h]))
        · exact key (enable := .busy) (disable := .wouldLeave) (by simp [enableVerdict, hyes, h, hr])
            (by simp [disableVerdict, hyes, h, hr, hf]) (none_left (by simp [h]))
      · exact key (enable := .busy) (disable := .busy) (by simp [enableVerdict, hyes, h, hr])
          (by simp [disableVerdict, hyes, h, hr, hf]) (none_left (by simp [h]))
      · exact key (enable := .quarantined) (disable := .wouldPark) (by simp [enableVerdict, hyes, h])
          (by simp [disableVerdict, hyes, h]) (penaltySeconds_of_penalty h hd)
      · exact key (enable := .faulted) (disable := .faulted) (by simp [enableVerdict, hyes, h])
          (by simp [disableVerdict, hyes, h]) (none_left (by simp [h]))
  · rw [exec_probePair rfl hready, judgeProbePair_refused h]
    rfl

/-! ### ENABLE-PAIR (R66) -/

/-- Two changes of a pair's record are one. -/
theorem modPair_modPair (f g : Pair → Pair) (s : State) :
    (s.modPair p f).modPair p g = s.modPair p fun r => g (f r) := by
  simp [State.modPair, State.setPair, State.pair]

theorem exec_enablePair {tag : Octet} {body : List Octet} (hb : body.length = 1) (h : ReadyFor ⟨0x11, tag, body⟩ s) :
    exec (.enablePair tag body) s =
      .next ((withPair body judgeEnablePair (removeHead s)).placed ⟨0x11, tag, body⟩) := by
  show Host.Outcome.next (intake _ (withLength 1 body (withPair body judgeEnablePair)) s) = _
  rw [intake_of_ready h, withLength_eq hb]

/-- ENABLE-PAIR on a leave for the host is busy (R66). -/
theorem judgeEnablePair_busy (h : (s.pair p).state = .leaving) (hr : (s.pair p).reason = .host) :
    judgeEnablePair p s = refuse .refusedBusy s := if_pos ⟨h, hr⟩

/-- ENABLE-PAIR sets the flag and leaves a pair that is not PARKED where it is (R66). -/
theorem judgeEnablePair_stays (h : (s.pair p).state ≠ .parked)
    (hr : (s.pair p).state ≠ .leaving ∨ (s.pair p).reason ≠ .host) :
    judgeEnablePair p s = done [] (s.modPair p fun r => { r with enabled := true }) := by
  have hbusy : ¬((s.pair p).state = .leaving ∧ (s.pair p).reason = .host) := by tauto
  simp [judgeEnablePair, hbusy, h]

/-- ENABLE-PAIR makes the start test of a PARKED pair, its flag set (R66, R41). -/
theorem judgeEnablePair_parked (h : (s.pair p).state = .parked) :
    judgeEnablePair p s = done [] (startParked p (s.modPair p fun r => { r with enabled := true })) := by
  simp [judgeEnablePair, h]

/-- A PARKED pair that is enabled before RELEASE stays, NOT-RELEASED (R41). -/
theorem startParked_not_released (h : s.mgmt.released = false) :
    startParked p (s.modPair p fun r => { r with enabled := true }) =
      s.modPair p fun r => { r with enabled := true, reason := .notReleased } := by
  rw [startParked, if_neg (by simp [State.startTest, h]), setReason, pair_modPair, modPair_modPair]
  rfl

/-- The state that a passed start test gives a PARKED pair, and the order it brings (R41, R19). -/
theorem startParked_started (h : s.startTest p = true) :
    ((startParked p s).pair p).enabled = true ∧
    ((s.port p).guard = .clear →
      ((startParked p s).pair p).state = .training ∧ ((startParked p s).pair p).reason = .host ∧
      ((startParked p s).port p).order = .train ∧ ((startParked p s).port p).sent =
        (s.port p).sent ++ if (s.port p).order = .train then [] else [.order .train]) ∧
    ((s.port p).guard = .active →
      ((startParked p s).pair p).state = .faulted ∧ ((startParked p s).pair p).reason = .fault ∧
      ((startParked p s).port p).order = .quiet ∧ ((startParked p s).port p).sent =
        (s.port p).sent ++ if (s.port p).order = .quiet then [] else [.order .quiet]) := by
  have hen : (s.pair p).enabled = true := (startTest_iff.1 h).1
  have entered {new : PairState} (hnew : new.gateOpen = false) (why : Reason) :
      ((enter p new why s).pair p).enabled = true := (enter_kept hnew p why s).enabled.trans hen
  cases hg : (s.port p).guard with
  | active =>
    have heq : startParked p s = enter p .faulted .fault s := by simp [startParked, h, hg]
    rw [heq]
    exact ⟨entered rfl _, nofun, fun _ => ⟨(enter_state ..).1, (enter_state ..).2, enter_order .., enter_sent rfl ..⟩⟩
  | clear =>
    have heq : startParked p s = enter p .training .host s := by simp [startParked, h, hg]
    rw [heq]
    exact ⟨entered rfl _, fun _ => ⟨(enter_state ..).1, (enter_state ..).2, enter_order .., enter_sent rfl ..⟩, nofun⟩

/-- Settles O24: the table of R66, row by row; a started pair makes its entry from the state with the flag set. -/
theorem enablePairFollowsItsTable : Obligations.EnablePairFollowsItsTable := by
  unfold Obligations.EnablePairFollowsItsTable
  refine ⟨fun s tag o ho hready => ?_, fun s tag p => ?_⟩
  · rw [exec_enablePair rfl hready, withPair_of_gt ho]
    rfl
  · intro body m hready
    have hexec := exec_enablePair (tag := tag) (body := body) rfl hready
    rw [withPair_of_pair p [] judgeEnablePair (removeHead s)] at hexec
    refine ⟨fun hfit => ?_, fun hfit => ?_⟩
    · rw [hexec, if_neg (show ¬p.val < (removeHead s).mgmt.fitted from Nat.not_lt.2 hfit), refuse_placed]
      rfl
    · rw [if_pos (show p.val < (removeHead s).mgmt.fitted from hfit)] at hexec
      refine ⟨fun h hr => ?_, fun h hr => ?_, fun h hrel => ?_, fun h hrel => ?_⟩
      · rw [hexec, judgeEnablePair_busy (s := removeHead s) h hr, refuse_placed]
        rfl
      · rw [hexec, judgeEnablePair_stays (s := removeHead s) h hr, done_modPair_placed]
      · rw [hexec, judgeEnablePair_parked (s := removeHead s) h, startParked_not_released (s := removeHead s) hrel,
          done_modPair_placed]
      · rw [judgeEnablePair_parked (s := removeHead s) h] at hexec
        have htest : ((removeHead s).modPair p fun r => { r with enabled := true }).startTest p = true := by
          rw [startTest_iff, pair_modPair]
          exact ⟨rfl, hrel⟩
        obtain ⟨hen, hclear, hactive⟩ := startParked_started htest
        have hframe := (modPair_frame p (fun r => { r with enabled := true }) (removeHead s)).trans
          (startParked_frame p ((removeHead s).modPair p fun r => { r with enabled := true }))
        exact ⟨_, hexec, hen, hclear, hactive, hframe.life.replied m .ok [], hframe.now⟩

end Sys2Proof.Machine

/-! PROOFS. The pair timers (O44, O45, O47): a control fragment placed or made to wait, entry to JOINING and to QUARANTINE
seen at the pair, and the expiries that bring them (R6, R8, R45, R47, R48, R52, R54, R63). -/

namespace Sys2Proof.Machine

variable {p : PairNo} {s t u : State}

/-! ### A JOIN or a JOIN-ACK placed (R47, R48) -/

theorem buildJoin_size (p : PairNo) (s : State) : (buildJoin p s).size = 12 := rfl

theorem joinAck_size (bond : BitVec 16) (echo : PairNo) (result : JoinResult) :
    (Fragment.joinAck bond echo result).size = 12 := rfl

/-- A JOIN that finds room is placed and sets the outbound reference; one that finds none waits (R8, R47, R48). -/
theorem placeJoin_at (p : PairNo) (s : State) :
    (placeJoin p s).port p = (if (s.port p).hasRoom 12 then
      ((s.port p).append [buildJoin p s]).handAll (s.pair p).state.gateOpen else s.port p) ∧
    (placeJoin p s).pair p = (if (s.port p).hasRoom 12 then
      { s.pair p with progressTimer := none, outRef := some s.disp.next, waitJoin := false }
      else { s.pair p with waitJoin := true }) := by
  unfold placeJoin
  cases hr : (s.port p).hasRoom 12 with
  | true =>
    rw [place_of_room (buildJoin_size p s ▸ hr)]
    exact ⟨(port_modPair p p _ _).trans (stage_port_self p _ s), by
      rw [pair_modPair, stage_pair]
      rfl⟩
  | false =>
    rw [place_of_full (buildJoin_size p s ▸ hr)]
    exact ⟨rfl, pair_modPair ..⟩

/-- A JOIN-ACK that finds room is placed; one that finds none waits (R48). -/
theorem placeAck_at (p echo : PairNo) (result : JoinResult) (s : State) :
    (placeAck p echo result s).port p = (if (s.port p).hasRoom 12 then
      ((s.port p).append [.joinAck s.mgmt.bondId echo result]).handAll (s.pair p).state.gateOpen else s.port p) ∧
    (placeAck p echo result s).pair p = (if (s.port p).hasRoom 12 then
      { s.pair p with progressTimer := none, waitAck := none } else { s.pair p with waitAck := some (echo, result) }) := by
  unfold placeAck
  cases hr : (s.port p).hasRoom 12 with
  | true =>
    rw [place_of_room (joinAck_size _ _ _ ▸ hr)]
    exact ⟨(port_modPair p p _ _).trans (stage_port_self p _ s), by
      rw [pair_modPair, stage_pair]
      rfl⟩
  | false =>
    rw [place_of_full (joinAck_size _ _ _ ▸ hr)]
    exact ⟨rfl, pair_modPair ..⟩

theorem placeJoin_delivery (p : PairNo) (s : State) : DeliveryKept s (placeJoin p s) := by
  unfold placeJoin
  split
  · exact (place_delivery ‹_›).trans (modPair_delivery p _ _)
  · exact modPair_delivery p _ s

theorem placeAck_delivery (p echo : PairNo) (result : JoinResult) (s : State) :
    DeliveryKept s (placeAck p echo result s) := by
  unfold placeAck
  split
  · exact (place_delivery ‹_›).trans (modPair_delivery p _ _)
  · exact modPair_delivery p _ s

/-- A fragment appended and handed over stands behind what the queue held, whatever the handover marks (R25, R27). -/
theorem appended_frags (x : Port) (fs : List Fragment) (gate : Bool) :
    ((x.append fs).handAll gate).queue.map (·.frag) = x.queue.map (·.frag) ++ fs := by
  rw [(Port.handAll_keeps _ _).1]
  simp [Port.append, Function.comp_def]

/-- Room by the entries and octets of the queue. -/
theorem hasRoom_congr {x y : Port} (hq : y.queue.map (·.frag) = x.queue.map (·.frag)) (hb : y.backlog = x.backlog)
    (c : Nat) : y.hasRoom c = x.hasRoom c := by
  have hlen : y.queue.length = x.queue.length := by simpa using congrArg List.length hq
  simp [Port.hasRoom, hlen, hb]

/-! ### Entry to JOINING (R47) -/

/-- What entry to JOINING leaves of the port before its JOIN is placed, and the room the JOIN finds there. -/
def State.joiningPort (s : State) (p : PairNo) : Port := (s.port p).entered (s.pair p).state .joining

/-- The JOIN of an entry to JOINING. -/
def State.joinNow (s : State) (p : PairNo) : Fragment := .join s.disp.next s.mgmt.bondId p s.mgmt.epoch

theorem EventFrame.ids (h : EventFrame s t) : t.mgmt.bondId = s.mgmt.bondId ∧ t.mgmt.epoch = s.mgmt.epoch := by
  rw [h.mgmt]
  exact ⟨rfl, rfl⟩

/-- Entry to JOINING starts both timers, and its JOIN is placed or waits by the room of the port it has entered (R47). -/
theorem enterJoining_at (p : PairNo) (why : Reason) (s : State) :
    (enterJoining p why s).port p = (if (s.joiningPort p).hasRoom 12 then
      ((s.joiningPort p).append [s.joinNow p]).handAll true else s.joiningPort p) ∧
    (enterJoining p why s).pair p = { (s.pair p).entered .joining why with
      counters := ((enter p .joining why s).pair p).counters,
      stateTimer := some (.join, s.now + s.cfg.joinTimeout * 1000), joinRepeat := some (s.now + 500),
      outRef := if (s.joiningPort p).hasRoom 12 then some s.disp.next else (s.pair p).outRef,
      waitJoin := !(s.joiningPort p).hasRoom 12 } := by
  have hframe := enter_frame p .joining why s
  obtain ⟨hport, hpair⟩ := placeJoin_at p (startTimer p .join (s.cfg.joinTimeout * 1000) (enter p .joining why s))
  have hv : (startTimer p .join (s.cfg.joinTimeout * 1000) (enter p .joining why s)).port p = s.joiningPort p :=
    enter_port p .joining why s
  have hnext : (startTimer p .join (s.cfg.joinTimeout * 1000) (enter p .joining why s)).disp.next = s.disp.next :=
    hframe.next
  have hjoin : buildJoin p (startTimer p .join (s.cfg.joinTimeout * 1000) (enter p .joining why s)) = s.joinNow p := by
    rw [buildJoin, State.joinNow, hnext]
    exact congrArg₂ (Fragment.join s.disp.next · p ·) hframe.event.ids.1 hframe.event.ids.2
  have hrec : (startTimer p .join (s.cfg.joinTimeout * 1000) (enter p .joining why s)).pair p =
      { (s.pair p).entered .joining why with counters := ((enter p .joining why s).pair p).counters,
                                             stateTimer := some (.join, s.now + s.cfg.joinTimeout * 1000) } := by
    rw [startTimer, pair_modPair, hframe.now]
    conv => lhs; rw [enter_record]
  rw [hv, hjoin, hrec] at hport
  rw [hv, hnext, hrec] at hpair
  rw [enterJoining, port_modPair, pair_modPair, hport, hpair]
  refine ⟨rfl, ?_⟩
  cases (s.joiningPort p).hasRoom 12 <;> rfl

theorem enterJoining_delivered (p : PairNo) (why : Reason) (s : State) :
    DeliveryKept (enter p .joining why s) (enterJoining p why s) :=
  ((modPair_delivery p _ _).trans (placeJoin_delivery p _)).trans (modPair_delivery p _ _)

theorem enterJoining_told (p : PairNo) (why : Reason) (s : State) : StateTold p 1 s (enterJoining p why s) :=
  (enter_told p .joining why s).of_eq_right ((enterJoining_delivered p why s).notices _ rfl)

/-- A pair that enters JOINING from SETTLING keeps its line queue (R39). -/
theorem joiningPort_of_settling (h : (s.pair p).state = .settling) :
    (s.joiningPort p).queue.map (·.frag) = (s.port p).queue.map (·.frag) ∧
    (s.joiningPort p).backlog = (s.port p).backlog := by
  have hx : s.joiningPort p = ((s.port p).ordered .train).handAll true := by
    rw [State.joiningPort, h]
    rfl
  obtain ⟨hq, ht⟩ := Port.ordered_queue .train (s.port p)
  rw [hx, (Port.handAll_keeps _ _).1, Port.handAll_backlog, hq]
  exact ⟨rfl, by rw [Port.backlog, hq, ht, Port.backlog]⟩

/-! ### The holdoff (R45) -/

/-- The holdoff served, before the rate test. -/
def heldOff (p : PairNo) (d : Nat) (s : State) : State := (s.reach d).modPair p fun r => { r with stateTimer := none }

theorem exec_holdoff {d : Nat} (h : (s.pair p).stateTimer = some (.holdoff, d)) :
    exec (.holdoffTimerExpiry p) s = .next (redecide (settlingRateTest p (heldOff p d s))) := by
  simp only [exec, execHoldoffTimerExpiry, h]
  rfl

theorem heldOff_life (p : PairNo) (d : Nat) (s : State) : LifeFrame p s (heldOff p d s) :=
  (reach_frame p d s).trans (modPair_frame p _ _).life

theorem heldOff_pair (p : PairNo) (d : Nat) (s : State) :
    (heldOff p d s).pair p = { s.pair p with stateTimer := none } := pair_modPair ..

/-- Settles O44: the rate test after the holdoff; the JOIN of a usable pair finds the room its queue has. -/
theorem holdoffExpiryTestsTheRate : Obligations.HoldoffExpiryTestsTheRate := by
  unfold Obligations.HoldoffExpiryTestsTheRate
  intro s p d hsettling htimer rate room
  have hexec := exec_holdoff htimer
  have hlife := heldOff_life p d s
  have hpair := heldOff_pair p d s
  have hport : (heldOff p d s).port p = s.port p := rfl
  have hnow : (heldOff p d s).now = max s.now d := rfl
  have hnext : (heldOff p d s).disp = s.disp := rfl
  have hcfg : (heldOff p d s).cfg = s.cfg := rfl
  have hmgmt : (heldOff p d s).mgmt = s.mgmt := rfl
  generalize heldOff p d s = u at *
  have hstate : (u.pair p).state = .settling := by rw [hpair]; exact hsettling
  have husable : u.usable p = decide (64 ≤ rate) := by
    rw [State.usable, State.effUp, hport, hpair]
    rfl
  have hidle : (settlingRateTest p u).isActive p = false := by
    unfold settlingRateTest
    split
    · rw [State.isActive, (enterJoining_pair ..).1]
      rfl
    · rw [State.isActive, setReason, pair_modPair, hstate]
      rfl
  obtain ⟨htpair, htport⟩ := (redecide_frame _).idle p hidle
  refine ⟨_, hexec, ((redecide_frame _).now.trans (settlingRateTest_frame p u).now).trans hnow,
    (hlife.trans (settlingRateTest_frame p u).life).trans (redecide_life p _), fun hslow => ?_, fun hfast => ?_⟩
  · have hu : settlingRateTest p u = setReason p .lowRate u := by
      rw [settlingRateTest, husable, if_neg (by simpa using hslow)]
    rw [htpair, (redecide_delivery _).notices _ rfl, hu, setReason, pair_modPair, hpair]
    refine ⟨hsettling, rfl, rfl, ?_⟩
    simp [State.occurrences, hmgmt]
  · have hu : settlingRateTest p u = enterJoining p (s.pair p).reason u := by
      rw [settlingRateTest, husable, if_pos (by simpa using hfast), hpair]
    obtain ⟨hvport, hvpair⟩ := enterJoining_at p (s.pair p).reason u
    obtain ⟨hfrags, hbacklog⟩ := joiningPort_of_settling hstate
    rw [hport] at hfrags hbacklog
    have hroom : (u.joiningPort p).hasRoom 12 = true ↔ room := by
      rw [hasRoom_congr hfrags hbacklog, Port.hasRoom_iff]
    have hjoin : u.joinNow p = .join s.disp.next s.mgmt.bondId p s.mgmt.epoch := by
      rw [State.joinNow, hnext, hmgmt]
    rw [hu] at htpair htport ⊢
    rw [hvport] at htport
    rw [hvpair, hnow, hcfg, hnext] at htpair
    have htold : StateTold p 1 s (redecide (enterJoining p (s.pair p).reason u)) :=
      ((enterJoining_told p _ u).of_eq_left (by simp [State.occurrences, hmgmt]) (by rw [hmgmt])).of_eq_right
        ((redecide_delivery _).notices _ rfl)
    rw [htpair, htport]
    refine ⟨rfl, rfl, htold, rfl, rfl, rfl, fun hr => ?_, fun hr => ?_⟩
    · rw [hroom.2 hr]
      refine ⟨rfl, rfl, ?_⟩
      rw [if_pos rfl, appended_frags, hfrags, hjoin]
    · rw [Bool.eq_false_iff.2 (mt hroom.1 hr)]
      exact ⟨rfl, hfrags⟩

/-! ### Entry to QUARANTINE (R63) -/

/-- Pair `p` has entered QUARANTINE between `s` and `t` for a reason, and its penalty runs from the time of `t`. -/
structure Quarantined (p : PairNo) (why : Reason) (s t : State) : Prop where
  state : (t.pair p).state = .quarantine
  reason : (t.pair p).reason = why
  flaps : (t.pair p).flaps = []
  timer : (t.pair p).stateTimer = some (.penalty, s.now + s.cfg.penalty * 1000)
  counted : (t.pair p).counter .quarantines = countUp ((s.pair p).counter .quarantines) 1
  order : (t.port p).order = .quiet
  queue : (t.port p).queue = []
  mark : t.mark p = none
  told : StateTold p 1 s t

theorem quarantine_quarantined (p : PairNo) (why : Reason) (s : State) : Quarantined p why s (quarantine p why s) := by
  have hpair : (quarantine p why s).pair p = { ((enter p .quarantine why s).pair p).countBy .quarantines 1 with
      flaps := [], stateTimer := some (.penalty, s.now + s.cfg.penalty * 1000) } := by
    rw [quarantine, startTimer, pair_modPair, State.countPair, State.countPairBy, pair_modPair, pair_modPair,
      modPair_now, modPair_now, (enter_frame ..).now]
    rfl
  have hport : (quarantine p why s).port p = (enter p .quarantine why s).port p := rfl
  refine ⟨?_, ?_, ?_, ?_, ?_, ?_, ?_, ?_, ?_⟩
  · rw [hpair]
    exact (enter_state ..).1
  · rw [hpair]
    exact (enter_state ..).2
  · rw [hpair]
  · rw [hpair]
  · rw [hpair]
    exact (pair_counter_countBy ..).trans (congrArg (countUp · 1) (enter_counter p _ why s (by decide)))
  · rw [hport, enter_order]
    rfl
  · rw [hport, enter_closed_queue p _ why s rfl]
  · exact enter_mark (new := .quarantine) rfl p why s
  · exact (enter_told p .quarantine why s).of_eq_right rfl

/-- A re-decision finds the pair in QUARANTINE and leaves it there. -/
theorem Quarantined.redecide {why : Reason} (h : Quarantined p why s t) : Quarantined p why s (redecide t) := by
  obtain ⟨hstate, hreason, hflaps, htimer, hcount, horder, hqueue, hmark, htold⟩ := h
  obtain ⟨hpair, hport⟩ := (redecide_frame t).idle p (by simp [State.isActive, hstate])
  refine ⟨?_, ?_, ?_, ?_, ?_, ?_, ?_, ?_, ?_⟩
  · rw [hpair, hstate]
  · rw [hpair, hreason]
  · rw [hpair, hflaps]
  · rw [hpair, htimer]
  · rw [hpair, hcount]
  · rw [hport, horder]
  · rw [hport, hqueue]
  · rw [(redecide_delivery t).mark, hmark]
  · exact htold.of_eq_right ((redecide_delivery t).notices _ rfl)

/-! ### The join repeat, join and penalty timers (R47, R52, R63) -/

/-- A JOIN that is STAGED in the queue or waits (R47). -/
theorem joinOutstanding_iff (s : State) (p : PairNo) :
    s.joinOutstanding p = true ↔ (s.pair p).waitJoin = true ∨
      ∃ e ∈ (s.port p).queue, e.handed = false ∧ ∃ m b q x, e.frag = .join m b q x := by
  have hjoin : ∀ f : Fragment, (match f with | .join .. => true | _ => false) = true ↔ ∃ m b q x, f = .join m b q x := by
    intro f
    cases f <;> simp
  simp only [State.joinOutstanding, Bool.or_eq_true, List.any_eq_true, Bool.and_eq_true, Bool.not_eq_true']
  exact or_congr_right (exists_congr fun e => and_congr_right fun _ => and_congr_right fun _ => hjoin e.frag)

/-- The join repeat timer started again at its expiry. -/
def joinRepeated (p : PairNo) (d : Nat) (s : State) : State :=
  (s.reach d).modPair p fun r => { r with joinRepeat := some ((s.reach d).now + 500) }

theorem exec_joinRepeat {d : Nat} (h : (s.pair p).joinRepeat = some d) :
    exec (.joinRepeatTimerExpiry p) s = .next (
      if (joinRepeated p d s).joinOutstanding p then joinRepeated p d s
      else if ((joinRepeated p d s).port p).hasRoom 12 then resume p (placeJoin p (joinRepeated p d s))
      else placeJoin p (joinRepeated p d s)) := by
  simp only [exec, execJoinRepeatTimerExpiry, h]
  rfl

theorem joinRepeated_outstanding (p : PairNo) (d : Nat) (s : State) :
    (joinRepeated p d s).joinOutstanding p = s.joinOutstanding p := by
  simp only [State.joinOutstanding, joinRepeated, pair_modPair]
  rfl

theorem exec_joinTimer {d : Nat} (h : (s.pair p).stateTimer = some (.join, d)) :
    exec (.joinTimerExpiry p) s = .next (redecide (quarantine p .joinTimeout (s.reach d))) := by
  simp only [exec, execJoinTimerExpiry, h]

theorem exec_penaltyTimer {d : Nat} (h : (s.pair p).stateTimer = some (.penalty, d)) :
    exec (.penaltyTimerExpiry p) s = .next (redecide (restart p (s.reach d))) := by
  simp only [exec, execPenaltyTimerExpiry, h]

/-- The pair goes on by its start test: to TRAINING with its reason kept, or to PARKED (R41). -/
theorem restart_cases (p : PairNo) (s : State) :
    ((s.pair p).enabled = true ∧ s.mgmt.released = true ∧ restart p s = enter p .training (s.pair p).reason s) ∨
    (¬((s.pair p).enabled = true ∧ s.mgmt.released = true) ∧ restart p s = park p s) := by
  by_cases h : s.startTest p = true
  · exact .inl ⟨(startTest_iff.1 h).1, (startTest_iff.1 h).2, if_pos h⟩
  · exact .inr ⟨mt startTest_iff.2 h, if_neg h⟩

/-- The join repeat timer's part of O45: a further JOIN, unless one is STAGED or waiting. -/
theorem joinRepeat_expires {d : Nat} (hd : (s.pair p).joinRepeat = some d) :
    let room := (s.port p).queue.length < 4 ∧ (s.port p).backlog + 12 ≤ 3072
    ((s.joinOutstanding p = true → exec (.joinRepeatTimerExpiry p) s = .next (joinRepeated p d s)) ∧
    (s.joinOutstanding p = false → ¬room → exec (.joinRepeatTimerExpiry p) s =
      .next ((joinRepeated p d s).modPair p fun r => { r with waitJoin := true })) ∧
    (s.joinOutstanding p = false → room → ∃ t, exec (.joinRepeatTimerExpiry p) s = .next t ∧
      LifeFrame p s t ∧ t.now = max s.now d ∧ (t.pair p).joinRepeat = some (max s.now d + 500) ∧
      (t.pair p).state = (s.pair p).state ∧ (t.pair p).outRef = some s.disp.next ∧
      (t.port p).queue.map (·.frag) =
        (s.port p).queue.map (·.frag) ++ [.join s.disp.next s.mgmt.bondId p s.mgmt.epoch])) := by
  intro room
  have hexec := exec_joinRepeat hd
  have hport : (joinRepeated p d s).port p = s.port p := rfl
  rw [joinRepeated_outstanding, hport] at hexec
  refine ⟨fun h => ?_, fun h hr => ?_, fun h hr => ?_⟩
  · rw [hexec, if_pos h]
  · have hfull : (s.port p).hasRoom 12 = false := Bool.eq_false_iff.2 (mt Port.hasRoom_iff.1 hr)
    rw [hexec, if_neg (by simp [h]), if_neg (by simp [hfull]), placeJoin,
      place_of_full (by rw [buildJoin_size, hport, hfull])]
  · have hroom : (s.port p).hasRoom 12 = true := Port.hasRoom_iff.2 hr
    rw [if_neg (by simp [h]), if_pos hroom] at hexec
    obtain ⟨hrpair, hrport⟩ := resume_pair p (placeJoin p (joinRepeated p d s))
    obtain ⟨hjport, hjpair⟩ := placeJoin_at p (joinRepeated p d s)
    rw [hport, if_pos hroom] at hjport hjpair
    have hframe := placeJoin_frame p (joinRepeated p d s)
    have hrec : (joinRepeated p d s).pair p = { s.pair p with joinRepeat := some (max s.now d + 500) } :=
      pair_modPair ..
    refine ⟨_, hexec, (((reach_frame p d s).trans (modPair_frame p _ _).life).trans hframe.life).trans
      ((resume_frame p _).life p), (resume_frame p _).now.trans hframe.now, ?_, ?_, ?_, ?_⟩
    · rw [hrpair, hjpair, hrec]
    · rw [hrpair, hjpair, hrec]
    · rw [hrpair, hjpair]
      rfl
    · rw [hrport, hjport, appended_frags]
      rfl

/-- The join timer's part of O45: the quarantine. -/
theorem joinTimer_expires {d : Nat} (hd : (s.pair p).stateTimer = some (.join, d)) :
    ∃ t, exec (.joinTimerExpiry p) s = .next t ∧ t.now = max s.now d ∧ LifeFrame p s t ∧
      Quarantined p .joinTimeout (s.reach d) t :=
  ⟨_, exec_joinTimer hd, (redecide_frame _).now.trans (quarantine_frame p _ _).now,
    ((reach_frame p d s).trans (quarantine_frame p _ _).life).trans (redecide_life p _),
    (quarantine_quarantined p .joinTimeout (s.reach d)).redecide⟩

/-- The penalty timer's part of O45: the start test. -/
theorem penaltyTimer_expires {d : Nat} (hd : (s.pair p).stateTimer = some (.penalty, d)) :
    ∃ t, exec (.penaltyTimerExpiry p) s = .next t ∧ t.now = max s.now d ∧ LifeFrame p s t ∧
      (t.pair p).stateTimer = none ∧
      ((s.pair p).enabled = true → s.mgmt.released = true →
        (t.pair p).state = .training ∧ (t.pair p).reason = (s.pair p).reason ∧ (t.port p).order = .train) ∧
      (¬((s.pair p).enabled = true ∧ s.mgmt.released = true) →
        (t.pair p).state = .parked ∧ (t.pair p).reason = (if (s.pair p).enabled then .notReleased else .host) ∧
        (t.port p).order = .quiet) := by
  have hlife := ((reach_frame p d s).trans (restart_frame p (s.reach d)).life).trans (redecide_life p _)
  have hnow := (redecide_frame (restart p (s.reach d))).now.trans (restart_frame p (s.reach d)).now
  have timer (new : PairState) (why : Reason) : ((enter p new why (s.reach d)).pair p).stateTimer = none := by
    rw [enter_record]
    rfl
  obtain ⟨hstate, hreason, horder, -⟩ := redecide_control p (restart p (s.reach d))
  have hidle : (restart p (s.reach d)).isActive p = false := by
    obtain ⟨-, -, h⟩ | ⟨-, h⟩ := restart_cases p (s.reach d) <;>
      rw [h, State.isActive] <;> exact congrArg (· == PairState.active) (enter_state ..).1
  obtain ⟨htpair, -⟩ := (redecide_frame (restart p (s.reach d))).idle p hidle
  refine ⟨_, exec_penaltyTimer hd, hnow, hlife, ?_, fun hen hrel => ?_, fun hno => ?_⟩
  · rw [htpair]
    obtain ⟨-, -, h⟩ | ⟨-, h⟩ := restart_cases p (s.reach d) <;> rw [h] <;> exact timer ..
  · obtain ⟨-, -, h⟩ | ⟨h, -⟩ := restart_cases p (s.reach d)
    · rw [hstate, hreason, horder, h]
      exact ⟨(enter_state ..).1, (enter_state ..).2, enter_order ..⟩
    · exact absurd ⟨hen, hrel⟩ h
  · obtain ⟨hen, hrel, -⟩ | ⟨-, h⟩ := restart_cases p (s.reach d)
    · exact absurd ⟨hen, hrel⟩ hno
    · rw [hstate, hreason, horder, h]
      exact ⟨(enter_state ..).1, (enter_state ..).2, enter_order ..⟩

/-- Settles O45: the three timers, each by its part. -/
theorem joinAndPenaltyTimersExpire : Obligations.JoinAndPenaltyTimersExpire := by
  unfold Obligations.JoinAndPenaltyTimersExpire
  refine ⟨fun s p d hd => ?_, fun s p d => ⟨fun hd => ?_, penaltyTimer_expires⟩⟩
  · intro room staged timed at'
    obtain ⟨hstays, hwaits, hplaced⟩ := joinRepeat_expires hd
    have hout := joinOutstanding_iff s p
    have hnone : (s.pair p).waitJoin = false → ¬staged → s.joinOutstanding p = false := fun hw hs =>
      Bool.eq_false_iff.2 fun h => (hout.1 h).elim (by simp [hw]) hs
    exact ⟨fun h => hstays (hout.2 h), fun hw hs hr => hwaits (hnone hw hs) hr, fun hw hs hr => hplaced (hnone hw hs) hr⟩
  · obtain ⟨t, hexec, hnow, hlife, hq⟩ := joinTimer_expires hd
    exact ⟨t, hexec, hnow, hlife, hq.state, hq.reason, hq.flaps, hq.timer, hq.order, hq.queue, hq.mark, hq.counted⟩

/-! ### The progress timer (R54) -/

/-- A fragment staged changes records and ports only. -/
theorem stage_only (p : PairNo) (f : Fragment) (s : State) :
    stage p f s = { s with pairs := (stage p f s).pairs, ports := (stage p f s).ports } := by
  unfold stage handover
  split <;> rfl

/-- The progress timer stopped at its expiry. -/
def progressDue (p : PairNo) (d : Nat) (s : State) : State :=
  (s.reach d).modPair p fun r => { r with progressTimer := none }

theorem exec_progressTimer {d : Nat} (h : (s.pair p).progressTimer = some d) :
    exec (.progressTimerExpiry p) s = .next (redecide (placeProgress p (progressDue p d s))) := by
  simp only [exec, execProgressTimerExpiry, h]
  rfl

/-- Settles O47: the PROGRESS finds the room that is said, and the handover is that of a lawful queue. -/
theorem progressTimerPlacesAProgress : Obligations.ProgressTimerPlacesAProgress := by
  unfold Obligations.ProgressTimerPlacesAProgress
  intro s p d hd hheld hlen hoct
  have hroom : (s.port p).hasRoom 8 = true := Port.hasRoom_iff.2 ⟨hlen, hoct⟩
  have hplaced : placeProgress p (progressDue p d s) =
      (stage p (.progress s.disp.next) (progressDue p d s)).modPair p fun r => { r with renewal := false } := by
    rw [placeProgress, place_of_room (s := progressDue p d s) (f := .progress (progressDue p d s).disp.next) hroom]
    rfl
  obtain ⟨hport, hpair⟩ := placeProgress_at p (progressDue p d s)
  have hframe := placeProgress_pairFrame p (progressDue p d s)
  have hexec := exec_progressTimer hd
  rw [redecide_of_not_held
    ((congrArg Dispatcher.held (placeProgress_renewalFrame p (progressDue p d s)).disp).trans hheld)] at hexec
  rw [if_pos (show ((progressDue p d s).port p).hasRoom 8 = true from hroom)] at hport hpair
  have hgate : ((progressDue p d s).pair p).state.gateOpen = (s.pair p).state.gateOpen := by
    rw [progressDue, pair_modPair]
    rfl
  rw [hgate] at hport
  refine ⟨_, hexec, ?_, ?_, ?_, ?_, fun q hq => ?_⟩
  · rw [hplaced, stage_only]
    rfl
  · rw [hpair, progressDue, pair_modPair]
    rfl
  · rw [hport, appended_frags]
    rfl
  · intro x gate hlaw
    obtain ⟨handed, staged, hparts⟩ := hlaw.parts
    rw [hport, decide_gateOpen x]
    exact (hparts.append [.progress s.disp.next]).handedOver p s
  · exact ⟨(hframe.pairs q hq).trans (pair_modPair_ne hq _ _), hframe.ports q hq⟩

end Sys2Proof.Machine

/-! PROOFS. A leave that completes (O46): by the leave timer, by the peer's LEAVE, and by the TAKEN that retires ours
(R59). -/

namespace Sys2Proof.Machine

variable {p : PairNo} {s t u : State}

/-! ### A fragment that passes the checks (R13, R15) -/

/-- An allowed fragment received is counted and routed, and the held fragment decided afresh (R13, R15, R118). -/
theorem exec_fragment (hf : p.val < s.mgmt.fitted) (hp : (s.port p).present = true) {f : Fragment}
    (h : FragmentAllowed p f) :
    exec (.fragmentReceived p f.octets) s = .next (redecide (route p f (s.countPair p .fragmentsReceived))) := by
  rw [exec_fragmentReceived_of_present hf hp, receive, checkFragment_octets h]

theorem countPair_pair (c : PairCounter) (s : State) : (s.countPair p c).pair p = (s.pair p).countBy c 1 := pair_modPair ..

/-! ### The completion (R59) -/

theorem completeLeave_host (h : (s.pair p).reason = .host) : completeLeave p s = hostDone p (park p s) := if_pos h

theorem completeLeave_line (h : (s.pair p).reason ≠ .host) :
    completeLeave p s = startTimer p .holdoff s.cfg.holdoff (enter p .settling (s.pair p).reason s) := if_neg h

/-- The port of a pair that leaves its exchange is empty when it settles (R39, R59). -/
theorem entered_settling_queue (x : Port) : (x.entered .leaving .settling).queue = [] := by
  have h : ((x.entered .leaving .settling).queue).map (·.frag) = [] := (Port.handAll_keeps _ true).1
  simpa using h

theorem completeLeave_counter {c : PairCounter} (hc : c.place ≠ PairCounter.lostOnDrop.place) (p : PairNo) (s : State) :
    ((completeLeave p s).pair p).counter c = (s.pair p).counter c := by
  by_cases h : (s.pair p).reason = .host
  · rw [completeLeave_host h, hostDone_pair]
    exact enter_counter p _ _ s hc
  · rw [completeLeave_line h, startTimer, pair_modPair]
    exact enter_counter p _ _ s hc

theorem completeLeave_state (p : PairNo) (s : State) :
    ((completeLeave p s).pair p).state = .parked ∨ ((completeLeave p s).pair p).state = .settling := by
  by_cases h : (s.pair p).reason = .host
  · rw [completeLeave_host h, hostDone_pair]
    exact .inl (enter_state ..).1
  · rw [completeLeave_line h, startTimer, pair_modPair]
    exact .inr (enter_state ..).1

theorem completeLeave_idle (p : PairNo) (s : State) : (completeLeave p s).isActive p = false := by
  obtain h | h := completeLeave_state p s <;> simp [State.isActive, h]

/-- A pending host disable is done as the pair is parked (R67). -/
theorem park_hostDone (hd : (s.pair p).hostDisable = true) (hm : s.mgmt.mask.getLsbD 2 = false) :
    (hostDone p (park p s)).occurrences (.commandDone p) = min (s.occurrences (.commandDone p) + 1) 255 := by
  rw [hostDone_done (by rw [(park_kept p s).hostDisable, hd]) (by rw [(park_frame p s).event.mask, hm]), park,
    enter_notices p _ _ s rfl (commandDone_place_ne_bondState p).symm (commandDone_place_ne_pairState p p)]

/-- The leave of a LEAVING pair is done when it completes (R59). -/
theorem completeLeave_done (h : (s.pair p).state = .leaving) : LeaveDone p s (completeLeave p s) := by
  by_cases hr : (s.pair p).reason = .host
  · rw [completeLeave_host hr]
    have hport : (hostDone p (park p s)).port p = (park p s).port p := port_congr (hostDone_ports p _) p
    refine ⟨?_, ?_, fun _ => ?_, fun _ hd hm => park_hostDone hd hm, fun h' => absurd hr h'⟩
    · rw [hostDone_mark]
      exact enter_mark (new := .parked) rfl p _ s
    · rw [hport]
      exact enter_closed_queue p .parked _ s rfl
    · rw [hostDone_pair, hport, park_order]
      exact ⟨(enter_state ..).1, (enter_state ..).2, rfl, rfl⟩
  · rw [completeLeave_line hr]
    have hport : (startTimer p .holdoff s.cfg.holdoff (enter p .settling (s.pair p).reason s)).port p =
        (s.port p).entered .leaving .settling := h ▸ enter_port p .settling _ s
    refine ⟨enter_mark (new := .settling) rfl p _ s, ?_, fun h' => absurd h' hr, fun h' => absurd h' hr, fun _ => ?_⟩
    · rw [hport, entered_settling_queue]
    · rw [startTimer, pair_modPair]
      exact ⟨(enter_state ..).1, (enter_state ..).2, rfl⟩

/-- A leave done from a state that agrees on what the leave looks at is done from before it. -/
theorem LeaveDone.before (h : LeaveDone p u t) (hreason : (u.pair p).reason = (s.pair p).reason)
    (henabled : (u.pair p).enabled = (s.pair p).enabled) (hhost : (u.pair p).hostDisable = (s.pair p).hostDisable)
    (hdone : u.occurrences (.commandDone p) = s.occurrences (.commandDone p)) (hevent : EventFrame s u) :
    LeaveDone p s t := by
  obtain ⟨hmark, hqueue, hh, hd, hl⟩ := h
  rw [hreason] at hh hd hl
  rw [henabled] at hh
  rw [hhost, hdone, hevent.mask] at hd
  rw [hevent.cfg] at hl
  exact ⟨hmark, hqueue, hh, hd, hl⟩

/-- A re-decision finds a pair that takes no DATA. -/
theorem LeaveDone.redecide (h : LeaveDone p s t) (hidle : t.isActive p = false) : LeaveDone p s (redecide t) := by
  obtain ⟨hmark, hqueue, hh, hd, hl⟩ := h
  obtain ⟨hpair, hport⟩ := (redecide_frame t).idle p hidle
  refine ⟨?_, ?_, fun hr => ?_, fun hr hdis hm => ?_, fun hr => ?_⟩
  · rw [(redecide_delivery t).mark, hmark]
  · rw [hport, hqueue]
  · rw [hpair, hport]
    exact hh hr
  · rw [(redecide_delivery t).notices _ rfl, hd hr hdis hm]
  · rw [hpair, (redecide_frame t).now]
    exact hl hr

/-! ### The leave timer -/

theorem exec_leaveTimer {d : Nat} (h : (s.pair p).stateTimer = some (.leave, d)) :
    exec (.leaveTimerExpiry p) s = .next (redecide (completeLeave p ((s.reach d).countPair p .leaveTimeouts))) := by
  simp only [exec, execLeaveTimerExpiry, h]

/-- The leave timer completes the leave and counts LEAVE-TIMEOUTS. -/
theorem leaveTimer_completes {d : Nat} (hs : (s.pair p).state = .leaving)
    (hd : (s.pair p).stateTimer = some (.leave, d)) :
    ∃ t, exec (.leaveTimerExpiry p) s = .next t ∧ t.now = max s.now d ∧ LifeFrame p s t ∧ LeaveDone p s t ∧
      (t.pair p).counter .leaveTimeouts = countUp ((s.pair p).counter .leaveTimeouts) 1 := by
  have hexec := exec_leaveTimer hd
  have hu : LifeFrame p s ((s.reach d).countPair p .leaveTimeouts) :=
    (reach_frame p d s).trans (countPair_frame p _ _).life
  have hupair : ((s.reach d).countPair p .leaveTimeouts).pair p = (s.pair p).countBy .leaveTimeouts 1 := countPair_pair ..
  have hunow : ((s.reach d).countPair p .leaveTimeouts).now = max s.now d := rfl
  have hudone : ((s.reach d).countPair p .leaveTimeouts).occurrences (.commandDone p) =
    s.occurrences (.commandDone p) := rfl
  generalize (s.reach d).countPair p .leaveTimeouts = u at *
  have hidle := completeLeave_idle p u
  refine ⟨_, hexec, (redecide_frame _).now.trans ((completeLeave_frame p u).now.trans hunow),
    (hu.trans (completeLeave_frame p u).life).trans (redecide_life p _),
    ((completeLeave_done (by rw [hupair]; exact hs)).before ?_ ?_ ?_ hudone hu.event).redecide hidle, ?_⟩
  · rw [hupair]
    rfl
  · rw [hupair]
    rfl
  · rw [hupair]
    rfl
  · rw [((redecide_frame _).idle p hidle).1, completeLeave_counter (by decide), hupair, pair_counter_countBy]

/-! ### The peer's LEAVE -/

/-- The peer's LEAVE noted on a LEAVING pair, which leaves the live set (R58). -/
def leaveNoted (p : PairNo) (s : State) : State := rxRemove p (s.modPair p fun r => { r with peerLeft := true })

theorem takeLeave_leaving (h : (s.pair p).state = .leaving) : takeLeave p s = completionTest p (leaveNoted p s) := by
  rw [takeLeave, h]
  rfl

theorem leaveNoted_pair (p : PairNo) (s : State) : (leaveNoted p s).pair p = { s.pair p with peerLeft := true } :=
  (pair_congr (rxRemove_frame p _).pairs p).trans (pair_modPair ..)

theorem leaveNoted_frame (p : PairNo) (s : State) : PairFrame p s (leaveNoted p s) :=
  (modPair_frame p _ s).trans ((rxRemove_frame p _).pairFrame p)

theorem leaveNoted_notices (p : PairNo) (s : State) {i : NoticeInst} (hi : i.inbound = false) :
    (leaveNoted p s).occurrences i = s.occurrences i := (rxRemove_inbound p _).notices i hi

theorem completionTest_passed (hs : (s.pair p).state = .leaving) (ht : (s.pair p).leaveTaken = true)
    (hp : (s.pair p).peerLeft = true) : completionTest p s = completeLeave p s := if_pos ⟨hs, ht, hp⟩

/-- The peer's LEAVE completes a leave whose own LEAVE has been taken. -/
theorem peerLeave_completes (why : LeaveReason) (hs : (s.pair p).state = .leaving) (hf : p.val < s.mgmt.fitted)
    (hp : (s.port p).present = true) (htaken : (s.pair p).leaveTaken = true) :
    ∃ t, exec (.fragmentReceived p (Fragment.leave why).octets) s = .next t ∧ t.now = s.now ∧ LifeFrame p s t ∧
      LeaveDone p s t := by
  have hexec := exec_fragment hf hp (f := .leave why) trivial
  have hcount := countPair_pair (p := p) .fragmentsReceived s
  have hframe := countPair_frame p .fragmentsReceived s
  have hdone : (s.countPair p .fragmentsReceived).occurrences (.commandDone p) = s.occurrences (.commandDone p) := rfl
  generalize s.countPair p .fragmentsReceived = v at *
  have hu := leaveNoted_pair p v
  have huframe := hframe.trans (leaveNoted_frame p v)
  have hudone := (leaveNoted_notices p v (i := .commandDone p) rfl).trans hdone
  rw [route, takeLeave_leaving (by rw [hcount]; exact hs)] at hexec
  generalize leaveNoted p v = u at *
  rw [hcount] at hu
  have hleaving : (u.pair p).state = .leaving := by rw [hu]; exact hs
  rw [completionTest_passed hleaving (by rw [hu]; exact htaken) (by rw [hu])] at hexec
  refine ⟨_, hexec, (redecide_frame _).now.trans ((completeLeave_frame p u).now.trans huframe.now),
    (huframe.trans (completeLeave_frame p u)).life.trans (redecide_life p _),
    ((completeLeave_done hleaving).before ?_ ?_ ?_ hudone huframe.event).redecide (completeLeave_idle p u)⟩ <;>
  · rw [hu]
    rfl

/-! ### The TAKEN that retires our LEAVE -/

/-- A line queue that holds one HANDED LEAVE keeps its law. -/
theorem LineQueueLaw.of_leave {x : Port} {why : LeaveReason} (hres : x.residue = [])
    (hq : x.queue = [{ frag := .leave why, handed := true }]) (htaken : x.takenFromHead < 9) : LineQueueLaw x := by
  have hsize : (Fragment.leave why).size = 9 := rfl
  refine ⟨⟨x.queue, [], by simp, by simp [hq], by simp⟩, by simp [hq, hres], by simp [hq], ?_, by simp [hq, hsize], ?_,
    by simp [hres]⟩
  · rw [Port.backlog, hq]
    simp only [queueSize, List.map_cons, List.map_nil, List.sum_cons, List.sum_nil, hsize]
    omega
  · rw [hq]
    exact htaken

theorem startProgress_of_idle (h : s.isActive p = false) : startProgress p s = s := by simp [startProgress, h]

/-- Nothing is handed over from an empty queue. -/
theorem handover_of_empty (h : (s.port p).queue = []) : handover p s = s := by
  have hone : (s.port p).handOne = s.port p := by simp [Port.handOne, h, firstStaged]
  have hsame : (s.modPort p fun x => x.handOne.handOne) = s := by
    simp only [State.modPort, hone]
    simp [State.setPort, State.port]
  rw [handover, hsame, ite_self]

/-- A completed leave has nothing waiting for room (R39). -/
theorem completeLeave_no_waits (p : PairNo) (s : State) :
    ((completeLeave p s).pair p).waitAck = none ∧ ((completeLeave p s).pair p).waitJoin = false ∧
    ((completeLeave p s).pair p).waitLeave = none ∧ ((completeLeave p s).pair p).renewal = false := by
  by_cases h : (s.pair p).reason = .host
  · rw [completeLeave_host h, hostDone_pair, park, enter_record]
    exact ⟨rfl, rfl, rfl, rfl⟩
  · rw [completeLeave_line h, startTimer, pair_modPair, enter_record]
    exact ⟨rfl, rfl, rfl, rfl⟩

/-- What is told of a retired LEAVE on a LEAVING pair that the peer has left (R30, R59). -/
theorem tellRetired_leave {why : LeaveReason} (hs : (s.pair p).state = .leaving) (hp : (s.pair p).peerLeft = true) :
    tellRetired p [.leave why] s = completeLeave p (s.modPair p fun r => { r with leaveTaken := true }) := by
  have h : tellRetired p [.leave why] s = leaveRetired p s := rfl
  rw [h, leaveRetired, if_pos hs, completionTest_passed] <;> rw [pair_modPair]
  · exact hs
  · exact hp

/-- A TAKEN that retires one LEAVE and completes the leave does nothing beside: the queue is empty and nothing waits. -/
theorem takeTaken_leave {n : Nat} {why : LeaveReason} (hret : (applyTaken p n s).2 = [.leave why])
    (hs : ((applyTaken p n s).1.pair p).state = .leaving) (hp : ((applyTaken p n s).1.pair p).peerLeft = true) :
    takeTaken p n s =
      redecide (completeLeave p ((applyTaken p n s).1.modPair p fun r => { r with leaveTaken := true })) := by
  have htold := tellRetired_leave (why := why) hs hp
  generalize hu : ((applyTaken p n s).1.modPair p fun r => { r with leaveTaken := true }) = u at htold
  have hleaving : (u.pair p).state = .leaving := by
    rw [← hu, pair_modPair]
    exact hs
  obtain ⟨hack, hjoin, hleave, hrenewal⟩ := completeLeave_no_waits p u
  have hidle := completeLeave_idle p u
  obtain ⟨-, hport⟩ := (redecide_frame (completeLeave p u)).idle p hidle
  have htidle : (redecide (completeLeave p u)).isActive p = false := ((redecide_frame _).isActive p).trans hidle
  have hqueue : ((redecide (completeLeave p u)).port p).queue = [] := by
    rw [hport]
    exact (completeLeave_done hleaving).queue
  have hwhole : takeTaken p n s = handover p (startProgress p (roomReport p (completeLeave p u))) := by
    simp [takeTaken, hret, htold]
  rw [hwhole, roomReport_of_no_waits hack hjoin hleave hrenewal, startProgress_of_idle htidle, handover_of_empty hqueue]

/-- The TAKEN that retires our LEAVE completes a leave that the peer has left. -/
theorem taken_completes {why : LeaveReason} {n : BitVec 16} (hs : (s.pair p).state = .leaving)
    (hf : p.val < s.mgmt.fitted) (hp : (s.port p).present = true) (hleft : (s.pair p).peerLeft = true)
    (hres : (s.port p).residue = []) (hq : (s.port p).queue = [{ frag := .leave why, handed := true }])
    (hn : n.toNat + (s.port p).takenFromHead = 9) (hn0 : n ≠ 0) :
    ∃ t, exec (.taken p n) s = .next t ∧ t.now = s.now ∧ LifeFrame p s t ∧ LeaveDone p s t ∧
      (t.pair p).counter .fragmentsSent = countUp ((s.pair p).counter .fragmentsSent) 1 := by
  have hpos : 0 < n.toNat := Nat.pos_of_ne_zero fun h => hn0 (BitVec.eq_of_toNat_eq h)
  have hlaw := LineQueueLaw.of_leave hres hq (by omega)
  obtain ⟨happ, hret⟩ := applyTaken_head hlaw hres hq rfl (n := n.toNat)
    (show n.toNat = 9 - (s.port p).takenFromHead by omega)
  obtain ⟨c, hrec⟩ := happ.applied.record
  have hsent : ((applyTaken p n.toNat s).1.pair p).counter .fragmentsSent =
      countUp ((s.pair p).counter .fragmentsSent) 1 := by
    rw [(takenCounts_counter happ.applied.pair).2.1, hres, List.length_nil, Nat.zero_sub]
  have hmgmt : (applyTaken p n.toNat s).1.mgmt = s.mgmt := by
    unfold applyTaken
    dsimp only
    split <;> rfl
  have hexec := exec_taken (p := p) hf hp hn0
  rw [takeTaken_leave hret (by rw [hrec]; exact hs) (by rw [hrec]; exact hleft)] at hexec
  have hframe := happ.applied.frame
  generalize (applyTaken p n.toNat s).1 = v at *
  have huframe : PairFrame p s (v.modPair p fun r => { r with leaveTaken := true }) :=
    hframe.trans (modPair_frame p _ v)
  have hupair : (v.modPair p fun r => { r with leaveTaken := true }).pair p =
      { v.pair p with leaveTaken := true } := pair_modPair ..
  have hudone : (v.modPair p fun r => { r with leaveTaken := true }).occurrences (.commandDone p) =
      s.occurrences (.commandDone p) := by
    simp [State.occurrences, hmgmt]
  generalize (v.modPair p fun r => { r with leaveTaken := true }) = u at *
  have hleaving : (u.pair p).state = .leaving := by rw [hupair, hrec]; exact hs
  have hidle := completeLeave_idle p u
  refine ⟨_, hexec, (redecide_frame _).now.trans ((completeLeave_frame p u).now.trans huframe.now),
    (huframe.trans (completeLeave_frame p u)).life.trans (redecide_life p _),
    ((completeLeave_done hleaving).before ?_ ?_ ?_ hudone huframe.event).redecide hidle, ?_⟩
  · rw [hupair, hrec]
  · rw [hupair, hrec]
  · rw [hupair, hrec]
  · rw [((redecide_frame _).idle p hidle).1, completeLeave_counter (by decide), hupair]
    exact hsent

/-- Settles O46: the three ways a leave completes. -/
theorem leaveCompletes : Obligations.LeaveCompletes := by
  unfold Obligations.LeaveCompletes
  exact fun s p hs => ⟨fun d hd => leaveTimer_completes hs hd,
    fun why hf hp htaken => peerLeave_completes why hs hf hp htaken,
    fun why n hf hp hleft hres hq hn hn0 => taken_completes hs hf hp hleft hres hq hn hn0⟩

end Sys2Proof.Machine

/-! PROOFS. DISABLE-PAIR (O25): entry to LEAVING seen at the pair, the three leaves that the host starts or upgrades, and
the LEAVE that an abort places behind the HANDED entries (R32, R56, R57, R67). -/

namespace Sys2Proof.Machine

variable {p : PairNo} {s t u : State}

/-! ### A LEAVE placed (R48, R56) -/

theorem leave_size (why : LeaveReason) : (Fragment.leave why).size = 9 := rfl

/-- A LEAVE that finds room is placed; one that finds none waits (R48). -/
theorem placeLeave_at (p : PairNo) (why : LeaveReason) (s : State) :
    (placeLeave p why s).port p = (if (s.port p).hasRoom 9 then
      ((s.port p).append [.leave why]).handAll (s.pair p).state.gateOpen else s.port p) ∧
    (placeLeave p why s).pair p = (if (s.port p).hasRoom 9 then
      { s.pair p with progressTimer := none, waitLeave := none } else { s.pair p with waitLeave := some why }) := by
  unfold placeLeave
  cases hr : (s.port p).hasRoom 9 with
  | true =>
    rw [place_of_room (leave_size why ▸ hr)]
    exact ⟨(port_modPair p p _ _).trans (stage_port_self p _ s), by
      rw [pair_modPair, stage_pair]
      rfl⟩
  | false =>
    rw [place_of_full (leave_size why ▸ hr)]
    exact ⟨rfl, pair_modPair ..⟩

theorem stage_same (p : PairNo) (f : Fragment) (s : State) : OutboundSame s (stage p f s) :=
  ⟨stage_classes p f s, stage_disp p f s, stage_cells p f s, by rw [State.counter, stage_counters, State.counter],
    (stage_delivery p f s).notices _ rfl, (stage_frame p f s).event.mask⟩

theorem placeLeave_same (p : PairNo) (why : LeaveReason) (s : State) : OutboundSame s (placeLeave p why s) := by
  unfold placeLeave place
  split
  · rename_i h
    split at h
    · cases h
      exact (stage_same p _ s).trans (modPair_same p _ _)
    · cases h
  · exact modPair_same p _ s

theorem withdraw_same (p : PairNo) (s : State) : OutboundSame s (withdraw p s) := ⟨rfl, rfl, rfl, rfl, rfl, rfl⟩

theorem startTimer_same (p : PairNo) (k : StateTimer) (ms : Nat) (s : State) : OutboundSame s (startTimer p k ms s) :=
  modPair_same p _ s

theorem hostCause_same (p : PairNo) (s : State) : OutboundSame s (hostCause p s) := modPair_same p _ s

/-- The answer to a request changes nothing of the outbound half. -/
theorem removeHead_same (s : State) : OutboundSame s (removeHead s) := ⟨rfl, rfl, rfl, rfl, rfl, rfl⟩

theorem replied_same (m : Message) (status : Status) (result : List Octet) (s : State) :
    OutboundSame s (s.replied m status result) := ⟨rfl, rfl, rfl, rfl, rfl, rfl⟩

/-! ### Entry to LEAVING (R56, R57) -/

/-- Entry to LEAVING makes the entered record, with the form of the leave and its timer. -/
theorem enterLeaving_pair {during : State → State} (hd : ∀ x, PurgeFrame x (during x)) (p : PairNo) (why : Reason)
    (form : LeaveForm) (s : State) :
    (enterLeaving during p why form s).pair p = { (s.pair p).entered .leaving why with
      leaveForm := form, stateTimer := some (.leave, s.now + s.cfg.leaveTimeout) } := by
  have hrec : (entering during p .leaving why s).pair p = (s.pair p).entered .leaving why := by
    unfold entering
    dsimp only
    rw [pair_congr (activeChanged_frame hd _ _).pairs p, pair_raise, handover_pair,
      if_neg (show ¬entryEmpties _ PairState.leaving = true from Bool.false_ne_true), setOrder_pair, pair_modPair]
  rw [enterLeaving, startTimer, pair_modPair, pair_modPair, hrec, modPair_now, (entering_frame hd p _ why s).now]

theorem enterLeaving_port {during : State → State} (hd : ∀ x, PurgeFrame x (during x)) (p : PairNo) (why : Reason)
    (form : LeaveForm) (s : State) :
    (enterLeaving during p why form s).port p = (s.port p).entered (s.pair p).state .leaving :=
  entering_port hd p .leaving why s

/-- The last ACTIVE pair's entry to LEAVING purges the outbound half (R101). -/
theorem enterLeaving_purged (why : Reason) (form : LeaveForm) (hp : (s.pair p).state = .active)
    (hlast : ∀ q, q ≠ p → (s.pair q).state ≠ .active) : Purged s (enterLeaving id p why form s) :=
  (enter_purged why hp hlast (new := .leaving) (by decide)).after
    ((modPair_same p (fun r => { r with leaveForm := form }) _).trans (startTimer_same p .leave s.cfg.leaveTimeout _))

/-! ### The leaves of the host (R56, R57) -/

/-- A leave for the host with a form has been started or upgraded between `s` and `t`. -/
structure HostLeave (p : PairNo) (form : LeaveForm) (s t : State) : Prop where
  state : (t.pair p).state = .leaving
  reason : (t.pair p).reason = .host
  form : (t.pair p).leaveForm = form
  enabled : (t.pair p).enabled = false
  hostDisable : (t.pair p).hostDisable = true
  frame : PairFrame p s t

theorem gracefulLeave_host (p : PairNo) (s : State) :
    gracefulLeave p .host s = placeLeave p .host (hostCause p (enterLeaving id p .host .graceful s)) := rfl

/-- The record of a pair that the host lets leave, before its LEAVE is placed. -/
theorem hostCause_enterLeaving_pair (p : PairNo) (form : LeaveForm) (s : State) :
    (hostCause p (enterLeaving id p .host form s)).pair p = { (s.pair p).entered .leaving .host with
      enabled := false, hostDisable := true, leaveForm := form,
      stateTimer := some (.leave, s.now + s.cfg.leaveTimeout) } := by
  rw [hostCause, pair_modPair, enterLeaving_pair (during := id) PurgeFrame.refl]

theorem gracefulLeave_hostLeave (p : PairNo) (s : State) : HostLeave p .graceful s (gracefulLeave p .host s) := by
  refine ⟨?_, ?_, ?_, ?_, ?_, gracefulLeave_frame p .host s⟩ <;>
    rw [gracefulLeave_host, placeLeave_record, hostCause_enterLeaving_pair] <;> rfl

theorem gracefulLeave_host_timer (p : PairNo) (s : State) :
    ((gracefulLeave p .host s).pair p).stateTimer = some (.leave, s.now + s.cfg.leaveTimeout) := by
  rw [gracefulLeave_host, placeLeave_record, hostCause_enterLeaving_pair]

theorem gracefulLeave_host_placed (h : (s.pair p).state = .active) :
    LeavePlaced p .host s (gracefulLeave p .host s) := by
  obtain ⟨hq, hb⟩ := entered_leaving_queue (s.port p)
  have hport : (hostCause p (enterLeaving id p .host .graceful s)).port p = (s.port p).entered .active .leaving := by
    rw [hostCause, port_modPair, enterLeaving_port (during := id) PurgeFrame.refl, h]
  rw [gracefulLeave_host]
  exact (placeLeave_placed p .host _).before (by rw [hport, hq]) (by rw [hport, hb])

theorem gracefulLeave_host_purged (hp : (s.pair p).state = .active)
    (hlast : ∀ q, q ≠ p → (s.pair q).state ≠ .active) : Purged s (gracefulLeave p .host s) :=
  (enterLeaving_purged .host .graceful hp hlast).after
    ((hostCause_same p _).trans (placeLeave_same p .host (hostCause p (enterLeaving id p .host .graceful s))))

theorem withdraw_pair (p : PairNo) (s : State) : (withdraw p s).pair p = (s.pair p).countBy .withdrawn
    (((s.port p).queue.filter fun e => !e.handed).countP (·.frag.isData)) := pair_modPair ..

theorem withdraw_port (p : PairNo) (s : State) :
    (withdraw p s).port p = { s.port p with queue := (s.port p).queue.filter (·.handed) } := port_setPort ..

theorem abortLeave_pair (p : PairNo) (s : State) : ((abortLeave p s).pair p) =
    { (s.pair p).entered .leaving .host with
      enabled := false, hostDisable := true, leaveForm := .abort,
      stateTimer := some (.leave, s.now + s.cfg.leaveTimeout),
      progressTimer := ((abortLeave p s).pair p).progressTimer, outRef := ((abortLeave p s).pair p).outRef,
      waitLeave := ((abortLeave p s).pair p).waitLeave, counters := ((abortLeave p s).pair p).counters } := by
  rw [abortLeave, placeLeave_record, withdraw_pair, hostCause_enterLeaving_pair]
  rfl

theorem abortLeave_hostLeave (p : PairNo) (s : State) : HostLeave p .abort s (abortLeave p s) := by
  refine ⟨?_, ?_, ?_, ?_, ?_, abortLeave_frame p s⟩ <;> rw [abortLeave_pair] <;> rfl

theorem abortLeave_purged (hp : (s.pair p).state = .active)
    (hlast : ∀ q, q ≠ p → (s.pair q).state ≠ .active) : Purged s (abortLeave p s) :=
  (enterLeaving_purged .host .abort hp hlast).after
    (((hostCause_same p _).trans (withdraw_same p _)).trans
      (placeLeave_same p .abort (withdraw p (hostCause p (enterLeaving id p .host .abort s)))))

/-- A graceful leave made an abort for the host, its STAGED entries withdrawn (R57). -/
def upgraded (p : PairNo) (s : State) : State :=
  withdraw p ((hostCause p s).modPair p fun r => { r with reason := .host, leaveForm := .abort, waitLeave := none })

theorem upgradeLeave_eq (p : PairNo) (s : State) : upgradeLeave p s =
    pairRoom p (if s.leaveGone p then upgraded p s else placeLeave p .abort (upgraded p s)) := rfl

theorem upgraded_pair (p : PairNo) (s : State) : (upgraded p s).pair p =
    ({ s.pair p with enabled := false, hostDisable := true, reason := .host, leaveForm := .abort,
                     waitLeave := none } : Pair).countBy .withdrawn
      (((s.port p).queue.filter fun e => !e.handed).countP (·.frag.isData)) := by
  rw [upgraded, withdraw_pair, hostCause, modPair_modPair, pair_modPair]
  rfl

theorem upgraded_port (p : PairNo) (s : State) :
    (upgraded p s).port p = { s.port p with queue := (s.port p).queue.filter (·.handed) } := withdraw_port ..

/-- An upgrade changes of the record what the leave is for, and what placements change. -/
theorem upgradeLeave_pair (p : PairNo) (s : State) : (upgradeLeave p s).pair p = { s.pair p with
    enabled := false, hostDisable := true, reason := .host, leaveForm := .abort,
    progressTimer := ((upgradeLeave p s).pair p).progressTimer, outRef := ((upgradeLeave p s).pair p).outRef,
    waitAck := ((upgradeLeave p s).pair p).waitAck, waitJoin := ((upgradeLeave p s).pair p).waitJoin,
    waitLeave := ((upgradeLeave p s).pair p).waitLeave, renewal := ((upgradeLeave p s).pair p).renewal,
    counters := ((upgraded p s).pair p).counters } := by
  rw [upgradeLeave_eq]
  refine (pairRoom_taken p _).pair.trans ?_
  generalize (pairRoom p _).pair p = r
  split
  · rw [upgraded_pair]
    rfl
  · rw [placeLeave_record]
    generalize (placeLeave p .abort _).pair p = r'
    rw [upgraded_pair]
    rfl

theorem upgradeLeave_hostLeave (h : (s.pair p).state = .leaving) : HostLeave p .abort s (upgradeLeave p s) := by
  refine ⟨?_, ?_, ?_, ?_, ?_, upgradeLeave_frame p s⟩ <;> rw [upgradeLeave_pair]
  exact h

/-! ### What an abort leaves in the queue (R32, R57) -/

/-- The LEAVE of an abort stands behind the HANDED entries of the queue, unless ours has `gone`; the STAGED entries are
withdrawn and their DATA counted. -/
structure Aborted (p : PairNo) (gone : Prop) (s t : State) : Prop where
  waits : (t.pair p).waitLeave = none
  taken : (t.port p).takenFromHead = (s.port p).takenFromHead
  withdrawn : (t.pair p).counter .withdrawn = countUp ((s.pair p).counter .withdrawn)
    (((s.port p).queue.filter fun e => !e.handed).countP (·.frag.isData))
  kept : gone → (t.port p).queue.map (·.frag) = ((s.port p).queue.filter (·.handed)).map (·.frag)
  placed : ¬gone → (t.port p).queue.map (·.frag) =
    ((s.port p).queue.filter (·.handed)).map (·.frag) ++ [.leave .abort]

/-- The octets of a list of entries of lawful sizes (R24). -/
theorem queueSize_le {q : List Entry} (h : ∀ e ∈ q, e.frag.size ≤ 520) : queueSize q ≤ 520 * q.length := by
  have := List.sum_le_card_nsmul (q.map fun e => e.frag.size) 520 (by simpa using h)
  simpa [queueSize, Nat.mul_comm] using this

/-- Behind the HANDED entries of a lawful queue there is room for a LEAVE (R25, R27). -/
theorem LineQueueLaw.room_behind_handed {x : Port} (h : LineQueueLaw x) :
    ({ x with queue := x.queue.filter (·.handed) } : Port).hasRoom 9 = true := by
  have hlen : (x.queue.filter (·.handed)).length ≤ 2 := by
    rw [← List.countP_eq_length_filter]
    exact (Nat.le_add_right _ _).trans h.credit
  have hsize : queueSize (x.queue.filter (·.handed)) ≤ 520 * (x.queue.filter (·.handed)).length :=
    queueSize_le fun e he => h.sizes e (List.mem_of_mem_filter he)
  rw [Port.hasRoom_iff]
  refine ⟨show (x.queue.filter (·.handed)).length < 4 by omega, ?_⟩
  show queueSize (x.queue.filter (·.handed)) - x.takenFromHead + 9 ≤ 3072
  omega

/-- A LEAVE placed behind the HANDED entries that a withdrawal has left. -/
theorem Aborted.of_placed (hlaw : LineQueueLaw (s.port p))
    (hport : u.port p = { s.port p with queue := (s.port p).queue.filter (·.handed) })
    (hcount : (u.pair p).counter .withdrawn = countUp ((s.pair p).counter .withdrawn)
      (((s.port p).queue.filter fun e => !e.handed).countP (·.frag.isData))) {gone : Prop} (hgone : ¬gone) :
    Aborted p gone s (placeLeave p .abort u) := by
  obtain ⟨hvport, hvpair⟩ := placeLeave_at p .abort u
  have hroom : (u.port p).hasRoom 9 = true := by
    rw [hport]
    exact hlaw.room_behind_handed
  rw [if_pos hroom] at hvport hvpair
  refine ⟨?_, ?_, ?_, fun h => absurd h hgone, fun _ => ?_⟩
  · rw [hvpair]
  · rw [hvport, (Port.handAll_keeps _ _).2.1, hport]
    rfl
  · rw [hvpair]
    exact hcount
  · rw [hvport, appended_frags, hport]

/-- An order TRAIN leaves the residue alone (R31). -/
theorem Port.ordered_train_residue (x : Port) : (x.ordered .train).residue = x.residue := by
  unfold Port.ordered
  split <;> rfl

/-- Where the credit is used up or nothing is STAGED, entry to LEAVING hands nothing over (R27). -/
theorem entered_leaving_used {x : Port} (h : LineQueueLaw x)
    (hused : (x.queue.filter fun e => !e.handed) ≠ [] → (x.queue.filter (·.handed)).length + x.residue.length = 2) :
    (x.entered .active .leaving).queue = x.queue ∧ (x.entered .active .leaving).takenFromHead = x.takenFromHead := by
  obtain ⟨handed, staged, hparts⟩ := h.parts
  obtain ⟨hq, ht⟩ := Port.ordered_queue .train x
  have hordered : Parts (x.ordered .train) handed staged := ⟨hq.trans hparts.queue, hparts.handed, hparts.staged⟩
  have hx : x.entered .active .leaving = (x.ordered .train).handAll true := rfl
  have hnone : allowance true handed.length staged.length (x.ordered .train).residue.length = 0 := by
    rw [Port.ordered_train_residue]
    rw [hparts.queue, filter_staged_append hparts.handed hparts.staged,
      filter_handed_append hparts.handed hparts.staged] at hused
    unfold allowance
    cases staged with
    | nil => simp
    | cons e rest =>
      have := hused (by simp)
      simp only [if_true]
      omega
  have heq := Port.handAll_eq hordered true
  rw [hnone] at heq
  rw [hx, heq]
  refine ⟨?_, ht⟩
  simp [hparts.queue]

/-- What the abort of an ACTIVE pair leaves in its queue. -/
theorem abortLeave_aborted (hp : (s.pair p).state = .active) (hlaw : LineQueueLaw (s.port p))
    (hused : ((s.port p).queue.filter fun e => !e.handed) ≠ [] →
      ((s.port p).queue.filter (·.handed)).length + (s.port p).residue.length = 2) {gone : Prop} (hgone : ¬gone) :
    Aborted p gone s (abortLeave p s) := by
  obtain ⟨hq, ht⟩ := entered_leaving_used hlaw hused
  have hrec := hostCause_enterLeaving_pair p .abort s
  have hport : (hostCause p (enterLeaving id p .host .abort s)).port p = (s.port p).entered .active .leaving := by
    rw [hostCause, port_modPair, enterLeaving_port (during := id) PurgeFrame.refl, hp]
  have hmoved : LineQueueLaw ((s.port p).entered .active .leaving) :=
    (hlaw.of_same (Port.ordered_queue .train _).1 (Port.ordered_queue .train _).2 (Port.ordered_residue ..)).handAll true
  rw [abortLeave]
  generalize hostCause p (enterLeaving id p .host .abort s) = v at *
  rw [← hport] at hq ht hmoved
  have hv : Aborted p gone v (placeLeave p .abort (withdraw p v)) :=
    .of_placed hmoved (withdraw_port p v) (by rw [withdraw_pair, pair_counter_countBy]) hgone
  obtain ⟨hwaits, htaken, hwith, hkept, hplaced⟩ := hv
  rw [hq] at hwith hkept hplaced
  refine ⟨hwaits, htaken.trans ht, ?_, hkept, hplaced⟩
  rw [hwith, hrec]
  rfl

/-- Our LEAVE is HANDED or has been taken (R57). -/
theorem leaveGone_iff (s : State) (p : PairNo) : s.leaveGone p = true ↔ (s.pair p).leaveTaken = true ∨
    ∃ e ∈ (s.port p).queue.filter (·.handed), ∃ why, e.frag = .leave why := by
  have hleave : ∀ f : Fragment, (match f with | .leave _ => true | _ => false) = true ↔ ∃ why, f = .leave why := by
    intro f
    cases f <;> simp
  simp only [State.leaveGone, Bool.or_eq_true, List.any_eq_true, Bool.and_eq_true, List.mem_filter, and_assoc]
  exact or_congr_right (exists_congr fun e => and_congr_right fun _ => and_congr_right fun _ => hleave e.frag)

/-- What an upgrade leaves in the queue where nothing else waits. -/
theorem upgradeLeave_aborted (hlaw : LineQueueLaw (s.port p)) (hack : (s.pair p).waitAck = none)
    (hjoin : (s.pair p).waitJoin = false) (hren : (s.pair p).renewal = false) {gone : Prop}
    (hgone : s.leaveGone p = true ↔ gone) : Aborted p gone s (upgradeLeave p s) := by
  have hcount : ((upgraded p s).pair p).counter .withdrawn = countUp ((s.pair p).counter .withdrawn)
      (((s.port p).queue.filter fun e => !e.handed).countP (·.frag.isData)) := by
    rw [upgraded_pair]
    exact pair_counter_countBy ..
  have hupair := upgraded_pair p s
  have huport := upgraded_port p s
  rw [upgradeLeave_eq]
  by_cases h : s.leaveGone p = true
  · rw [if_pos h, pairRoom_of_no_waits (by rw [hupair]; exact hack) (by rw [hupair]; exact hjoin) (by rw [hupair]; rfl)
      (by rw [hupair]; exact hren)]
    refine ⟨?_, ?_, hcount, fun _ => ?_, fun hno => absurd (hgone.1 h) hno⟩
    · rw [hupair]
      rfl
    · rw [huport]
    · rw [huport]
  · have hplaced : Aborted p gone s (placeLeave p .abort (upgraded p s)) :=
      .of_placed hlaw huport hcount (mt hgone.2 h)
    rw [if_neg h, pairRoom_of_no_waits ?_ ?_ hplaced.waits ?_]
    · exact hplaced
    · rw [placeLeave_record, hupair]
      exact hack
    · rw [placeLeave_record, hupair]
      exact hjoin
    · rw [placeLeave_record, hupair]
      exact hren

/-! ### DISABLE-PAIR by the pair's state (R67) -/

theorem exec_disablePair {tag : Octet} {body : List Octet} (hb : body.length = 2) (h : ReadyFor ⟨0x12, tag, body⟩ s) :
    exec (.disablePair tag body) s = .next ((judgeDisablePair body (removeHead s)).placed ⟨0x12, tag, body⟩) := by
  show Host.Outcome.next (intake _ (withLength 2 body (judgeDisablePair body)) s) = _
  rw [intake_of_ready h, withLength_eq hb]

theorem judgeDisablePair_of_pair (p : PairNo) (abort : Bool) (s : State) :
    judgeDisablePair [BitVec.ofNat 8 p.val, if abort then 2 else 1] s =
      if p.val < s.mgmt.fitted then disable abort p s else refuse .refusedState s := by
  rw [judgeDisablePair, field_zero_one, toNat_ofNat_pair, pairOf_val, field_one_one, modeOf_mode]
  simp [State.isFitted]

theorem judgeDisablePair_refused {o d : Octet} (h : 7 < o.toNat ∨ (d ≠ 1 ∧ d ≠ 2)) (s : State) :
    judgeDisablePair [o, d] s = refuse .refusedRange s := by
  rw [judgeDisablePair, field_zero_one, field_one_one]
  obtain h | h := pairOf_or_modeOf_none h <;> rw [h]
  cases pairOf o.toNat <;> rfl

/-- DISABLE-PAIR on a fitted pair that is ready for it. -/
theorem exec_disablePair_fitted {tag : Octet} {abort : Bool} (hfit : p.val < s.mgmt.fitted)
    (h : ReadyFor ⟨0x12, tag, [BitVec.ofNat 8 p.val, if abort then 2 else 1]⟩ s) :
    exec (.disablePair tag [BitVec.ofNat 8 p.val, if abort then 2 else 1]) s =
      .next ((disable abort p (removeHead s)).placed
        ⟨0x12, tag, [BitVec.ofNat 8 p.val, if abort then 2 else 1]⟩) := by
  rw [exec_disablePair rfl h, judgeDisablePair_of_pair, if_pos (show p.val < (removeHead s).mgmt.fitted from hfit)]

theorem disable_rests (abort : Bool) (h : (s.pair p).state = .vacant ∨ (s.pair p).state = .faulted) :
    disable abort p s = done [] (s.modPair p fun r => { r with enabled := false }) := by
  obtain h | h := h <;> simp [disable, h]

theorem disable_parked (abort : Bool) (h : (s.pair p).state = .parked) :
    disable abort p s = done [] (s.modPair p fun r => { r with enabled := false, reason := .host }) := by
  simp [disable, h, setReason, modPair_modPair]

/-- The pair is parked with its flag cleared. -/
def disabled (p : PairNo) (s : State) : State := park p (s.modPair p fun r => { r with enabled := false })

theorem disable_parks (abort : Bool) (h : (s.pair p).state = .training ∨ (s.pair p).state = .settling ∨
    (s.pair p).state = .joining ∨ (s.pair p).state = .quarantine) :
    disable abort p s = done [] (redecide (disabled p s)) := by
  obtain h | h | h | h := h <;> simp [disable, h, disabled]

theorem disabled_frame (p : PairNo) (s : State) : PairFrame p s (disabled p s) :=
  (modPair_frame p _ s).trans (park_frame p _)

theorem disabled_pair (p : PairNo) (s : State) : (disabled p s).pair p =
    { ({ s.pair p with enabled := false } : Pair).entered .parked .host with
      counters := ((disabled p s).pair p).counters } := by
  rw [disabled, park, pair_modPair]
  conv => lhs; rw [enter_record, pair_modPair]
  rfl

theorem disabled_port (p : PairNo) (s : State) :
    ((disabled p s).port p).order = .quiet ∧ ((disabled p s).port p).queue = [] :=
  ⟨park_order p _, enter_closed_queue p .parked _ _ rfl⟩

theorem disable_busy {abort : Bool} (h : (s.pair p).state = .leaving) (hr : (s.pair p).reason = .host)
    (hform : abort = false ∨ (s.pair p).leaveForm ≠ .graceful) : disable abort p s = refuse .refusedBusy s := by
  have : ¬(abort = true ∧ (s.pair p).leaveForm = .graceful) := by
    rintro ⟨ha, hg⟩
    exact hform.elim (by simp [ha]) (absurd hg)
  simp [disable, h, hr, this]

theorem disable_joins_leave (h : (s.pair p).state = .leaving) (hr : (s.pair p).reason ≠ .host) :
    disable false p s =
      accept (s.modPair p fun r => { r with enabled := false, hostDisable := true, reason := .host }) := by
  simp [disable, h, hr, setReason, hostCause, modPair_modPair]

/-- The leave that DISABLE-PAIR starts or upgrades (R56, R57). -/
def hostLeave (abort : Bool) (p : PairNo) (s : State) : State :=
  if (s.pair p).state = .active then (if abort then abortLeave p s else gracefulLeave p .host s) else upgradeLeave p s

theorem hostLeave_of_active (abort : Bool) (h : (s.pair p).state = .active) :
    hostLeave abort p s = if abort then abortLeave p s else gracefulLeave p .host s := if_pos h

theorem hostLeave_of_leaving (abort : Bool) (h : (s.pair p).state = .leaving) :
    hostLeave abort p s = upgradeLeave p s := if_neg (by rw [h]; decide)

/-- The states in which DISABLE-PAIR starts a leave or upgrades one (R67). -/
def State.leavesFor (s : State) (p : PairNo) (abort : Bool) : Prop :=
  (s.pair p).state = .active ∨
    ((s.pair p).state = .leaving ∧ abort = true ∧ ((s.pair p).reason ≠ .host ∨ (s.pair p).leaveForm = .graceful))

theorem disable_leaves {abort : Bool} (h : s.leavesFor p abort) :
    disable abort p s = accept (redecide (hostLeave abort p s)) := by
  obtain h | ⟨h, rfl, hr⟩ := h
  · simp [disable, h, hostLeave]
  · by_cases hhost : (s.pair p).reason = .host
    · have hg : (s.pair p).leaveForm = .graceful := hr.resolve_left fun hne => hne hhost
      simp [disable, h, hhost, hg, hostLeave]
    · simp [disable, h, hhost, hostLeave]

theorem hostLeave_hostLeave {abort : Bool} (h : s.leavesFor p abort) :
    HostLeave p (if abort then .abort else .graceful) s (hostLeave abort p s) := by
  obtain h | ⟨h, rfl, -⟩ := h
  · rw [hostLeave_of_active _ h]
    cases abort with
    | true => exact abortLeave_hostLeave p s
    | false => exact gracefulLeave_hostLeave p s
  · rw [hostLeave_of_leaving _ h]
    exact upgradeLeave_hostLeave h

theorem hostLeave_timer (abort : Bool) (h : (s.pair p).state = .active) :
    ((hostLeave abort p s).pair p).stateTimer = some (.leave, s.now + s.cfg.leaveTimeout) := by
  rw [hostLeave_of_active _ h]
  cases abort with
  | true => exact (congrArg Pair.stateTimer (abortLeave_pair p s)).trans rfl
  | false => exact gracefulLeave_host_timer p s

theorem hostLeave_upgrade (abort : Bool) (h : (s.pair p).state = .leaving) :
    ((hostLeave abort p s).pair p).stateTimer = (s.pair p).stateTimer ∧
    ((hostLeave abort p s).pair p).peerLeft = (s.pair p).peerLeft := by
  rw [hostLeave_of_leaving _ h, upgradeLeave_pair]
  exact ⟨rfl, rfl⟩

theorem hostLeave_purged (abort : Bool) (hp : (s.pair p).state = .active)
    (hlast : ∀ q, q ≠ p → (s.pair q).state ≠ .active) : Purged s (hostLeave abort p s) := by
  rw [hostLeave_of_active _ hp]
  cases abort with
  | true => exact abortLeave_purged hp hlast
  | false => exact gracefulLeave_host_purged hp hlast

/-- What the queue holds after the abort that DISABLE-PAIR starts or upgrades. -/
theorem hostLeave_aborted (h : s.leavesFor p true) (hlaw : LineQueueLaw (s.port p)) (hack : (s.pair p).waitAck = none)
    (hjoin : (s.pair p).waitJoin = false) (hren : (s.pair p).renewal = false)
    (hused : ((s.port p).queue.filter fun e => !e.handed) ≠ [] →
      ((s.port p).queue.filter (·.handed)).length + (s.port p).residue.length = 2) :
    Aborted p ((s.pair p).state = .leaving ∧ ((s.pair p).leaveTaken = true ∨
      ∃ e ∈ (s.port p).queue.filter (·.handed), ∃ why, e.frag = .leave why)) s (hostLeave true p s) := by
  obtain h | ⟨h, -, -⟩ := h
  · rw [hostLeave_of_active _ h]
    exact abortLeave_aborted h hlaw hused fun hgone => absurd (h.symm.trans hgone.1) (by decide)
  · rw [hostLeave_of_leaving _ h]
    exact upgradeLeave_aborted hlaw hack hjoin hren ((leaveGone_iff s p).trans (and_iff_right h).symm)

/-- DISABLE-PAIR in no leave: refused, answered at once, or the pair parked. -/
theorem disablePair_in_no_leave (s : State) (tag : Octet) (p : PairNo) (abort : Bool) :
    let body : List Octet := [BitVec.ofNat 8 p.val, if abort then 2 else 1]
    let m : Message := ⟨0x12, tag, body⟩
    ReadyFor m s →
    (s.mgmt.fitted ≤ p.val → exec (.disablePair tag body) s = .next (answered m 4 [] s)) ∧
    (p.val < s.mgmt.fitted →
      ((s.pair p).state = .vacant ∨ (s.pair p).state = .faulted → exec (.disablePair tag body) s =
        .next (answered m 0 [] (s.modPair p fun r => { r with enabled := false }))) ∧
      ((s.pair p).state = .parked → exec (.disablePair tag body) s =
        .next (answered m 0 [] (s.modPair p fun r => { r with enabled := false, reason := .host }))) ∧
      ((s.pair p).state = .training ∨ (s.pair p).state = .settling ∨ (s.pair p).state = .joining ∨
          (s.pair p).state = .quarantine →
        ∃ t, exec (.disablePair tag body) s = .next t ∧ (t.pair p).enabled = false ∧ (t.pair p).state = .parked ∧
          (t.pair p).reason = .host ∧ (t.pair p).stateTimer = none ∧ (t.port p).order = .quiet ∧
          (t.port p).queue = [] ∧ LifeFrame p (answered m 0 [] s) t ∧ t.now = s.now)) := by
  intro body m hready
  refine ⟨fun hfit => ?_, fun hfit => ⟨fun h => ?_, fun h => ?_, fun h => ?_⟩⟩
  · rw [exec_disablePair rfl hready, judgeDisablePair_of_pair,
      if_neg (show ¬p.val < (removeHead s).mgmt.fitted from Nat.not_lt.2 hfit), refuse_placed]
    rfl
  · rw [exec_disablePair_fitted hfit hready, disable_rests (s := removeHead s) abort h, done_modPair_placed]
  · rw [exec_disablePair_fitted hfit hready, disable_parked (s := removeHead s) abort h, done_modPair_placed]
  · have hexec := exec_disablePair_fitted hfit hready
    rw [disable_parks (s := removeHead s) abort h] at hexec
    have hrec := disabled_pair p (removeHead s)
    have hframe := disabled_frame p (removeHead s)
    obtain ⟨horder, hqueue⟩ := disabled_port p (removeHead s)
    generalize disabled p (removeHead s) = v at *
    obtain ⟨hpair, hport⟩ := (redecide_frame v).idle p (by rw [State.isActive, hrec]; rfl)
    refine ⟨_, hexec, ?_, ?_, ?_, ?_, ?_, ?_, (hframe.life.trans (redecide_life p v)).replied m .ok [],
      (redecide_frame v).now.trans hframe.now⟩ <;> simp only [Answer.placed, done, replied_pair, replied_port]
    · rw [hpair, hrec]
      rfl
    · rw [hpair, hrec]
      rfl
    · rw [hpair, hrec]
      rfl
    · rw [hpair, hrec]
      rfl
    · rw [hport, horder]
    · rw [hport, hqueue]

/-- DISABLE-PAIR that starts or upgrades a leave. -/
theorem disablePair_leaves {tag : Octet} {abort : Bool} (hfit : p.val < s.mgmt.fitted)
    (hready : ReadyFor ⟨0x12, tag, [BitVec.ofNat 8 p.val, if abort then 2 else 1]⟩ s) (h : s.leavesFor p abort) :
    ∃ t, exec (.disablePair tag [BitVec.ofNat 8 p.val, if abort then 2 else 1]) s = .next t ∧
      t.pair p = (hostLeave abort p (removeHead s)).pair p ∧ t.port p = (hostLeave abort p (removeHead s)).port p ∧
      LifeFrame p (answered ⟨0x12, tag, [BitVec.ofNat 8 p.val, if abort then 2 else 1]⟩ 2 [] s) t ∧ t.now = s.now ∧
      ((s.pair p).state = .active → (∀ q, q ≠ p → (s.pair q).state ≠ .active) → Purged s t) := by
  have hexec := exec_disablePair_fitted hfit hready
  rw [disable_leaves (s := removeHead s) h] at hexec
  have hleave := hostLeave_hostLeave (s := removeHead s) h
  obtain ⟨hpair, hport⟩ := (redecide_frame (hostLeave abort p (removeHead s))).idle p
    (by rw [State.isActive, hleave.state]; rfl)
  refine ⟨_, hexec, hpair, hport, (hleave.frame.life.trans (redecide_life p _)).replied _ .accepted [],
    (redecide_frame _).now.trans hleave.frame.now, fun hp hlast => ?_⟩
  exact ((hostLeave_purged (s := removeHead s) abort hp hlast).before (removeHead_same s)).redecide.after
    (replied_same _ .accepted [] _)

/-- Settles O25: the table of R67 by the pair's state. -/
theorem disablePairFollowsItsTable : Obligations.DisablePairFollowsItsTable := by
  unfold Obligations.DisablePairFollowsItsTable
  refine ⟨fun s tag o mode h hready => ?_, disablePair_in_no_leave, fun s tag p abort => ?_⟩
  · rw [exec_disablePair rfl hready, judgeDisablePair_refused h, refuse_placed]
    rfl
  · intro body m hready hfit
    refine ⟨fun h hr hform => ?_, fun h hr ha => ?_, fun h => ?_⟩
    · rw [exec_disablePair_fitted hfit hready, disable_busy (s := removeHead s) h hr hform, refuse_placed]
      rfl
    · subst ha
      rw [exec_disablePair_fitted hfit hready, disable_joins_leave (s := removeHead s) h hr]
      rfl
    · obtain ⟨t, hexec, hpair, hport, hlife, hnow, hpurged⟩ := disablePair_leaves hfit hready h
      have hleave := hostLeave_hostLeave (s := removeHead s) h
      refine ⟨t, hexec, by rw [hpair, hleave.state], by rw [hpair, hleave.reason], by rw [hpair, hleave.form],
        by rw [hpair, hleave.enabled], by rw [hpair, hleave.hostDisable], hlife, hnow, fun hp => ?_, fun hp => ?_,
        hpurged, fun ha => ?_, fun ha hlaw hack hjoin hren => ?_⟩
      · rw [hpair]
        exact hostLeave_timer (s := removeHead s) abort hp
      · rw [hpair]
        exact hostLeave_upgrade (s := removeHead s) abort hp
      · subst ha
        have hp : (s.pair p).state = .active := h.resolve_right fun h' => Bool.false_ne_true h'.2.1
        have hgraceful : hostLeave false p (removeHead s) = gracefulLeave p .host (removeHead s) := if_pos hp
        rw [hgraceful] at hpair hport
        exact ((gracefulLeave_host_placed (s := removeHead s) hp).after hpair hport).before rfl rfl
      · subst ha
        intro handed staged gone hused
        obtain ⟨hwaits, htaken, hwith, hkept, hplaced⟩ :=
          hostLeave_aborted (s := removeHead s) h hlaw hack hjoin hren hused
        rw [hpair, hport]
        exact ⟨hwaits, htaken, fun _ => hwith, hkept, hplaced⟩

end Sys2Proof.Machine

/-! PROOFS. CONFIGURE-PAIR (R68): the derate, the rate test it makes, and the last fragment of a frame decided afresh under
the new rate (O23). -/

namespace Sys2Proof.Machine

variable {p : PairNo} {s t u v : State} {plan : SplitPlan}

/-! ### The derate (R68) -/

/-- The pair's derate replaced. -/
def State.derated (s : State) (p : PairNo) (d : Nat) : State := s.modPair p fun r => { r with derate := d }

theorem derated_pair (p q : PairNo) (d : Nat) (s : State) :
    (s.derated p d).pair q = { s.pair q with derate := if q = p then d else (s.pair q).derate } := by
  by_cases h : q = p
  · subst h
    simp [State.derated]
  · rw [State.derated, pair_modPair_ne h, if_neg h]

theorem derated_usable (p : PairNo) (d : Nat) (s : State) :
    (s.derated p d).usable p = decide (64 ≤ (s.port p).report.upRate * d / 100) := by
  rw [State.usable, State.effUp, derated_pair, if_pos rfl]
  rfl

/-- No event at a pair depends on a derate. -/
theorem pairEvent_derated (p : PairNo) (d : Nat) (s : State) (c : Instr) :
    pairEvent (s.derated p d) c = pairEvent s c := by
  have hpair := fun q => derated_pair p q d s
  cases c with
  | holdoffTimerExpiry q | joinTimerExpiry q | leaveTimerExpiry q | penaltyTimerExpiry q =>
    simp only [pairEvent, State.runs, hpair]
  | progressTimerExpiry q =>
    simp only [pairEvent, hpair]
  | joinRepeatTimerExpiry q =>
    simp only [pairEvent, State.joinOutstanding, State.isActive, hpair]
    rfl
  | disablePair tag body =>
    simp only [pairEvent, disableMoves, hpair]
    rfl
  | _ => rfl

theorem eventWaits_derated (p : PairNo) (d : Nat) (s : State) : (s.derated p d).eventWaits = s.eventWaits := by
  have hpending : (s.derated p d).pending = s.pending := rfl
  unfold State.eventWaits
  rw [hpending]
  cases s.pending with
  | nil => rfl
  | cons c l => exact pairEvent_derated p d s c

/-! ### The rate test (R45, R55) -/

theorem rateTest_settling (h : (s.pair p).state = .settling) (ht : (s.pair p).stateTimer = none) :
    rateTest p s = if s.usable p then enterJoining p (s.pair p).reason s else setReason p .lowRate s := by
  rw [rateTest, h]
  simp only [ht, Option.isNone_none, if_true]
  rfl

theorem rateTest_active (h : (s.pair p).state = .active) :
    rateTest p s = if s.usable p then s else gracefulLeave p .lowRate s := by
  rw [rateTest, h]
  rfl

/-- A pair that is not ACTIVE, and not one in SETTLING whose holdoff is served, is not tested [23]. -/
theorem rateTest_untested (h : (s.pair p).state = .settling ∧ (s.pair p).stateTimer ≠ none ∨
    ((s.pair p).state ≠ .settling ∧ (s.pair p).state ≠ .active)) : rateTest p s = s := by
  unfold rateTest
  split
  · rename_i hs
    have ht : (s.pair p).stateTimer.isNone = false := by
      simpa [← Option.isSome_iff_ne_none] using (h.resolve_right fun h' => h'.1 hs).2
    rw [ht]
    rfl
  · rename_i ha
    rcases h with h | h
    · rw [h.1] at ha
      cases ha
    · exact absurd ha h.2
  · rfl

/-- A rate test leaves the derate alone. -/
theorem rateTest_derate (p : PairNo) (s : State) : ((rateTest p s).pair p).derate = (s.pair p).derate := by
  unfold rateTest
  split
  · split
    · rw [settlingRateTest]
      split
      · rw [(enterJoining_at p _ s).2]
        rfl
      · rw [setReason, pair_modPair]
    · rfl
  · rw [activeRateTest]
    split
    · rfl
    · rw [gracefulLeave_lowRate, placeLeave_record, startTimer, pair_modPair, pair_modPair, enter_record]
      rfl
  · rfl

/-- A pair that is not ACTIVE after its rate test is left so by the re-decision. -/
theorem redecide_rested (h : (s.pair p).state ≠ .active) :
    (redecide s).pair p = s.pair p ∧ (redecide s).port p = s.port p :=
  (redecide_frame s).idle p (by simp [State.isActive, h])

/-! ### The last fragment of a frame, decided afresh (R114 to R118) -/

/-- The last fragment of the frame being split waits, for `p` alone: held, or in a stopped run that does not stop again. -/
structure LastDecided (p : PairNo) (plan : SplitPlan) (v : State) : Prop where
  split : v.disp.split = some plan
  held : v.disp.held = true
  goesOn : v.mayStop = false
  last : plan.current = plan.k
  alone : ∀ q, q ≠ p → (v.pair q).state ≠ .active
  eligible : v.eligible plan.size p = true
  empty : ∀ c, (v.cls c).frames = []

/-- With the last fragment placed, its pair's reference stands at the next number, so no renewal is due (R8, R9). -/
theorem lastPlaced_no_renewal (alone : ∀ q, q ≠ p → (v.pair q).state ≠ .active) (plan : SplitPlan) (q : PairNo) :
    ((lastPlaced p plan v).isActive q && (lastPlaced p plan v).renewalPends q) = false := by
  rw [Bool.eq_false_iff, ne_eq, renewalPends_iff]
  rintro ⟨hactive, hpends⟩
  by_cases hq : q = p
  · subst hq
    simp [lastPlaced_pair, lastPlaced_disp] at hpends
  · rw [lastPlaced_pair_ne plan v hq] at hactive
    exact alone q hq hactive

theorem LastDecided.nothing (h : LastDecided p plan v) : NothingToSplit (lastPlaced p plan v) := by
  have hclasses : (lastPlaced p plan v).classes = v.classes :=
    (finishFrame_finished plan _).classes.trans (placeFragment_placed p plan v).classes
  refine ⟨by rw [lastPlaced_disp], fun c => ?_⟩
  rw [State.cls, hclasses]
  exact h.empty c

/-- The run places the fragment, finds no frame and asks for one (R105, R115, R116). -/
theorem LastDecided.dispatchRun_eq (h : LastDecided p plan v) (n : Nat) :
    dispatchRun (n + 4) false v = (lastPlaced p plan v).asking := by
  have hchoose : choose v plan.size = some p := choose_eq_some h.eligible fun q hq he =>
    absurd ((eligible_iff v plan.size q).1 he).1 (h.alone q hq)
  have hmove := dispatchMove_of_chosen h.split hchoose
  rw [if_pos h.last] at hmove
  calc dispatchRun (n + 4) false v = dispatchRun (n + 3) true (lastPlaced p plan v) := dispatchRun_move h.goesOn hmove _
    _ = dispatchRun (n + 2) false (lastPlaced p plan v) :=
      dispatchRun_owed_idle (lastPlaced_no_renewal h.alone plan) _
    _ = (lastPlaced p plan v).asking := dispatchRun_of_nothing h.nothing _

theorem LastDecided.redecide_eq (h : LastDecided p plan v) : redecide v = drainTells (lastPlaced p plan v).asking := by
  rw [redecide, if_pos h.held, dispatch]
  exact congrArg drainTells (h.dispatchRun_eq 124)

/-- The state `t` is `v` with the last fragment of `plan` placed on `p`, its frame done, and the next one asked for. -/
structure LastSent (p : PairNo) (plan : SplitPlan) (v t : State) : Prop where
  disp : t.disp = { next := v.disp.next + 1, split := none, held := false, standing := true }
  frags : (t.port p).queue.map (·.frag) = (v.port p).queue.map (·.frag) ++ [plan.fragment v.disp.next]
  outRef : (t.pair p).outRef = some (v.disp.next + 1)
  renewal : (t.pair p).renewal = false
  usedOut : t.cells.usedOut = v.cells.usedOut - plan.cells
  fragments : t.counter .fragmentsDispatched = countUp (v.counter .fragmentsDispatched) 1
  frames : t.counter .framesDispatched = countUp (v.counter .framesDispatched) 1
  holds : t.counter .dispatchHolds = v.counter .dispatchHolds

theorem lastPlaced_sent (p : PairNo) (plan : SplitPlan) (v : State) : LastSent p plan v (lastPlaced p plan v).asking := by
  have hp := placeFragment_placed p plan v
  have hd : FrameFinished plan (placeFragment p plan v) (lastPlaced p plan v) := finishFrame_finished plan _
  have hdisp := lastPlaced_disp p plan v
  have hfrags := lastPlaced_frags p plan v
  have hpair := lastPlaced_pair p plan v
  generalize lastPlaced p plan v = w at *
  have hasking : w.asking.pair p = w.pair p := rfl
  refine ⟨?_, hfrags, by rw [hasking, hpair], by rw [hasking, hpair], hd.usedOut.trans (by rw [hp.cells]),
    hd.fragments.trans hp.dispatched, hd.frames.trans (by rw [hp.counter _ (by decide)]),
    hd.holds.trans (by rw [hp.counter _ (by decide)])⟩
  rw [State.asking, State.modDisp]
  dsimp only
  rw [hdisp]

theorem LastSent.drained (h : LastSent p plan v t) : LastSent p plan v (drainTells t) := by
  have hd := drainTells_frame t
  have hk := drainTells_outbound t
  have hpair := pair_congr hd.pairs p
  exact ⟨hd.disp.trans h.disp, by rw [port_congr hd.ports, h.frags], by rw [hpair, h.outRef], by rw [hpair, h.renewal],
    hk.usedOut.trans h.usedOut, (hk.counter _ rfl).trans h.fragments, (hk.counter _ rfl).trans h.frames,
    (hk.counter _ rfl).trans h.holds⟩

theorem LastDecided.redecide_sent (h : LastDecided p plan v) : LastSent p plan v (redecide v) := by
  rw [h.redecide_eq]
  exact (lastPlaced_sent p plan v).drained

/-! ### The request -/

theorem exec_configurePair {tag : Octet} {body : List Octet} (hb : body.length = 2) (h : ReadyFor ⟨0x10, tag, body⟩ s) :
    exec (.configurePair tag body) s =
      .next ((withPair body (judgeConfigurePair body) (removeHead s)).placed ⟨0x10, tag, body⟩) := by
  show Host.Outcome.next (intake _ (withLength 2 body (withPair body (judgeConfigurePair body))) s) = _
  rw [intake_of_ready h, withLength_eq hb]

/-- The request's effect before its reply: the derate brought into its range, the rate test and the re-decision. -/
def configured (p : PairNo) (d : Nat) (s : State) : State := redecide (rateTest p ((removeHead s).derated p d))

/-- CONFIGURE-PAIR for a fitted pair answers OK, or OK-CLAMPED where the derate was out of its range. -/
theorem exec_configurePair_fitted {tag d : Octet} (hfit : p.val < s.mgmt.fitted)
    (h : ReadyFor ⟨0x10, tag, [BitVec.ofNat 8 p.val, d]⟩ s) :
    exec (.configurePair tag [BitVec.ofNat 8 p.val, d]) s =
      .next ((configured p (min 100 (max 50 d.toNat)) s).replied ⟨0x10, tag, [BitVec.ofNat 8 p.val, d]⟩
        (if 50 ≤ d.toNat ∧ d.toNat ≤ 100 then .ok else .okClamped) []) := by
  have hclamped : (min 100 (max 50 d.toNat) != d.toNat) = decide ¬(50 ≤ d.toNat ∧ d.toNat ≤ 100) := by
    rw [bne, beq_eq_decide, ← decide_not]
    exact decide_eq_decide.2 (by omega)
  rw [exec_configurePair rfl h, withPair_of_pair, if_pos (show p.val < (removeHead s).mgmt.fitted from hfit),
    judgeConfigurePair, field_one_one, clamp_eq (by decide), hclamped, Answer.placed, doneClamped]
  by_cases hd : 50 ≤ d.toNat ∧ d.toNat ≤ 100
  · simp only [hd, and_self, not_true, decide_false, Bool.false_eq_true, if_false, if_true]
    rfl
  · simp only [hd, not_false_eq_true, decide_true, if_true, if_false]
    rfl

section

variable {d : Nat}

theorem configured_life (p : PairNo) (d : Nat) (s : State) :
    LifeFrame p (removeHead s) (configured p d s) ∧ (configured p d s).now = s.now := by
  have hframe := (modPair_frame p (fun r => { r with derate := d }) (removeHead s)).trans
    (rateTest_frame p ((removeHead s).derated p d))
  exact ⟨hframe.life.trans (redecide_life p _), (redecide_frame _).now.trans hframe.now⟩

theorem configured_derate (p : PairNo) (d : Nat) (s : State) : ((configured p d s).pair p).derate = d := by
  rw [configured, (redecide_frame _).pairs p]
  dsimp only
  rw [rateTest_derate, derated_pair, if_pos rfl]

theorem configured_joins (h : (s.pair p).state = .settling) (ht : (s.pair p).stateTimer = none)
    (hrate : 64 ≤ (s.port p).report.upRate * d / 100) : ((configured p d s).pair p).state = .joining ∧
      ((configured p d s).pair p).reason = (s.pair p).reason := by
  obtain ⟨hstate, hreason, -⟩ := redecide_control p (rateTest p ((removeHead s).derated p d))
  rw [configured, hstate, hreason, rateTest_settling (by rw [derated_pair]; exact h) (by rw [derated_pair]; exact ht),
    derated_usable, if_pos (decide_eq_true (show 64 ≤ ((removeHead s).port p).report.upRate * d / 100 from hrate)),
    (enterJoining_pair ..).1, (enterJoining_pair ..).2.1, derated_pair]
  exact ⟨rfl, rfl⟩

theorem configured_slow (h : (s.pair p).state = .settling) (ht : (s.pair p).stateTimer = none)
    (hrate : (s.port p).report.upRate * d / 100 < 64) : ((configured p d s).pair p).state = .settling ∧
      ((configured p d s).pair p).reason = .lowRate := by
  obtain ⟨hstate, hreason, -⟩ := redecide_control p (rateTest p ((removeHead s).derated p d))
  have husable : ((removeHead s).derated p d).usable p = false := by
    rw [derated_usable]
    exact decide_eq_false (Nat.not_le.2 hrate)
  rw [configured, hstate, hreason, rateTest_settling (by rw [derated_pair]; exact h) (by rw [derated_pair]; exact ht),
    husable, if_neg Bool.false_ne_true, setReason, pair_modPair, derated_pair]
  exact ⟨h, rfl⟩

/-- An ACTIVE pair that is usable under the new rate is not moved by its rate test. -/
theorem configured_usable (h : (s.pair p).state = .active) (hrate : 64 ≤ (s.port p).report.upRate * d / 100) :
    configured p d s = redecide ((removeHead s).derated p d) := by
  rw [configured, rateTest_active (by rw [derated_pair]; exact h), derated_usable,
    if_pos (decide_eq_true (show 64 ≤ ((removeHead s).port p).report.upRate * d / 100 from hrate))]

theorem configured_stays (h : (s.pair p).state = .active) (hrate : 64 ≤ (s.port p).report.upRate * d / 100) :
    ((configured p d s).pair p).state = .active ∧ ((configured p d s).pair p).reason = (s.pair p).reason := by
  obtain ⟨hstate, hreason, -⟩ := redecide_control p ((removeHead s).derated p d)
  rw [configured_usable h hrate, hstate, hreason, derated_pair]
  exact ⟨h, rfl⟩

theorem configured_leaves (h : (s.pair p).state = .active) (hrate : (s.port p).report.upRate * d / 100 < 64) :
    ((configured p d s).pair p).state = .leaving ∧ ((configured p d s).pair p).reason = .lowRate ∧
    ((configured p d s).pair p).leaveForm = .graceful ∧
    ((configured p d s).pair p).stateTimer = some (.leave, s.now + s.cfg.leaveTimeout) ∧
    LeavePlaced p .lowRate s (configured p d s) := by
  have hactive : (((removeHead s).derated p d).pair p).state = .active := by
    rw [derated_pair]
    exact h
  have husable : ((removeHead s).derated p d).usable p = false := by
    rw [derated_usable]
    exact decide_eq_false (Nat.not_le.2 hrate)
  have hplaced := gracefulLeave_placed hactive
  obtain ⟨hstate, hreason, hform, htimer⟩ := gracefulLeave_pair p ((removeHead s).derated p d)
  obtain ⟨hpair, hport⟩ := redecide_rested (p := p) (s := gracefulLeave p .lowRate ((removeHead s).derated p d))
    (by rw [hstate]; decide)
  rw [configured, rateTest_active hactive, husable, if_neg Bool.false_ne_true, hpair]
  exact ⟨hstate, hreason, hform, htimer, (hplaced.after hpair hport).before rfl rfl⟩

theorem configured_untested (h : (s.pair p).state = .settling ∧ (s.pair p).stateTimer ≠ none ∨
    ((s.pair p).state ≠ .settling ∧ (s.pair p).state ≠ .active)) :
    (configured p d s).pair p = { s.pair p with derate := d } := by
  have hpair : ((removeHead s).derated p d).pair p = { s.pair p with derate := d } := by
    rw [derated_pair, if_pos rfl]
    rfl
  rw [configured, rateTest_untested (by rw [hpair]; exact h), (redecide_rested ?_).1, hpair]
  rw [hpair]
  rcases h with h | h
  · simp [h.1]
  · exact h.2

/-- The last fragment waits for the pair alone, once the request has left the input buffer. -/
theorem derated_lastDecided {ref : Seq} (h : (s.pair p).state = .active)
    (halone : ∀ q, q ≠ p → (s.pair q).state ≠ .active) (hrate : 64 ≤ (s.port p).report.upRate * d / 100)
    (hsplit : s.disp.split = some plan) (hlast : plan.current = plan.k) (hheld : s.disp.held = true)
    (hgo : s.disp.midRun = false ∨ (removeHead s).eventWaits = false) (hempty : ∀ c, (s.cls c).frames = [])
    (href : (s.pair p).outRef = some ref) (hdist : dist s.disp.next ref ≤ 8190)
    (hlen : (s.port p).queue.length < 4) (hroom : (s.port p).backlog + plan.size ≤ 3072) :
    LastDecided p plan ((removeHead s).derated p d) := by
  refine ⟨hsplit, hheld, ?_, hlast, fun q hq => ?_, ?_, hempty⟩
  · rcases hgo with hmid | hevent
    · have hsame : ((removeHead s).derated p d).disp = s.disp := rfl
      rw [State.mayStop, hsame, hsplit, hheld, hmid]
      simp
    · exact mayStop_of_no_event ((eventWaits_derated p d _).trans hevent)
  · rw [derated_pair]
    exact halone q hq
  · rw [eligible_iff, derated_pair, if_pos rfl]
    exact ⟨h, hrate, hlen, hroom, ref, href, hdist⟩

end

/-- Settles O23: the rate test by the pair's state, then the fragment that waits decided afresh. -/
theorem configurePairSetsTheDerate : Obligations.ConfigurePairSetsTheDerate := by
  unfold Obligations.ConfigurePairSetsTheDerate
  refine ⟨fun s tag o d ho hready => ?_, fun s tag d p => ?_⟩
  · rw [exec_configurePair rfl hready, withPair_of_gt ho]
    rfl
  · intro body m derate rate status hready
    refine ⟨fun hfit => ?_, fun hfit => ?_⟩
    · rw [exec_configurePair rfl hready, withPair_of_pair,
        if_neg (show ¬p.val < (removeHead s).mgmt.fitted from Nat.not_lt.2 hfit), refuse_placed]
      rfl
    · obtain ⟨hlife, hnow⟩ := configured_life p derate s
      have hanswered : LifeFrame p (answered m status [] s)
          ((configured p derate s).replied m (if 50 ≤ d.toNat ∧ d.toNat ≤ 100 then .ok else .okClamped) []) := by
        have hsame : (removeHead s).replied m (if 50 ≤ d.toNat ∧ d.toNat ≤ 100 then .ok else .okClamped) [] =
            answered m status [] s := by
          simp only [status]
          split <;> rfl
        exact hsame ▸ hlife.replied m _ []
      refine ⟨_, exec_configurePair_fitted hfit hready, configured_derate p derate s, hanswered, hnow,
        configured_joins, configured_slow, configured_stays, fun h hrate => ?_, configured_untested, ?_⟩
      · obtain ⟨hstate, hreason, hform, htimer, hplaced⟩ := configured_leaves h hrate
        exact ⟨hstate, hreason, hform, htimer, hplaced.after rfl rfl⟩
      · intro plan ref h halone hrate hsplit hlast hheld hgo hempty href hdist hlen hroom
        obtain ⟨hdisp, hfrags, href', hrenewal, hused, hfragments, hframes, hholds⟩ := (derated_lastDecided (p := p)
          (d := derate) h halone hrate hsplit hlast hheld hgo hempty href hdist hlen hroom).redecide_sent
        rw [← configured_usable h hrate] at hdisp hfrags href' hrenewal hused hfragments hframes hholds
        exact ⟨hdisp, hfrags, href', hrenewal, hused, hfragments, hframes, hholds⟩

end Sys2Proof.Machine

/-! PROOFS. A REPORT without SHOWTIME (R46, R61 to R63): the retrain, the line drop and what each leaves (O29). -/

namespace Sys2Proof.Machine

variable {p : PairNo} {s t u v : State} {r : Report}

/-! ### Beside the pair (R39, R101) -/

theorem Purged.before_aside (h : Purged t u) (k : AsideKept s t) : Purged s u := by
  have hcls : ∀ c, t.cls c = s.cls c := fun c => by rw [State.cls, State.cls, k.classes]
  refine ⟨fun c => by rw [h.classes c, hcls c], by rw [h.disp, k.disp], ?_, fun hu => h.cells ?_, fun hm => ?_⟩
  · rw [h.counted, k.noPath, k.disp]
    simp only [hcls]
  · rw [k.usedOut, hu, k.disp]
    simp only [State.queued, hcls]
  · rw [h.bond (by rw [k.frame.event.mask, hm]), k.notices _ rfl]

theorem Purged.after_aside (h : Purged s t) (k : AsideKept t u) : Purged s u :=
  ⟨fun c => (by rw [State.cls, State.cls, k.classes] : u.cls c = t.cls c).trans (h.classes c), k.disp.trans h.disp,
    k.noPath.trans h.counted, fun hu => by rw [k.usedOut, h.cells hu], fun hm => (k.notices _ rfl).trans (h.bond hm)⟩

theorem rxReport_aside (p : PairNo) (s : State) : AsideKept s (rxReport p s) := by
  refine .of_inbound (rxReport_frame p s) (rxReport_inbound p s) ?_ fun q hq => ?_
  · unfold rxReport
    split
    · exact ((recomputeT_outbound s).trans (gapStep_outbound _)).trans (drainTells_outbound _)
    · exact .refl s
  · unfold rxReport
    split
    · rw [(rxFollow_delivery _).mark, recomputeT_mark, hq]
    · exact hq

theorem OutboundSame.refl (s : State) : OutboundSame s s := ⟨rfl, rfl, rfl, rfl, rfl, rfl⟩

theorem handover_same (p : PairNo) (s : State) : OutboundSame s (handover p s) := by
  unfold handover
  split
  · exact modPort_same p _ s
  · exact .refl s

theorem laterKept_same (p : PairNo) (r : Report) (s : State) : OutboundSame s (laterKept p r s) := by
  have hkept : OutboundSame s (keepReport p r s) := (modPort_same p _ s).trans (handover_same p _)
  unfold laterKept
  dsimp only
  split
  · exact hkept.trans (modPort_same p _ _)
  · exact hkept

/-- Whatever the order of the blocks, the Pair Controller and the dispatcher move between two stretches of the inbound
path (R75) [9]. -/
theorem laterReport_aside (p : PairNo) (r : Report) (s : State) : ∃ v, AsideKept (laterKept p r s) v ∧
    AsideKept (redecide (pairReport p r.line v)) (laterReport p r s) := by
  rw [laterReport_eq]
  generalize laterKept p r s = u
  have hb : AsideKept u (eitherFirst p r u).2 := by
    unfold eitherFirst
    split
    · exact race_aside u
    · exact .refl u
  split
  · exact ⟨_, hb.trans (rxReport_aside p _), .refl _⟩
  · exact ⟨_, hb, rxReport_aside p _⟩

/-! ### An entry that empties the queue (R31, R39) -/

/-- Pair `p` has entered between `s` and `t` a state outside the live set: its queue is emptied, the DATA counted, and with
the last ACTIVE pair the outbound half purged. -/
structure EntryEmptied (p : PairNo) (s t : State) : Prop where
  queue : (t.port p).queue = []
  residue : (s.port p).report.line ≠ .showtime → (s.port p).residue = [] → (t.port p).residue = []
  lost : LostOnDrop p s t
  retrains : (t.pair p).counter .retrains = (s.pair p).counter .retrains
  mark : t.mark p = none
  purged : (s.pair p).state = .active → (∀ q, q ≠ p → (s.pair q).state ≠ .active) → Purged s t

/-- Nothing is kept as residue where the line is not in SHOWTIME (R31). -/
theorem Port.entered_no_residue {new : PairState} {x : Port} (h : new.gateOpen = false)
    (hl : x.report.line ≠ .showtime) (hr : x.residue = []) (old : PairState) : (x.entered old new).residue = [] := by
  have hres : (x.ordered new.order).residue = [] := (x.ordered_residue new.order).elim (fun h => h.trans hr) id
  have hline : (x.ordered new.order).report = x.report := by rw [Port.ordered_eq]
  rw [Port.entered_closed h, Port.emptied, hres, hline, if_neg fun h => hl h.2]
  rfl

theorem enter_emptied {new : PairState} (h : new.gateOpen = false) (hl : leavesLive new = true) (p : PairNo)
    (why : Reason) (s : State) : EntryEmptied p s (enter p new why s) := by
  have hempties : entryEmpties (s.pair p).state new = true := by
    cases new with
    | settling | joining | active | leaving => cases h
    | _ => rfl
  refine ⟨enter_closed_queue p new why s h, fun hline hres => ?_, ?_, enter_counter p new why s (by decide),
    enter_mark hl p why s, fun hp hlast => enter_purged why hp hlast ?_⟩
  · rw [enter_port]
    exact Port.entered_no_residue h hline hres _
  · rw [LostOnDrop, enter_pair, if_pos hempties, pair_counter_countBy]
    rfl
  · rintro rfl
    cases h

theorem EntryEmptied.after (h : EntryEmptied p s t) (hport : u.port p = t.port p)
    (hlost : (u.pair p).counter .lostOnDrop = (t.pair p).counter .lostOnDrop)
    (hretrains : (u.pair p).counter .retrains = (t.pair p).counter .retrains)
    (hmark : u.mark p = t.mark p) (hsame : OutboundSame t u) : EntryEmptied p s u := by
  refine ⟨by rw [hport, h.queue], fun hl hr => by rw [hport, h.residue hl hr], hlost.trans h.lost,
    hretrains.trans h.retrains, hmark.trans h.mark, fun hp hlast => (h.purged hp hlast).after hsame⟩

/-! ### The three targets (R61, R62, R63) -/

/-- The flap test on a history that ends with this loss (R62). -/
def State.flapped (s : State) (p : PairNo) : Prop :=
  s.cfg.flapThreshold ≤ (addFlap s.now (s.pair p).flaps).countP fun t => s.now - t ≤ s.cfg.flapWindow * 1000

/-- Pair `p` has gone from `s` to PARKED with its host disable done. -/
structure HostParked (p : PairNo) (flaps : List Nat) (s t : State) : Prop where
  state : (t.pair p).state = .parked
  reason : (t.pair p).reason = if (s.pair p).enabled then .notReleased else .host
  done : (t.pair p).hostDisable = false
  flaps : (t.pair p).flaps = flaps

/-- Pair `p` has gone from `s` to QUARANTINE for its flapping. -/
structure Flapped (p : PairNo) (s t : State) : Prop where
  state : (t.pair p).state = .quarantine
  reason : (t.pair p).reason = .flapping
  flaps : (t.pair p).flaps = []
  timer : (t.pair p).stateTimer = some (.penalty, s.now + s.cfg.penalty * 1000)

/-- Pair `p` has gone to TRAINING for its line's loss. -/
structure LostToTraining (p : PairNo) (flaps : List Nat) (t : State) : Prop where
  state : (t.pair p).state = .training
  reason : (t.pair p).reason = .lineDrop
  flaps : (t.pair p).flaps = flaps
  timer : (t.pair p).stateTimer = none

theorem quarantine_emptied (p : PairNo) (why : Reason) (s : State) : EntryEmptied p s (quarantine p why s) := by
  have he := enter_emptied (new := .quarantine) rfl rfl p why s
  rw [quarantine]
  generalize enter p .quarantine why s = e at *
  have hpair : ((e.modPair p fun r => { r with flaps := [] }).countPair p .quarantines).pair p =
      { (e.pair p).countBy .quarantines 1 with flaps := [] } := by
    rw [countPair_pair, pair_modPair]
    rfl
  refine he.after rfl ?_ ?_ rfl (((modPair_same p _ e).trans (modPair_same p _ _)).trans (startTimer_same p _ _ _)) <;>
    rw [startTimer, pair_modPair, hpair]
  · exact pair_counter_countBy_ne (by decide) 1 (e.pair p)
  · exact pair_counter_countBy_ne (by decide) 1 (e.pair p)

theorem hostDone_park_emptied (p : PairNo) (s : State) : EntryEmptied p s (hostDone p (park p s)) := by
  refine (enter_emptied (new := .parked) rfl rfl p _ s).after (port_congr (hostDone_ports p _) p) ?_ ?_
    (hostDone_mark p p _) (hostDone_same p _) <;> rw [hostDone_pair] <;> rfl

theorem hostDone_park_parked (p : PairNo) (s : State) : HostParked p (s.pair p).flaps s (hostDone p (park p s)) := by
  have hrec := enter_record p .parked (parkedReason (s.pair p).enabled) s
  refine ⟨?_, ?_, ?_, ?_⟩ <;> rw [hostDone_pair, park, hrec] <;> rfl

theorem afterRetrain_emptied (p : PairNo) (s : State) : EntryEmptied p s (afterRetrain p s) := by
  unfold afterRetrain
  split
  · exact quarantine_emptied p _ s
  · exact enter_emptied (new := .training) rfl rfl p _ s

theorem afterRetrain_flapped (h : s.flapping p = true) : Flapped p s (afterRetrain p s) := by
  have hq := quarantine_quarantined p .flapping s
  rw [afterRetrain, if_pos h]
  exact ⟨hq.state, hq.reason, hq.flaps, hq.timer⟩

theorem afterRetrain_trains (h : s.flapping p = false) : LostToTraining p (s.pair p).flaps (afterRetrain p s) := by
  have hrec := enter_record p .training .lineDrop s
  rw [afterRetrain, if_neg (by simp [h])]
  refine ⟨?_, ?_, ?_, ?_⟩ <;> rw [hrec] <;> rfl

/-! ### The retrain is counted (R46, R61, R62) -/

theorem countRetrain_pair (p : PairNo) (s : State) : (countRetrain p s).pair p =
    { (s.pair p).countBy .retrains 1 with flaps := addFlap s.now (s.pair p).flaps } := by
  rw [countRetrain, pair_modPair, countPair_pair]
  rfl

theorem countRetrain_flapping (p : PairNo) (s : State) : (countRetrain p s).flapping p = true ↔ s.flapped p := by
  rw [State.flapping, countRetrain_pair]
  exact decide_eq_true_iff

/-- Pair `p` has lost its line between `s` and `t`: whether it `parks` tells the target. -/
structure LineLost (p : PairNo) (parks : Prop) (s t : State) : Prop where
  retrains : (t.pair p).counter .retrains = countUp ((s.pair p).counter .retrains) 1
  queue : (t.port p).queue = []
  residue : (s.port p).report.line ≠ .showtime → (s.port p).residue = [] → (t.port p).residue = []
  lost : LostOnDrop p s t
  mark : t.mark p = none
  purged : (s.pair p).state = .active → (∀ q, q ≠ p → (s.pair q).state ≠ .active) → Purged s t
  parked : parks → HostParked p (addFlap s.now (s.pair p).flaps) s t
  flapped : ¬parks → s.flapped p → Flapped p s t
  trains : ¬parks → ¬s.flapped p → LostToTraining p (addFlap s.now (s.pair p).flaps) t

theorem LineLost.not_active {parks : Prop} (h : LineLost p parks s t) : (t.pair p).state ≠ .active := by
  by_cases hp : parks
  · simp [(h.parked hp).state]
  · by_cases hf : s.flapped p
    · simp [(h.flapped hp hf).state]
    · simp [(h.trains hp hf).state]

/-- The retrain of a SETTLING pair (R46). -/
theorem retrain_lost (p : PairNo) (s : State) : LineLost p False s (retrain p s) := by
  have hpair := countRetrain_pair p s
  have he := afterRetrain_emptied p (countRetrain p s)
  have hflap := countRetrain_flapping p s
  refine ⟨?_, he.queue, he.residue, ?_, he.mark, fun hp hlast => ?_, False.elim, fun _ hf => ?_, fun _ hf => ?_⟩
  · refine he.retrains.trans ?_
    rw [hpair]
    exact pair_counter_countBy ..
  · refine he.lost.trans ?_
    rw [hpair]
    exact congrArg (countUp · _) (pair_counter_countBy_ne (by decide) 1 (s.pair p))
  · have hsame : OutboundSame s (countRetrain p s) := ⟨rfl, rfl, rfl, rfl, rfl, rfl⟩
    refine (he.purged ?_ fun q hq => ?_).before hsame
    · rw [hpair]
      exact hp
    · rw [(countRetrain_frame p s).pairs q hq]
      exact hlast q hq
  · obtain ⟨hstate, hreason, hflaps, htimer⟩ := afterRetrain_flapped (hflap.2 hf)
    exact ⟨hstate, hreason, hflaps, htimer⟩
  · have := afterRetrain_trains (Bool.eq_false_iff.2 (mt hflap.1 hf))
    rwa [hpair] at this

/-- The queue emptied, the pair out of the live set and the retrain counted: the line drop before its target is chosen. -/
def dropCounted (p : PairNo) (s : State) : State := countRetrain p (rxRemove p (emptyQueue p s))

theorem dropCounted_aside (p : PairNo) (s : State) : AsideKept (emptyQueue p s) (rxRemove p (emptyQueue p s)) :=
  rxRemove_aside p _

theorem dropCounted_pair (p : PairNo) (s : State) : (dropCounted p s).pair p =
    { ((s.pair p).countBy .lostOnDrop (dataCount (s.port p).queue)).countBy .retrains 1 with
      flaps := addFlap s.now (s.pair p).flaps } := by
  have hframe := (dropCounted_aside p s).frame
  rw [dropCounted, countRetrain_pair, pair_congr hframe.pairs p, hframe.now, emptyQueue_pair]
  rfl

theorem dropCounted_port (p : PairNo) (s : State) : (dropCounted p s).port p = (s.port p).emptied :=
  (port_congr (dropCounted_aside p s).frame.ports p).trans (emptyQueue_port p s)

theorem dropCounted_frame (p : PairNo) (s : State) : PairFrame p s (dropCounted p s) :=
  ((emptyQueue_frame p s).trans ((dropCounted_aside p s).frame.pairFrame p)).trans (countRetrain_frame p _)

theorem dropCounted_purged (h : Purged (dropCounted p s) t) : Purged s t := by
  have hcount : OutboundSame (rxRemove p (emptyQueue p s)) (dropCounted p s) := ⟨rfl, rfl, rfl, rfl, rfl, rfl⟩
  exact ((h.before hcount).before_aside (dropCounted_aside p s)).before (emptyQueue_same p s)

theorem dropCounted_flapping (p : PairNo) (s : State) : (dropCounted p s).flapping p = true ↔ s.flapped p := by
  have hframe := dropCounted_frame p s
  rw [State.flapping, dropCounted_pair, hframe.now, hframe.event.cfg]
  exact decide_eq_true_iff

theorem lineDrop_eq (p : PairNo) (s : State) : lineDrop p s =
    if (s.pair p).hostDisable then hostDone p (park p (dropCounted p s)) else afterRetrain p (dropCounted p s) := by
  have hdisable : ((dropCounted p s).pair p).hostDisable = (s.pair p).hostDisable := by
    rw [dropCounted_pair]
    rfl
  rw [← hdisable]
  rfl

/-- The second emptying, of the entry to the target, finds an empty queue and counts nothing (R31, R61). -/
theorem lineDrop_emptied (p : PairNo) (s : State) : EntryEmptied p (dropCounted p s) (lineDrop p s) := by
  rw [lineDrop_eq]
  split
  · exact hostDone_park_emptied p _
  · exact afterRetrain_emptied p _

/-- The line drop of a pair that has tried to join (R61). -/
theorem lineDrop_lost (p : PairNo) (s : State) : LineLost p ((s.pair p).hostDisable = true) s (lineDrop p s) := by
  have he := lineDrop_emptied p s
  have hpair := dropCounted_pair p s
  have hport := dropCounted_port p s
  have hframe := dropCounted_frame p s
  have hflap := dropCounted_flapping p s
  refine ⟨?_, he.queue, fun hl hr => he.residue ?_ ?_, ?_, he.mark,
    fun hp hlast => dropCounted_purged (he.purged ?_ fun q hq => ?_), fun hp => ?_, fun hp hf => ?_, fun hp hf => ?_⟩
  · refine he.retrains.trans ?_
    rw [hpair]
    exact (pair_counter_countBy ..).trans (congrArg (countUp · 1) (pair_counter_countBy_ne (by decide) _ (s.pair p)))
  · rw [hport]
    exact hl
  · rw [hport, Port.emptied, hr, if_neg fun h => hl h.2]
    rfl
  · have hlost := he.lost
    rw [LostOnDrop, hport, hpair] at hlost
    refine hlost.trans (.trans ?_ (countUp_countUp_zero ..))
    refine congrArg (countUp · 0) (.trans ?_ (pair_counter_countBy .lostOnDrop _ (s.pair p)))
    exact pair_counter_countBy_ne (by decide) 1 _
  · rw [hpair]
    exact hp
  · rw [hframe.pairs q hq]
    exact hlast q hq
  · obtain ⟨hstate, hreason, hdone, hflaps⟩ := hostDone_park_parked p (dropCounted p s)
    rw [hpair] at hreason hflaps
    rw [lineDrop_eq, if_pos hp]
    exact ⟨hstate, hreason, hdone, hflaps⟩
  · obtain ⟨hstate, hreason, hflaps, htimer⟩ := afterRetrain_flapped (hflap.2 hf)
    rw [hframe.now, hframe.event.cfg] at htimer
    rw [lineDrop_eq, if_neg hp]
    exact ⟨hstate, hreason, hflaps, htimer⟩
  · have := afterRetrain_trains (Bool.eq_false_iff.2 (mt hflap.1 hf))
    rw [lineDrop_eq, if_neg hp]
    rwa [hpair] at this

/-- What the Pair Controller makes of a report without SHOWTIME: a retrain or a line drop, by the pair's state. -/
theorem pairReport_lost {line : LineState} (hl : line ≠ .showtime) (h : (s.pair p).state = .settling ∨
    (s.pair p).state = .joining ∨ (s.pair p).state = .active ∨ (s.pair p).state = .leaving) :
    LineLost p ((s.pair p).state ≠ .settling ∧ (s.pair p).hostDisable = true) s (pairReport p line s) := by
  have hdrop := lineDrop_lost p s
  unfold pairReport
  rcases h with h | h | h | h <;> simp only [h, if_neg hl, ne_eq, not_true, false_and, reduceCtorEq, not_false_eq_true,
    true_and]
  · exact retrain_lost p s
  · exact hdrop
  · exact hdrop
  · exact hdrop

/-! ### The report (R61) -/

/-- The dispatcher and the inbound path leave a pair that has lost its line as it is. -/
theorem LineLost.after {parks : Prop} (h : LineLost p parks s t) (k : AsideKept (redecide t) u) :
    LineLost p parks s u := by
  obtain ⟨hpair, hport⟩ := redecide_rested h.not_active
  have hpair' : u.pair p = t.pair p := (pair_congr k.frame.pairs p).trans hpair
  have hport' : u.port p = t.port p := (port_congr k.frame.ports p).trans hport
  have hmark : u.mark p = none := k.live p (((redecide_delivery t).mark p).trans h.mark)
  obtain ⟨hretrains, hqueue, hresidue, hlost, -, hpurged, hparked, hflapped, htrains⟩ := h
  refine ⟨by rw [hpair', hretrains], by rw [hport', hqueue], fun hl hr => by rw [hport', hresidue hl hr],
    by rw [LostOnDrop, hpair', hlost], hmark, fun hp hlast => (hpurged hp hlast).redecide.after_aside k,
    fun hp => ?_, fun hp hf => ?_, fun hp hf => ?_⟩
  · obtain ⟨hstate, hreason, hdone, hflaps⟩ := hparked hp
    exact ⟨by rw [hpair', hstate], by rw [hpair', hreason], by rw [hpair', hdone], by rw [hpair', hflaps]⟩
  · obtain ⟨hstate, hreason, hflaps, htimer⟩ := hflapped hp hf
    exact ⟨by rw [hpair', hstate], by rw [hpair', hreason], by rw [hpair', hflaps], by rw [hpair', htimer]⟩
  · obtain ⟨hstate, hreason, hflaps, htimer⟩ := htrains hp hf
    exact ⟨by rw [hpair', hstate], by rw [hpair', hreason], by rw [hpair', hflaps], by rw [hpair', htimer]⟩

/-- A pair that loses its line from `t` loses it from `s`, where `t` differs by the report kept. -/
theorem LineLost.before {parks : Prop} (h : LineLost p parks t u) (hpairs : ∀ q, t.pair q = s.pair q)
    (hqueue : (t.port p).queue.map (·.frag) = (s.port p).queue.map (·.frag)) (hnow : t.now = s.now)
    (hcfg : t.cfg = s.cfg) (hline : (t.port p).report.line ≠ .showtime) (hres : (t.port p).residue = [])
    (hpurged : Purged t u → Purged s u) : LineLost p parks s u := by
  have hcount : (t.port p).queue.countP (·.frag.isData) = (s.port p).queue.countP (·.frag.isData) := by
    have := congrArg (List.countP (·.isData)) hqueue
    rwa [List.countP_map, List.countP_map] at this
  have hflap : t.flapped p ↔ s.flapped p := by rw [State.flapped, State.flapped, hpairs, hnow, hcfg]
  obtain ⟨hretrains, hempty, hresidue, hlost, hmark, hlast, hparked, hflapped, htrains⟩ := h
  rw [hpairs] at hretrains hlast hparked htrains
  rw [LostOnDrop, hpairs, hcount] at hlost
  rw [hnow] at hparked htrains
  refine ⟨hretrains, hempty, fun _ _ => hresidue hline hres, hlost, hmark,
    fun hp ha => hpurged (hlast hp fun q hq => by rw [hpairs]; exact ha q hq),
    fun hp => ?_, fun hp hf => ?_, fun hp hf => htrains hp (mt hflap.1 hf)⟩
  · obtain ⟨hstate, hreason, hdone, hflaps⟩ := hparked hp
    rw [hpairs] at hreason
    exact ⟨hstate, hreason, hdone, hflaps⟩
  · obtain ⟨hstate, hreason, hflaps, htimer⟩ := hflapped hp (hflap.2 hf)
    rw [hnow, hcfg] at htimer
    exact ⟨hstate, hreason, hflaps, htimer⟩

/-- A report without SHOWTIME leaves no residue (R29). -/
theorem laterKept_residue (hl : r.line ≠ .showtime) (p : PairNo) (s : State) :
    ((laterKept p r s).port p).residue = [] := by
  have hres : (((s.port p).reported r s.now).handAll (s.pair p).state.gateOpen).residue = [] := by
    rw [Port.handAll_frame]
    exact if_neg hl
  rw [laterKept_port, Port.corrected]
  split
  · rw [Port.orderSent_eq, Port.orderSent]
    split <;> simp [hres]
  · exact hres

theorem laterReport_lost (hl : r.line ≠ .showtime) (h : (s.pair p).state = .settling ∨ (s.pair p).state = .joining ∨
    (s.pair p).state = .active ∨ (s.pair p).state = .leaving) :
    LineLost p ((s.pair p).state ≠ .settling ∧ (s.pair p).hostDisable = true) s (laterReport p r s) ∧
    ((laterReport p r s).port p).residue = [] := by
  obtain ⟨v, huv, hwt⟩ := laterReport_aside p r s
  have hpairs : ∀ q, v.pair q = s.pair q := fun q => (pair_congr huv.frame.pairs q).trans (laterKept_pair p q r s)
  have hport : v.port p = (laterKept p r s).port p := port_congr huv.frame.ports p
  have hframe := laterKept_frame p r s
  have hline : (v.port p).report.line ≠ .showtime := by
    rw [hport, laterKept_report]
    exact hl
  have hres : (v.port p).residue = [] := by rw [hport, laterKept_residue hl]
  have hlost := (pairReport_lost (s := v) hl (by rw [hpairs]; exact h)).after hwt
  rw [hpairs] at hlost
  refine ⟨hlost.before hpairs (by rw [hport, (laterKept_queue p r s).1]) (huv.frame.now.trans hframe.now)
    (huv.frame.event.cfg.trans hframe.event.cfg) hline hres fun hp =>
      (hp.before_aside huv).before (laterKept_same p r s), hlost.residue hline hres⟩

/-- Settles O29: the retrain and the line drop, for the report that the clamps make of the message's fields. -/
theorem lineLossRetrains : Obligations.LineLossRetrains := by
  unfold Obligations.LineLossRetrains
  intro s p line up down upDelay downDelay hf hp hl h old flaps reached parks
  have hexec := exec_laterReport (line := line) (up := up) (down := down) (upDelay := upDelay) (downDelay := downDelay) hf hp
  have hline : (clampReport line up.toNat down.toNat upDelay.toNat downDelay.toNat).line ≠ .showtime := hl
  generalize clampReport line up.toNat down.toNat upDelay.toNat downDelay.toNat = r at *
  obtain ⟨hlife, hnow⟩ := laterReport_life p r s
  obtain ⟨hlost, hres⟩ := laterReport_lost hline h
  refine ⟨_, hexec, hnow, hlife, hlost.retrains, hlost.queue, hres, hlost.lost, hlost.mark, hlost.purged,
    fun hpark => ?_, fun hpark hr => ?_, fun hpark hr => ?_⟩
  · obtain ⟨hstate, hreason, hdone, hflaps⟩ := hlost.parked hpark
    exact ⟨hstate, hreason, hdone, hflaps⟩
  · obtain ⟨hstate, hreason, hflaps, htimer⟩ := hlost.flapped hpark hr
    exact ⟨hstate, hreason, hflaps, htimer⟩
  · obtain ⟨hstate, hreason, hflaps, htimer⟩ := hlost.trains hpark hr
    exact ⟨hstate, hreason, hflaps, htimer⟩

end Sys2Proof.Machine

/-! PROOFS. What the acts of the other blocks, the gap step and the pressure events leave of the receiver: its epoch, its
synchrony, and with an empty store all of it (R126, R128, R147 to R152). -/

namespace Sys2Proof.Machine

variable {s t u : State}

/-! ### The receiver stands still -/

/-- The counters of resynchronisation. -/
def syncCounters : List BondCounter := [.resyncs, .peerRestarts]

/-- Reorder Engine and resynchronisation counts are as before; the Frame Assembler may have taken octets. -/
structure RxSame (s t : State) : Prop where
  rx : t.rx = s.rx
  counter : ∀ c ∈ syncCounters, t.counter c = s.counter c
  flushDone : t.occurrences .flushDone = s.occurrences .flushDone

theorem RxSame.refl (s : State) : RxSame s s := ⟨rfl, fun _ _ => rfl, rfl⟩

theorem RxSame.trans (h : RxSame s t) (k : RxSame t u) : RxSame s u :=
  ⟨k.rx.trans h.rx, fun c hc => (k.counter c hc).trans (h.counter c hc), k.flushDone.trans h.flushDone⟩

theorem RxSame.of_eq (hr : t.rx = s.rx) (hn : t.mgmt.notices = s.mgmt.notices) (hc : t.counters = s.counters) :
    RxSame s t := ⟨hr, fun c _ => by simp [State.counter, hc], by simp [State.occurrences, hn]⟩

/-- The whole receiver is as before. -/
structure Still (s t : State) : Prop extends RxSame s t where
  asm : t.asm = s.asm
  broken : t.counter .broken = s.counter .broken

theorem Still.refl (s : State) : Still s s := ⟨.refl s, rfl, rfl⟩

theorem Still.trans (h : Still s t) (k : Still t u) : Still s u :=
  ⟨h.toRxSame.trans k.toRxSame, k.asm.trans h.asm, k.broken.trans h.broken⟩

theorem Still.of_eq (hr : t.rx = s.rx) (ha : t.asm = s.asm) (hn : t.mgmt.notices = s.mgmt.notices)
    (hc : t.counters = s.counters) : Still s t := ⟨.of_eq hr hn hc, ha, by simp [State.counter, hc]⟩

/-! ### Counters, notices and cells -/

theorem countBy_rxSame {c : BondCounter} (h : ∀ d ∈ syncCounters, d.place ≠ c.place) (n : Nat) (s : State) :
    RxSame s (s.countBy c n) := ⟨rfl, fun d hd => counter_countBy_ne (h d hd) n s, rfl⟩

theorem countBy_still {c : BondCounter} (h : ∀ d ∈ .broken :: syncCounters, d.place ≠ c.place) (n : Nat) (s : State) :
    Still s (s.countBy c n) :=
  ⟨countBy_rxSame (fun d hd => h d (List.mem_cons_of_mem _ hd)) n s, rfl,
    counter_countBy_ne (h _ List.mem_cons_self) n s⟩

theorem raise_still {i : NoticeInst} (h : NoticeInst.flushDone.place ≠ i.place) (s : State) : Still s (s.raise i) :=
  ⟨⟨raise_rx i s, fun c _ => by rw [State.counter, raise_counters, State.counter], occurrences_raise_ne h s⟩,
    raise_asm i s, by rw [State.counter, raise_counters, State.counter]⟩

theorem evalPressure_still (s : State) : Still s (evalPressure s) := by
  unfold evalPressure
  split
  · exact .refl s
  · refine Still.trans (t := if s.cells.pressed then s.count .pressureEntries else s) ?_ (.of_eq rfl rfl rfl rfl)
    split
    · exact countBy_still (by decide) 1 s
    · exact .refl s

theorem evalLevel_still (s : State) : Still s (evalLevel s) := by
  unfold evalLevel
  split
  · exact .refl s
  · exact (raise_still (by decide) s).trans (.of_eq rfl rfl rfl rfl)

theorem evaluate_still (s : State) : Still s (evaluate s) := (evalPressure_still s).trans (evalLevel_still _)

theorem returnCells_still (side : Side) (n : Nat) (s : State) : Still s (returnCells side n s) := by
  refine Still.trans ?_ (evaluate_still _)
  exact .of_eq rfl rfl rfl rfl

theorem requestCells_still {side : Side} {n : Nat} (h : requestCells side n s = some t) : Still s t := by
  unfold requestCells at h
  split at h
  · obtain rfl := Option.some.inj h
    refine Still.trans ?_ (evaluate_still _)
    exact .of_eq rfl rfl rfl rfl
  · cases h

/-! ### Frame Assembler -/

theorem setAsm_rxSame (a : Assembler) (s : State) : RxSame s (s.setAsm a) := .of_eq rfl rfl rfl

theorem count_return_rxSame {c : BondCounter} (h : ∀ d ∈ syncCounters, d.place ≠ c.place) (side : Side) (n : Nat)
    (s : State) : RxSame s (returnCells side n (s.count c)) :=
  (countBy_rxSame h 1 s).trans (returnCells_still side n _).toRxSame

theorem lanAccept_rxSame (f : LanFrame) (s : State) : RxSame s (lanAccept f s) := by
  unfold lanAccept
  split
  · split
    · exact count_return_rxSame (by decide) _ _ s
    · exact .of_eq rfl rfl rfl
  · exact count_return_rxSame (by decide) _ _ s

theorem asmComplete_rxSame (octets : List Octet) (n : Nat) (s : State) : RxSame s (asmComplete octets n s) := by
  unfold asmComplete
  split
  · exact (setAsm_rxSame _ s).trans (count_return_rxSame (by decide) _ _ _)
  · exact ((setAsm_rxSame _ s).trans (countBy_rxSame (by decide) 1 _)).trans (lanAccept_rxSame _ _)

theorem asmKeep_rxSame (soFar : List Octet) (held : Nat) (r : FragRecord) (s : State) :
    RxSame s (asmKeep soFar held r s) := by
  have hret := fun n x => (returnCells_still .inbound n x).toRxSame
  unfold asmKeep
  dsimp only
  split
  · exact ((setAsm_rxSame _ s).trans (count_return_rxSame (by decide) _ _ _)).trans (hret _ _)
  · split
    · exact (((setAsm_rxSame _ s).trans (hret _ _)).trans (hret _ _)).trans (countBy_rxSame (by decide) 1 _)
    · rename_i s' h
      have h' : RxSame s s' := by
        split at h
        · exact Option.some.inj h ▸ RxSame.refl s
        · exact (requestCells_still h).toRxSame
      have hk := fun octets n => (h'.trans (setAsm_rxSame (.collecting octets n) _)).trans (hret r.cells _)
      split
      · exact (hk _ _).trans (asmComplete_rxSame _ _ _)
      · exact hk _ _

theorem asmDiscard_rxSame {c : BondCounter} (h : ∀ d ∈ syncCounters, d.place ≠ c.place) (s : State) :
    RxSame s (asmDiscard c s) := by
  unfold asmDiscard
  split
  · exact count_return_rxSame h _ _ s
  · exact .refl s

theorem asmTake_rxSame (r : FragRecord) (s : State) : RxSame s (asmTake r s) := by
  unfold asmTake
  split
  · exact (asmDiscard_rxSame (by decide) s).trans (asmKeep_rxSame _ _ _ _)
  · exact count_return_rxSame (by decide) _ _ s
  · exact asmKeep_rxSame _ _ _ _
  · dsimp only
    refine RxSame.trans (RxSame.trans ?_ (setAsm_rxSame _ _)) (returnCells_still _ _ _).toRxSame
    split
    · exact .refl s
    · exact countBy_rxSame (by decide) 1 s

theorem asmLoss_rxSame (s : State) : RxSame s (asmLoss s) := by
  unfold asmLoss
  split
  · exact setAsm_rxSame _ s
  · exact (asmDiscard_rxSame (by decide) s).trans (setAsm_rxSame _ _)
  · exact .refl s

theorem asmResync_rxSame (s : State) : RxSame s (asmResync s) :=
  (asmDiscard_rxSame (by decide) s).trans (setAsm_rxSame _ _)

/-! ### What a gap step keeps -/

/-- What the gap step and what follows it keep of the receiver: live set, peer epoch and resynchronisation counts; the
synchrony while a pair is live; no flush where none is in flight; and over an empty store NES, the gap records and an idle
Frame Assembler. -/
structure SyncKept (s t : State) : Prop where
  live : t.rx.live = s.rx.live
  epoch : t.rx.peerEpoch = s.rx.peerEpoch
  counter : ∀ c ∈ syncCounters, t.counter c = s.counter c
  synced : t.rx.synced = true → s.rx.synced = true
  awake : ∀ q, (s.mark q).isSome = true → t.rx.synced = s.rx.synced
  flush : s.rx.flush = none → t.rx.flush = none ∧ t.occurrences .flushDone = s.occurrences .flushDone
  store : s.rx.window = [] → t.rx.window = [] ∧ t.rx.nes = s.rx.nes ∧ t.rx.gaps = s.rx.gaps
  idle : s.rx.window = [] → s.asm = .idle → t.asm = .idle ∧ t.counter .broken = s.counter .broken

theorem SyncKept.mark (h : SyncKept s t) (q : PairNo) : t.mark q = s.mark q := by simp only [State.mark, h.live]

theorem SyncKept.refl (s : State) : SyncKept s s :=
  ⟨rfl, rfl, fun _ _ => rfl, id, fun _ _ => rfl, fun h => ⟨h, rfl⟩, fun h => ⟨h, rfl, rfl⟩, fun _ h => ⟨h, rfl⟩⟩

theorem SyncKept.trans (h : SyncKept s t) (k : SyncKept t u) : SyncKept s u := by
  refine ⟨k.live.trans h.live, k.epoch.trans h.epoch, fun c hc => (k.counter c hc).trans (h.counter c hc),
    h.synced ∘ k.synced, fun q hq => (k.awake q (by rw [h.mark, hq])).trans (h.awake q hq), fun hf => ?_, fun hw => ?_,
    fun hw ha => ?_⟩
  · obtain ⟨hf', hn⟩ := h.flush hf
    exact ⟨(k.flush hf').1, (k.flush hf').2.trans hn⟩
  · obtain ⟨hw', hn, hg⟩ := h.store hw
    obtain ⟨hw'', hn', hg'⟩ := k.store hw'
    exact ⟨hw'', hn'.trans hn, hg'.trans hg⟩
  · obtain ⟨ha', hb⟩ := h.idle hw ha
    obtain ⟨ha'', hb'⟩ := k.idle (h.store hw).1 ha'
    exact ⟨ha'', hb'.trans hb⟩

theorem Still.sync (h : Still s t) : SyncKept s t :=
  ⟨by rw [h.rx], by rw [h.rx], h.counter, fun hs => h.rx ▸ hs, fun _ _ => by rw [h.rx],
    fun hf => ⟨by rw [h.rx, hf], h.flushDone⟩, fun hw => ⟨by rw [h.rx, hw], by rw [h.rx], by rw [h.rx]⟩,
    fun _ ha => ⟨h.asm.trans ha, h.broken⟩⟩

/-- An act on a store that is not empty, which keeps what it may. -/
theorem SyncKept.of_stored (hw : s.rx.window ≠ []) (hl : t.rx.live = s.rx.live) (he : t.rx.peerEpoch = s.rx.peerEpoch)
    (hs : t.rx.synced = s.rx.synced) (hf : t.rx.flush = s.rx.flush) (hc : ∀ c ∈ syncCounters, t.counter c = s.counter c)
    (hn : t.occurrences .flushDone = s.occurrences .flushDone) : SyncKept s t :=
  ⟨hl, he, hc, fun h => hs ▸ h, fun _ _ => hs, fun h => ⟨hf.trans h, hn⟩, fun h => absurd h hw, fun h => absurd h hw⟩

/-! ### Delivery and declarations (R147, R150) -/

/-- The receiver's fields that a declaration and a handing on leave alone. -/
structure RxCore (s t : State) : Prop where
  live : t.rx.live = s.rx.live
  epoch : t.rx.peerEpoch = s.rx.peerEpoch
  synced : t.rx.synced = s.rx.synced
  flush : t.rx.flush = s.rx.flush
  counter : ∀ c ∈ syncCounters, t.counter c = s.counter c
  flushDone : t.occurrences .flushDone = s.occurrences .flushDone

theorem RxCore.trans (h : RxCore s t) (k : RxCore t u) : RxCore s u :=
  ⟨k.live.trans h.live, k.epoch.trans h.epoch, k.synced.trans h.synced, k.flush.trans h.flush,
    fun c hc => (k.counter c hc).trans (h.counter c hc), k.flushDone.trans h.flushDone⟩

theorem RxSame.core (h : RxSame s t) : RxCore s t :=
  ⟨by rw [h.rx], by rw [h.rx], by rw [h.rx], by rw [h.rx], h.counter, h.flushDone⟩

theorem recordGap_core (g : GapRecord) (s : State) : RxCore s (recordGap g s) := by
  have hm : ∀ l : List GapRecord, RxCore s (s.modRx fun x => { x with gaps := l }) := fun l =>
    ⟨rfl, rfl, rfl, rfl, fun _ _ => rfl, rfl⟩
  unfold recordGap
  split
  · split
    · exact hm _
    · split
      · exact hm _
      · exact (countBy_rxSame (by decide) 1 s).core
  · exact (hm _).trans (raise_still (by decide) _).toRxSame.core

theorem declare_core (f : Seq) (n : Nat) (cause : LossCause) (live : BitVec 8) (s : State) :
    RxCore s (declare f n cause live s) :=
  ((asmLoss_rxSame s).core.trans (recordGap_core _ _)).trans (countBy_rxSame (by decide) _ _).core

theorem setNes_core (q : Seq) (s : State) : RxCore s (s.setNes q) := ⟨rfl, rfl, rfl, rfl, fun _ _ => rfl, rfl⟩

theorem handOn_core (r : FragRecord) (s : State) : RxCore s (handOn r s) := by
  have hm : ∀ x : State, RxCore x (x.modRx fun y => { y with window := eraseSlot (slotOf r.seq) y.window }) := fun _ =>
    ⟨rfl, rfl, rfl, rfl, fun _ _ => rfl, rfl⟩
  exact ((asmTake_rxSame r s).core.trans (hm _)).trans (setNes_core _ _)

theorem gapMove_core (h : gapMove s = some t) : RxCore s t := by
  unfold gapMove at h
  split at h
  · cases h
  · split at h
    · obtain rfl := Option.some.inj h
      split
      · exact ⟨rfl, rfl, rfl, rfl, fun _ _ => rfl, rfl⟩
      · exact handOn_core _ s
    · split at h
      · obtain rfl := Option.some.inj h
        exact (declare_core _ _ _ _ s).trans (setNes_core _ _)
      · cases h

/-- Over an empty store there is nothing to move (R147, R149). -/
theorem gapMove_of_empty (h : s.rx.window = []) : gapMove s = none := by
  unfold gapMove
  rw [h]
  split <;> rfl

theorem gapMove_sync (h : gapMove s = some t) : SyncKept s t := by
  have hw : s.rx.window ≠ [] := fun hw => by
    rw [gapMove_of_empty hw] at h
    cases h
  obtain ⟨hl, he, hs, hf, hc, hn⟩ := gapMove_core h
  exact .of_stored hw hl he hs hf hc hn

theorem gapMoves_sync (n : Nat) (s : State) : SyncKept s (gapMoves n s) := by
  induction n generalizing s with
  | zero => exact .refl s
  | succ n ih =>
    unfold gapMoves
    split
    · exact .refl s
    · exact (gapMove_sync ‹_›).trans (ih _)

/-! ### The gap step (R149) -/

theorem modRx_timer_sync (x : Option Nat) (s : State) : SyncKept s (s.modRx fun r => { r with gapTimer := x }) :=
  ⟨rfl, rfl, fun _ _ => rfl, id, fun _ _ => rfl, fun h => ⟨h, rfl⟩, fun h => ⟨h, rfl, rfl⟩, fun _ h => ⟨h, rfl⟩⟩

theorem gapTimerStep_sync (s : State) : SyncKept s (gapTimerStep s) := by
  unfold gapTimerStep
  split
  · split
    · exact modRx_timer_sync _ s
    · exact .refl s
  · exact modRx_timer_sync _ s

theorem flushStep_sync (s : State) : SyncKept s (flushStep s) := by
  unfold flushStep
  split
  · rename_i target hf
    split
    · have hrx := raise_rx .flushDone (s.modRx fun x => { x with flush := none })
      have hasm := raise_asm .flushDone (s.modRx fun x => { x with flush := none })
      have hcount := raise_counters .flushDone (s.modRx fun x => { x with flush := none })
      refine ⟨by rw [hrx]; rfl, by rw [hrx]; rfl, fun c _ => by rw [State.counter, hcount]; rfl, fun h => by rwa [hrx] at h,
        fun _ _ => by rw [hrx]; rfl, fun h => ?_, fun h => ?_, fun _ h => ⟨hasm.trans h, by rw [State.counter, hcount]; rfl⟩⟩
      · rw [hf] at h
        cases h
      · rw [hrx]
        exact ⟨h, rfl, rfl⟩
    · exact .refl s
  · exact .refl s

theorem mark_none_of_liveEmpty (h : s.liveEmpty = true) (q : PairNo) : (s.mark q).isSome = false := by
  simpa [State.isLive] using List.all_eq_true.1 h q (mem_allPairs q)

/-- Resynchronisation finds an idle Frame Assembler and leaves it so (R161). -/
theorem asmResync_of_idle (h : s.asm = .idle) : asmResync s = s := by
  simp only [asmResync, asmDiscard, h, State.setAsm]
  rw [← h]

theorem unsyncStep_sync (s : State) : SyncKept s (unsyncStep s) := by
  unfold unsyncStep
  split
  · rename_i h
    simp only [Bool.and_eq_true] at h
    have hr := asmResync_rxSame (s.modRx fun x => { x with synced := false })
    refine ⟨by rw [hr.rx]; rfl, by rw [hr.rx]; rfl, hr.counter, fun _ => h.1.1, fun q hq => ?_,
      fun hf => ⟨by rw [hr.rx]; exact hf, hr.flushDone⟩, fun hw => ?_, fun _ ha => ?_⟩
    · rw [mark_none_of_liveEmpty h.1.2 q] at hq
      cases hq
    · rw [hr.rx]
      exact ⟨hw, rfl, rfl⟩
    · rw [asmResync_of_idle (by exact ha)]
      exact ⟨ha, rfl⟩
  · exact .refl s

theorem gapStep_sync (s : State) : SyncKept s (gapStep s) :=
  (((gapMoves_sync _ s).trans (gapTimerStep_sync _)).trans (flushStep_sync _)).trans (unsyncStep_sync _)

theorem takeTells_sync (n : Nat) (s : State) : SyncKept s (takeTells n s) := by
  induction n generalizing s with
  | zero => exact .refl s
  | succ n ih =>
    unfold takeTells
    split
    · exact .refl s
    · refine SyncKept.trans (SyncKept.trans ?_ (gapStep_sync _)) (ih _)
      exact ⟨rfl, rfl, fun _ _ => rfl, id, fun _ _ => rfl, fun h => ⟨h, rfl⟩, fun h => ⟨h, rfl, rfl⟩, fun _ h => ⟨h, rfl⟩⟩

theorem drainTells_sync (s : State) : SyncKept s (drainTells s) := takeTells_sync _ s

theorem recomputeT_sync (s : State) : SyncKept s (recomputeT s) := by
  unfold recomputeT
  split
  · exact .refl s
  · exact ⟨rfl, rfl, fun _ _ => rfl, id, fun _ _ => rfl, fun h => ⟨h, rfl⟩, fun h => ⟨h, rfl, rfl⟩, fun _ h => ⟨h, rfl⟩⟩

theorem membershipFollow_sync (s : State) : SyncKept s (membershipFollow s) :=
  ((gapStep_sync s).trans (recomputeT_sync _)).trans (drainTells_sync _)

theorem rxFollow_sync (s : State) : SyncKept s (rxFollow s) := (gapStep_sync s).trans (drainTells_sync _)

/-- With no pair live and an empty store the receiver becomes UNSYNCED (R128). -/
theorem gapStep_unsynced (hl : ∀ q, s.mark q = none) (hw : s.rx.window = []) : (gapStep s).rx.synced = false := by
  have hk : SyncKept s (flushStep (gapTimerStep (gapMoves (2 * s.rx.window.length + 2) s))) :=
    ((gapMoves_sync _ s).trans (gapTimerStep_sync _)).trans (flushStep_sync _)
  rw [gapStep]
  generalize flushStep (gapTimerStep (gapMoves (2 * s.rx.window.length + 2) s)) = v at *
  have hlive : v.liveEmpty = true := List.all_eq_true.2 fun q _ => by simp [State.isLive, hk.mark, hl q]
  unfold unsyncStep
  rw [hlive, (hk.store hw).1]
  cases hs : v.rx.synced with
  | true => exact congrArg Receiver.synced (asmResync_rxSame _).rx
  | false => simp [hs]

theorem membershipFollow_unsynced (hl : ∀ q, s.mark q = none) (hw : s.rx.window = []) :
    (membershipFollow s).rx.synced = false := by
  have hk := (recomputeT_sync (gapStep s)).trans (drainTells_sync _)
  exact Bool.eq_false_iff.2 fun h => by simpa [gapStep_unsynced hl hw] using hk.synced h

/-! ### The outbound half and the pairs -/

theorem modPort_still (p : PairNo) (f : Port → Port) (s : State) : Still s (s.modPort p f) := .of_eq rfl rfl rfl rfl

theorem modPair_still (p : PairNo) (f : Pair → Pair) (s : State) : Still s (s.modPair p f) := .of_eq rfl rfl rfl rfl

theorem modDisp_still (f : Dispatcher → Dispatcher) (s : State) : Still s (s.modDisp f) := .of_eq rfl rfl rfl rfl

theorem race_still (s : State) : Still s s.race.2 := .of_eq rfl rfl rfl rfl

theorem race_if_still (b : Bool) (s : State) : Still s (if b then s.race else (false, s)).2 := by
  split
  · exact race_still s
  · exact .refl s

theorem handover_still (p : PairNo) (s : State) : Still s (handover p s) := by
  unfold handover
  split
  · exact modPort_still p _ s
  · exact .refl s

theorem stage_still (p : PairNo) (f : Fragment) (s : State) : Still s (stage p f s) :=
  ((modPort_still p _ s).trans (modPair_still p _ _)).trans (handover_still p _)

theorem place_still {p : PairNo} {f : Fragment} (h : place p f s = some t) : Still s t := by
  unfold place at h
  split at h
  · obtain rfl := Option.some.inj h
    exact stage_still p f s
  · cases h

theorem placeProgress_still (p : PairNo) (s : State) : Still s (placeProgress p s) := by
  unfold placeProgress
  split
  · exact (place_still ‹_›).trans (modPair_still p _ _)
  · exact .refl s

theorem placeLeave_still (p : PairNo) (why : LeaveReason) (s : State) : Still s (placeLeave p why s) := by
  unfold placeLeave
  split
  · exact (place_still ‹_›).trans (modPair_still p _ _)
  · exact modPair_still p _ s

theorem placeJoin_still (p : PairNo) (s : State) : Still s (placeJoin p s) := by
  unfold placeJoin
  split
  · exact (place_still ‹_›).trans (modPair_still p _ _)
  · exact modPair_still p _ s

theorem placeAck_still (p echo : PairNo) (result : JoinResult) (s : State) : Still s (placeAck p echo result s) := by
  unfold placeAck
  split
  · exact (place_still ‹_›).trans (modPair_still p _ _)
  · exact modPair_still p _ s

theorem renewalTest_still (p : PairNo) (s : State) : Still s (renewalTest p s) := by
  unfold renewalTest
  split
  · exact (modPair_still p _ s).trans (placeProgress_still p _)
  · exact .refl s

theorem startProgress_still (p : PairNo) (s : State) : Still s (startProgress p s) := by
  unfold startProgress
  split
  · exact modPair_still p _ s
  · exact .refl s

theorem setOrder_still (p : PairNo) (o : Order) (s : State) : Still s (setOrder p o s) := by
  unfold setOrder
  split
  · exact .refl s
  · exact (modPort_still p _ s).trans (modPort_still p _ _)

theorem emptyQueue_still (p : PairNo) (s : State) : Still s (emptyQueue p s) := .of_eq rfl rfl rfl rfl

theorem flushDone_place_ne (p : PairNo) : NoticeInst.flushDone.place ≠ (NoticeInst.commandDone p).place ∧
    NoticeInst.flushDone.place ≠ (NoticeInst.pairState p).place := by
  revert p
  decide

theorem hostDone_still (p : PairNo) (s : State) : Still s (hostDone p s) := by
  unfold hostDone
  split
  · exact (modPair_still p _ s).trans (raise_still (flushDone_place_ne p).1 _)
  · exact .refl s

theorem returnFrames_still (fs : List OutFrame) (s : State) : Still s (returnFrames fs s) := by
  induction fs generalizing s with
  | nil => exact .refl s
  | cons f fs ih => exact (returnCells_still _ _ s).trans (ih _)

theorem emptyOutbound_still (s : State) : Still s (emptyOutbound s) := by
  have h0 : Still s { s with classes := s.classes.map ClassQueue.emptied } := .of_eq rfl rfl rfl rfl
  have h := h0.trans (returnFrames_still s.queued _)
  unfold emptyOutbound
  dsimp only
  generalize returnFrames s.queued { s with classes := s.classes.map ClassQueue.emptied } = v at *
  have hd : ∀ d : Dispatcher, Still v { v with disp := d } := fun _ => .of_eq rfl rfl rfl rfl
  split
  · exact (h.trans (hd _)).trans (returnCells_still .outbound _ _)
  · exact h.trans (hd _)

/-! ### The Fragment Dispatcher -/

theorem selectFrame_still {f : OutFrame} (h : selectFrame s = some (f, t)) : Still s t := by
  have hc : ∀ (c : Fin 4) (q : ClassQueue), Still s (s.setCls c q) := fun _ _ => .of_eq rfl rfl rfl rfl
  unfold selectFrame at h
  split at h
  · cases h
  · dsimp only at h
    split at h
    · cases h
    · obtain ⟨rfl, rfl⟩ := Option.some.inj h |> Prod.mk.inj
      split
      · exact hc _ _
      · exact (hc _ _).trans (countBy_still (c := .agePromotions) (by decide) 1 _)

theorem placeFragment_still (p : PairNo) (plan : SplitPlan) (s : State) : Still s (placeFragment p plan s) :=
  (((modDisp_still _ s).trans (stage_still p _ _)).trans (modPair_still p _ _)).trans
    (countBy_still (c := .fragmentsDispatched) (by decide) 1 _)

theorem finishFrame_still (plan : SplitPlan) (s : State) : Still s (finishFrame plan s) :=
  ((modDisp_still _ s).trans (countBy_still (c := .framesDispatched) (by decide) 1 _)).trans (returnCells_still _ _ _)

theorem dispatchMove_still {b : Bool} (h : dispatchMove s = some (t, b)) : Still s t := by
  unfold dispatchMove at h
  split at h
  · split at h
    · obtain ⟨rfl, rfl⟩ := Option.some.inj h |> Prod.mk.inj
      exact (selectFrame_still ‹_›).trans (modDisp_still _ _)
    · split at h
      · cases h
      · obtain ⟨rfl, rfl⟩ := Option.some.inj h |> Prod.mk.inj
        exact modDisp_still _ s
  · split at h
    · obtain ⟨rfl, rfl⟩ := Option.some.inj h |> Prod.mk.inj
      split
      · exact (placeFragment_still _ _ s).trans (finishFrame_still _ _)
      · exact placeFragment_still _ _ s
    · split at h
      · cases h
      · obtain ⟨rfl, rfl⟩ := Option.some.inj h |> Prod.mk.inj
        exact (modDisp_still _ s).trans (countBy_still (c := .dispatchHolds) (by decide) 1 _)

theorem renewalTests_still (s : State) : Still s (renewalTests s) :=
  forPairs_induct (P := Still s) (fun q _ h => h.trans (renewalTest_still q _)) s (.refl s)

/-- Whatever moves a run makes, it ends with the receiver as it was: only pressure events are told meanwhile (R104). -/
theorem dispatchRun_still (n : Nat) (owed : Bool) (s : State) : Still s (dispatchRun n owed s) := by
  induction n generalizing owed s with
  | zero =>
    unfold dispatchRun
    split
    · exact renewalTests_still s
    · exact .refl s
  | succ n ih =>
    cases owed with
    | true =>
      unfold dispatchRun
      have hr := race_if_still s.renewalWanted s
      generalize (if s.renewalWanted then s.race else (false, s)) = b at hr
      have hrun := (hr.trans (renewalTests_still _)).trans (ih false _)
      dsimp only
      split
      · split
        · exact (hr.trans (dispatchMove_still ‹_›)).trans (ih _ _)
        · exact hrun
      · exact hrun
    | false =>
      unfold dispatchRun
      have hr := race_if_still s.mayStop s
      generalize (if s.mayStop then s.race else (false, s)) = b at hr
      dsimp only
      split
      · exact hr.trans (modDisp_still _ _)
      · split
        · exact (hr.trans (dispatchMove_still ‹_›)).trans (ih _ _)
        · exact hr

theorem redecide_sync (s : State) : SyncKept s (redecide s) := by
  unfold redecide
  split
  · exact (dispatchRun_still _ _ s).sync.trans (drainTells_sync _)
  · exact .refl s

/-! ### Entries beside the live set (R39) -/

theorem entryActs_still (p : PairNo) (new : PairState) (why : Reason) (s : State) : Still s (entryActs p new why s) := by
  have h := (modPair_still p (fun r => r.entered new why) s).trans (setOrder_still p new.order _)
  unfold entryActs
  dsimp only
  split
  · exact (h.trans (emptyQueue_still p _)).trans (handover_still p _)
  · exact h.trans (handover_still p _)

theorem raise_pairState_still (p : PairNo) (s : State) : Still s (s.raise (.pairState p)) :=
  raise_still (flushDone_place_ne p).2 s

theorem activeChanged_sync (n : Nat) (s : State) : SyncKept s (activeChanged id n s) := by
  have hb : Still s (s.raise .bondState) := raise_still (by decide) s
  have hpurge : ∀ x : State, SyncKept x (purge id x) := fun x =>
    ((countBy_still (c := .noPath) (by decide) _ x).trans (emptyOutbound_still _)).sync.trans (drainTells_sync _)
  unfold activeChanged
  split
  · split
    · exact .refl s
    · exact hb.sync
  · split
    · exact hb.sync.trans (hpurge _)
    · exact .refl s

theorem entering_sync (p : PairNo) (new : PairState) (why : Reason) (s : State) :
    SyncKept s (entering id p new why s) :=
  ((entryActs_still p new why s).trans (raise_pairState_still p _)).sync.trans (activeChanged_sync _ _)

end Sys2Proof.Machine

/-! PROOFS. A pair leaves the live set (R127, R128, R133, R156): what the removal and the act made with it leave of the
receiver, in either order (R75). -/

namespace Sys2Proof.Machine

variable {p : PairNo} {s t u : State}

/-! ### What T_reorder is computed from (R155, R156) -/

/-- What an act that changes no membership keeps of the receiver: what a gap step keeps, T_reorder, and what T_reorder is
computed from. -/
structure ReceiverKept (s t : State) : Prop extends SyncKept s t where
  tReorder : t.rx.tReorder = s.rx.tReorder
  reports : ∀ q, (t.port q).report = (s.port q).report
  cfg : t.cfg = s.cfg

theorem ReceiverKept.refl (s : State) : ReceiverKept s s := ⟨.refl s, rfl, fun _ => rfl, rfl⟩

theorem ReceiverKept.trans (h : ReceiverKept s t) (k : ReceiverKept t u) : ReceiverKept s u :=
  ⟨h.toSyncKept.trans k.toSyncKept, k.tReorder.trans h.tReorder, fun q => (k.reports q).trans (h.reports q),
    k.cfg.trans h.cfg⟩

/-- An act of the inbound path. -/
theorem ReceiverKept.of_purgeFrame (hs : SyncKept s t) (ht : t.rx.tReorder = s.rx.tReorder) (hf : PurgeFrame s t) :
    ReceiverKept s t := ⟨hs, ht, fun q => by rw [port_congr hf.ports q], hf.event.cfg⟩

theorem PortKept.report (h : PortKept p s t) : (t.port p).report = (s.port p).report := by rw [h]

/-- An act at one pair. -/
theorem ReceiverKept.of_pairFrame (hs : Still s t) (hf : PairFrame p s t) (hk : PortKept p s t) : ReceiverKept s t := by
  refine ⟨hs.sync, by rw [hs.rx], fun q => ?_, hf.event.cfg⟩
  by_cases hq : q = p
  · subst hq
    exact hk.report
  · rw [hf.ports q hq]

theorem drainTells_receiver (s : State) : ReceiverKept s (drainTells s) :=
  .of_purgeFrame (drainTells_sync s) (drainTells_delivery s).tReorder (drainTells_frame s).purgeFrame

theorem modPair_receiver (p : PairNo) (f : Pair → Pair) (s : State) : ReceiverKept s (s.modPair p f) :=
  .of_pairFrame (modPair_still p f s) (modPair_frame p f s) (modPair_portKept p f s)

theorem startTimer_receiver (p : PairNo) (k : StateTimer) (ms : Nat) (s : State) : ReceiverKept s (startTimer p k ms s) :=
  modPair_receiver p _ s

theorem placeLeave_receiver (p : PairNo) (why : LeaveReason) (s : State) : ReceiverKept s (placeLeave p why s) :=
  .of_pairFrame (placeLeave_still p why s) (placeLeave_frame p why s) (placeLeave_portKept p why s)

theorem redecide_receiver (s : State) : ReceiverKept s (redecide s) := by
  have hf := redecide_frame s
  exact ⟨redecide_sync s, (redecide_delivery s).tReorder, fun q => by rw [hf.ports q], hf.event.cfg⟩

theorem entering_receiver (p : PairNo) (new : PairState) (why : Reason) (s : State) :
    ReceiverKept s (entering id p new why s) := by
  have hf := entering_frame (during := id) PurgeFrame.refl p new why s
  refine ⟨entering_sync p new why s, ?_, fun q => ?_, hf.event.cfg⟩
  · have hact := (entryActs_acts p new why s).delivery.tReorder
    have hpurge : ∀ x : State, (purge id x).rx.tReorder = x.rx.tReorder := fun x =>
      (drainTells_delivery _).tReorder.trans (emptyOutbound_delivery _).tReorder
    rw [entering_eq, activeChanged]
    split
    · split
      · rw [raise_rx, hact]
      · rw [raise_rx, raise_rx, hact]
    · split
      · rw [hpurge, raise_rx, raise_rx, hact]
      · rw [raise_rx, hact]
  · by_cases hq : q = p
    · subst hq
      exact (entering_portKept q new why s).report
    · rw [hf.ports q hq]

theorem ReorderTime.of_receiver (h : ReorderTime s) (k : ReceiverKept s t) : ReorderTime t := by
  unfold ReorderTime at *
  simp only [k.mark, k.reports, k.cfg, k.tReorder]
  exact h

/-- T_reorder is kept while the live set is empty (R156). -/
theorem recomputeT_of_none (h : ∀ q, s.mark q = none) : recomputeT s = s := by
  have hlive : allPairs.filter s.isLive = [] := List.filter_eq_nil_iff.2 fun q _ => by simp [State.isLive, h q]
  rw [recomputeT, State.liveReports, hlive]
  rfl

/-! ### The removal (R127, R128, R133) -/

/-- Pair `p` has left the live set between `s` and `t`, with what its leaving brings: T_reorder brought up to date while
another pair is live, and an UNSYNCED receiver where none is and the store is empty. -/
structure Removed (p : PairNo) (s t : State) : Prop where
  mark : t.mark p = none
  marks : ∀ q, q ≠ p → t.mark q = s.mark q
  epoch : t.rx.peerEpoch = s.rx.peerEpoch
  counter : ∀ c ∈ syncCounters, t.counter c = s.counter c
  synced : t.rx.synced = true → s.rx.synced = true
  awake : ∀ q, q ≠ p → (s.mark q).isSome = true → t.rx.synced = s.rx.synced
  store : s.rx.window = [] → t.rx.window = []
  asleep : s.rx.window = [] → (∀ q, q ≠ p → s.mark q = none) → (s.mark p).isSome = true ∨ s.rx.synced = false →
    t.rx.synced = false
  time : (s.mark p).isSome = true → (∃ q, q ≠ p ∧ (s.mark q).isSome = true) → ReorderTime t
  alone : (∀ q, q ≠ p → s.mark q = none) → t.rx.tReorder = s.rx.tReorder

theorem Removed.before (h : Removed p t u) (k : ReceiverKept s t) : Removed p s u := by
  obtain ⟨hmark, hmarks, hepoch, hcounter, hsynced, hawake, hstore, hasleep, htime, halone⟩ := h
  simp only [k.mark] at hmarks hawake hasleep htime halone
  refine ⟨hmark, hmarks, hepoch.trans k.epoch, fun c hc => (hcounter c hc).trans (k.counter c hc), k.synced ∘ hsynced,
    fun q hq hl => (hawake q hq hl).trans (k.awake q hl), fun hw => hstore (k.store hw).1, fun hw hl hp => ?_, htime,
    fun hl => (halone hl).trans k.tReorder⟩
  refine hasleep (k.store hw).1 hl (hp.imp_right fun hs => Bool.eq_false_iff.2 fun ht => ?_)
  simpa [hs] using k.synced ht

theorem Removed.after (h : Removed p s t) (k : ReceiverKept t u) : Removed p s u := by
  obtain ⟨hmark, hmarks, hepoch, hcounter, hsynced, hawake, hstore, hasleep, htime, halone⟩ := h
  refine ⟨(k.mark p).trans hmark, fun q hq => (k.mark q).trans (hmarks q hq), k.epoch.trans hepoch,
    fun c hc => (k.counter c hc).trans (hcounter c hc), hsynced ∘ k.synced, fun q hq hl => ?_,
    fun hw => (k.store (hstore hw)).1, fun hw hl hp => Bool.eq_false_iff.2 fun ht => ?_,
    fun hp hq => (htime hp hq).of_receiver k, fun hl => k.tReorder.trans (halone hl)⟩
  · exact (k.awake q (by rw [hmarks q hq, hl])).trans (hawake q hq hl)
  · simpa [hasleep hw hl hp] using k.synced ht

theorem membershipFollow_time (h : (s.mark p).isSome = true) : ReorderTime (membershipFollow s) := by
  have hg : ((gapStep s).mark p).isSome = true := by rw [(gapStep_delivery s).mark, h]
  exact (recomputeT_reorderTime hg).of_receiver (drainTells_receiver _)

theorem membershipFollow_alone (h : ∀ q, s.mark q = none) : (membershipFollow s).rx.tReorder = s.rx.tReorder := by
  rw [membershipFollow, recomputeT_of_none fun q => ((gapStep_delivery s).mark q).trans (h q)]
  exact (drainTells_delivery _).tReorder.trans (gapStep_delivery s).tReorder

theorem rxRemove_removed (p : PairNo) (s : State) : Removed p s (rxRemove p s) := by
  have hnone := rxRemove_mark p s
  unfold rxRemove at hnone ⊢
  split
  · have hk := membershipFollow_sync (s.setMark p none)
    rw [if_pos ‹_›] at hnone
    have hne : ∀ q, q ≠ p → (s.setMark p none).mark q = s.mark q := fun q hq => mark_setMark_ne hq none s
    have hempty : (∀ q, q ≠ p → s.mark q = none) → ∀ q, (s.setMark p none).mark q = none := fun hl q => by
      by_cases hq : q = p
      · rw [hq, mark_setMark]
      · rw [hne q hq, hl q hq]
    refine ⟨hnone, fun q hq => (hk.mark q).trans (hne q hq), hk.epoch, hk.counter, hk.synced, fun q hq hl => ?_,
      fun hw => (hk.store hw).1, fun hw hl _ => membershipFollow_unsynced (hempty hl) hw, ?_,
      fun hl => membershipFollow_alone (hempty hl)⟩
    · exact hk.awake q (by rw [hne q hq, hl])
    · rintro - ⟨q, hq, hl⟩
      exact membershipFollow_time (p := q) (by rw [hne q hq, hl])
  · rename_i hp
    have hp : (s.mark p).isSome = false := by simpa [State.isLive] using hp
    refine ⟨by simpa using hp, fun _ _ => rfl, rfl, fun _ _ => rfl, id, fun _ _ _ => rfl, id, fun _ _ h => ?_,
      fun h => ?_, fun _ => rfl⟩
    · exact h.resolve_left (by simp [hp])
    · rw [hp] at h
      cases h

/-- Removal and act in either order (R75): the act that changes no membership, or that makes the removal during its purge,
leaves the receiver as the removal alone would. -/
theorem withRemoval_removed {act : (State → State) → State → State} (hid : ∀ x, ReceiverKept x (act id x))
    (hlast : ∀ during x, (x.pair p).state = .active → x.activeCount = 1 → (∀ y, Removed p y (during y)) →
      Removed p x (act during x)) (s : State) : Removed p s (withRemoval p act s) := by
  have hrace : ReceiverKept s s.race.2.race.2 :=
    .of_purgeFrame ((race_still s).trans (race_still _)).sync rfl ((race_purgeFrame s).trans (race_purgeFrame _))
  unfold withRemoval
  split
  · rename_i hb
    simp only [State.purgesWith, Bool.and_eq_true, beq_iff_eq] at hb
    obtain ⟨-, ⟨hactive, hcount⟩, -⟩ := hb
    have hactive : (s.pair p).state = .active := by simpa [State.isActive] using hactive
    dsimp only
    split
    · refine (hlast _ s.race.2.race.2 hactive hcount fun y => ?_).before hrace
      split
      · exact (rxRemove_removed p _).before (drainTells_receiver y)
      · exact rxRemove_removed p y
    · exact ((rxRemove_removed p _).after (hid _)).before hrace
  · exact (rxRemove_removed p s).after (hid _)

/-- The entry of the last ACTIVE pair, the removal made during its purge. -/
theorem entering_removed {during : State → State} {new : PairState} (why : Reason) (hp : (s.pair p).state = .active)
    (hcount : s.activeCount = 1) (hnew : new ≠ .active) (hd : ∀ y, Removed p y (during y)) :
    Removed p s (entering during p new why s) := by
  have hbond : Still s (((entryActs p new why s).raise (.pairState p)).raise .bondState) :=
    ((entryActs_still p new why s).trans (raise_pairState_still p _)).trans (raise_still (by decide) _)
  have hacts := entryActs_acts p new why s
  have hports : ∀ q, ((((entryActs p new why s).raise (.pairState p)).raise .bondState).port q).report =
      (s.port q).report := fun q => by
    rw [port_raise, port_raise]
    by_cases hq : q = p
    · have hport := entering_portKept q new why s
      rw [hq] at hport ⊢
      rw [← hport.report, entering_eq, port_congr (activeChanged_frame (during := id) PurgeFrame.refl _ _).ports p,
        port_raise]
    · rw [hacts.frame.ports q hq]
  have hcfg : (((entryActs p new why s).raise (.pairState p)).raise .bondState).cfg = s.cfg := by
    rw [raise_cfg, raise_cfg, hacts.frame.event.cfg]
  rw [entering_last why hp hcount hnew]
  generalize ((entryActs p new why s).raise (.pairState p)).raise .bondState = v at *
  have hv : ReceiverKept s v := ⟨hbond.sync, by rw [hbond.rx], hports, hcfg⟩
  have hcounted := countBy_still (c := .noPath) (by decide) v.outboundFrames v
  have hempty : ReceiverKept v (emptyOutbound (v.countBy .noPath v.outboundFrames)) :=
    .of_purgeFrame (hcounted.trans (emptyOutbound_still _)).sync
      ((emptyOutbound_delivery _).tReorder.trans (by rw [hcounted.rx]))
      ((countBy_frame _ _ v).inbound.purgeFrame.trans (emptyOutbound_frame _))
  exact ((hd _).after (drainTells_receiver _)).before (hv.trans hempty)

/-- Entry to a state that is not kept in the live set (R39, R127). -/
theorem enter_removed {new : PairState} (h : leavesLive new = true) (p : PairNo) (why : Reason) (s : State) :
    Removed p s (enter p new why s) := by
  have hnew : new ≠ .active := fun h' => by simp [h', leavesLive] at h
  rw [enter, if_pos h]
  exact withRemoval_removed (fun x => entering_receiver p new why x)
    (fun _ x hp hcount hd => entering_removed why hp hcount hnew hd) s

end Sys2Proof.Machine

/-! PROOFS. The peer's LEAVE and PROGRESS (R58, R132, R133): what each does by the pair's state (O41). -/

namespace Sys2Proof.Machine

variable {p : PairNo} {s t u : State}

/-! ### The peer's LEAVE on an ACTIVE pair (R56, R58) -/

/-- The last ACTIVE pair's entry purges the outbound half, whatever the inbound path does meanwhile (R39, R101). -/
theorem entering_purged {during : State → State} (hd : ∀ x, AsideKept x (during x)) {new : PairState} (why : Reason)
    (hp : (s.pair p).state = .active) (hcount : s.activeCount = 1) (hnew : new ≠ .active) :
    Purged s (entering during p new why s) := by
  have hacts := entryActs_acts p new why s
  have hsame : OutboundSame s ((entryActs p new why s).raise (.pairState p)) :=
    ⟨(raise_classes _ _).trans hacts.classes, (raise_disp _ _).trans hacts.disp, (raise_cells _ _).trans hacts.cells,
      by rw [State.counter, raise_counters]; exact hacts.delivery.noPath,
      (occurrences_raise_ne (pairState_place_ne_bondState p).symm _).trans (hacts.delivery.notices _ rfl),
      (raise_frame _ _).inbound.mask.trans hacts.frame.event.mask⟩
  rw [entering_last why hp hcount hnew]
  generalize (entryActs p new why s).raise (.pairState p) = v at *
  refine Purged.before ?_ hsame
  obtain ⟨hcls, hdisp, hnoPath, hcells⟩ := purge_purged hd (v.raise .bondState)
  have hvcls : ∀ c, (v.raise .bondState).cls c = v.cls c := fun c => by simp only [State.cls, raise_classes]
  refine ⟨fun c => (hcls c).trans (by rw [hvcls]), hdisp.trans (by rw [raise_disp]), ?_, fun h => hcells ?_,
    fun hmask => ?_⟩
  · rw [hnoPath, State.outboundFrames, raise_disp]
    simp only [State.queued, hvcls, List.length_append, State.counter, raise_counters]
  · rw [raise_cells, raise_disp, h]
    simp only [State.queued, hvcls]
  · rw [purge_notices hd _ rfl, raise_unmasked (by exact hmask)]

theorem peerLeaves_eq (p : PairNo) (during : State → State) (s : State) : peerLeaves p during s = placeLeave p .peerLeave
    ((startTimer p .leave s.cfg.leaveTimeout ((entering during p .leaving .peerLeave s).modPair p fun r =>
      { r with leaveForm := .graceful })).modPair p fun r => { r with peerLeft := true }) := rfl

/-- What follows the entry in the peer's leave touches nothing but its pair. -/
theorem peerLeaves_after (p : PairNo) (during : State → State) (s : State) :
    ReceiverKept (entering during p .leaving .peerLeave s) (peerLeaves p during s) ∧
    OutboundSame (entering during p .leaving .peerLeave s) (peerLeaves p during s) := by
  rw [peerLeaves_eq]
  generalize entering during p .leaving .peerLeave s = v
  exact ⟨((modPair_receiver p _ v).trans (startTimer_receiver p _ _ _)).trans
      ((modPair_receiver p _ _).trans (placeLeave_receiver p _ _)),
    ((modPair_same p _ v).trans (startTimer_same p _ _ _)).trans ((modPair_same p _ _).trans (placeLeave_same p _ _))⟩

theorem peerLeaves_pair {during : State → State} (hd : ∀ x, PurgeFrame x (during x)) (p : PairNo) (s : State) :
    ((peerLeaves p during s).pair p) = { (s.pair p).entered .leaving .peerLeave with
      leaveForm := .graceful, peerLeft := true, stateTimer := some (.leave, s.now + s.cfg.leaveTimeout),
      progressTimer := ((peerLeaves p during s).pair p).progressTimer,
      outRef := ((peerLeaves p during s).pair p).outRef,
      waitLeave := ((peerLeaves p during s).pair p).waitLeave } := by
  rw [peerLeaves, placeLeave_record, pair_modPair, enterLeaving_pair hd]

theorem peerLeaves_placed {during : State → State} (hd : ∀ x, PurgeFrame x (during x)) (h : (s.pair p).state = .active) :
    LeavePlaced p .peerLeave s (peerLeaves p during s) := by
  obtain ⟨hq, hb⟩ := entered_leaving_queue (s.port p)
  have hport : ((enterLeaving during p .peerLeave .graceful s).modPair p fun r => { r with peerLeft := true }).port p =
      (s.port p).entered .active .leaving := by
    rw [port_modPair, enterLeaving_port hd, h]
  rw [peerLeaves]
  exact (placeLeave_placed p .peerLeave _).before (by rw [hport, hq]) (by rw [hport, hb])

/-- A LEAVE of the peer has been taken on an ACTIVE pair between `s` and `t`. -/
structure PeerLeft (p : PairNo) (s t : State) : Prop where
  state : (t.pair p).state = .leaving
  reason : (t.pair p).reason = .peerLeave
  form : (t.pair p).leaveForm = .graceful
  left : (t.pair p).peerLeft = true
  timer : (t.pair p).stateTimer = some (.leave, s.now + s.cfg.leaveTimeout)
  placed : LeavePlaced p .peerLeave s t
  removed : Removed p s t
  purged : (∀ q, q ≠ p → (s.pair q).state ≠ .active) → Purged s t

theorem takeLeave_active (h : (s.pair p).state = .active) : takeLeave p s = withRemoval p (peerLeaves p) s := by
  rw [takeLeave, h]

theorem takeLeave_peerLeft (h : (s.pair p).state = .active) : PeerLeft p s (takeLeave p s) := by
  have hremoved : Removed p s (withRemoval p (peerLeaves p) s) :=
    withRemoval_removed (fun x => (entering_receiver p _ _ x).trans (peerLeaves_after p id x).1)
      (fun during x hx hcount hd => (entering_removed _ hx hcount (by decide) hd).after (peerLeaves_after p during x).1) s
  rw [takeLeave_active h]
  obtain ⟨during, u, hd, hu, he, -⟩ := withRemoval_aside p (peerLeaves p) s
  rw [he] at hremoved ⊢
  have hpairs := hu.frame.pairs
  have hpair := pair_congr hpairs p
  have hport := port_congr hu.frame.ports p
  have hactive : (u.pair p).state = .active := by rw [hpair, h]
  have hrec := peerLeaves_pair (fun x => (hd x).frame) p u
  have hplaced := peerLeaves_placed (fun x => (hd x).frame) hactive
  refine ⟨by rw [hrec]; rfl, by rw [hrec]; rfl, by rw [hrec], by rw [hrec], ?_,
    hplaced.before (by rw [hport]) (by rw [hport]), hremoved, fun hlast => ?_⟩
  · rw [hrec, hu.frame.now, hu.frame.event.cfg]
  · have hcount : u.activeCount = 1 := (activeCount_congr hpairs).trans (activeCount_eq_one h hlast)
    exact ((entering_purged hd .peerLeave hactive hcount (by decide)).after (peerLeaves_after p during u).2).before_aside hu

theorem PeerLeft.before (h : PeerLeft p t u) (k : ReceiverKept s t) (hnow : t.now = s.now)
    (hport : t.port p = s.port p) (hstates : ∀ q, (t.pair q).state = (s.pair q).state) (hsame : OutboundSame s t) :
    PeerLeft p s u := by
  obtain ⟨hstate, hreason, hform, hleft, htimer, hplaced, hremoved, hpurged⟩ := h
  rw [hnow, k.cfg] at htimer
  simp only [hstates] at hpurged
  exact ⟨hstate, hreason, hform, hleft, htimer, hplaced.before (by rw [hport]) (by rw [hport]), hremoved.before k,
    fun hlast => (hpurged hlast).before hsame⟩

theorem PeerLeft.redecide (h : PeerLeft p s t) : PeerLeft p s (redecide t) := by
  obtain ⟨hstate, hreason, hform, hleft, htimer, hplaced, hremoved, hpurged⟩ := h
  obtain ⟨hpair, hport⟩ := redecide_rested (p := p) (s := t) (by rw [hstate]; decide)
  exact ⟨by rw [hpair, hstate], by rw [hpair, hreason], by rw [hpair, hform], by rw [hpair, hleft],
    by rw [hpair, htimer], hplaced.after hpair hport, hremoved.after (redecide_receiver t),
    fun hlast => (hpurged hlast).redecide⟩

/-! ### The other states -/

theorem takeLeave_joining (h : (s.pair p).state = .joining) : takeLeave p s = rxRemove p s := by
  rw [takeLeave, h]

/-- The peer's LEAVE before ours has been taken is noted, and the leave goes on (R58, R59). -/
theorem takeLeave_noted (h : (s.pair p).state = .leaving) (ht : (s.pair p).leaveTaken = false) :
    takeLeave p s = leaveNoted p s := by
  rw [takeLeave_leaving h, completionTest, leaveNoted_pair, ht]
  simp

theorem takeLeave_ignored (ha : (s.pair p).state ≠ .active) (hj : (s.pair p).state ≠ .joining)
    (hl : (s.pair p).state ≠ .leaving) : takeLeave p s = s := by
  unfold takeLeave
  split
  · exact absurd ‹_› hj
  · exact absurd ‹_› ha
  · exact absurd ‹_› hl
  · rfl

/-! ### PROGRESS (R132) -/

theorem rxProgress_ignored {m : Seq} (h : s.mark p = none ∨ ∃ pm, s.mark p = some pm ∧ ahead m pm = false) :
    rxProgress p m s = s := by
  rcases h with h | ⟨pm, h, ha⟩
  · rw [rxProgress, h]
  · rw [rxProgress, h]
    simp [ha]

theorem rxProgress_advanced {m pm : Seq} (h : s.mark p = some pm) (ha : ahead m pm = true) :
    (rxProgress p m s).mark p = some m ∧ ∀ q, q ≠ p → (rxProgress p m s).mark q = s.mark q := by
  have heq : rxProgress p m s = rxFollow (s.setMark p (some m)) := by
    rw [rxProgress, h]
    simp [ha]
  rw [heq]
  refine ⟨by rw [(rxFollow_delivery _).mark, mark_setMark], fun q hq => ?_⟩
  rw [(rxFollow_delivery _).mark, mark_setMark_ne hq]

/-! ### The fragment -/

/-- The fragment counted, before it is routed. -/
theorem counted_receiver (p : PairNo) (s : State) : ReceiverKept s (s.countPair p .fragmentsReceived) :=
  modPair_receiver p _ s

theorem counted_state (p q : PairNo) (s : State) :
    ((s.countPair p .fragmentsReceived).pair q).state = (s.pair q).state := by
  by_cases hq : q = p
  · subst hq
    rw [countPair_pair]
    rfl
  · rw [(countPair_frame p .fragmentsReceived s).pairs q hq]

/-- A fragment received while none is held is routed, and nothing more. -/
theorem exec_fragment_unheld {f : Fragment} (hf : p.val < s.mgmt.fitted) (hp : (s.port p).present = true)
    (hallowed : FragmentAllowed p f)
    (hheld : (route p f (s.countPair p .fragmentsReceived)).disp.held = false) :
    exec (.fragmentReceived p f.octets) s = .next (route p f (s.countPair p .fragmentsReceived)) := by
  rw [exec_fragment hf hp hallowed, redecide_of_not_held hheld]

/-- A fragment received, seen at its end by its pair: the routing at the pair alone, then the re-decision. -/
theorem received_life {v : State} (h : PairFrame p (s.countPair p .fragmentsReceived) v) :
    (redecide v).now = s.now ∧ LifeFrame p s (redecide v) := by
  have hframe := (countPair_frame p .fragmentsReceived s).trans h
  exact ⟨(redecide_frame v).now.trans hframe.now, hframe.life.trans (redecide_life p v)⟩

/-- Settles O41: the LEAVE by the pair's state, and the PROGRESS by the pair's mark. -/
theorem leaveAndProgressAreTaken : Obligations.LeaveAndProgressAreTaken := by
  unfold Obligations.LeaveAndProgressAreTaken
  intro s p hf hp s1
  have hcounted := countPair_pair (p := p) .fragmentsReceived s
  have hstates := fun q => counted_state p q s
  refine ⟨fun why => ⟨fun h => ?_, fun h => ?_, fun h ht => ?_, fun ha hj hl hheld => ?_⟩,
    fun m hheld => ⟨fun h => ?_, fun pm h ha => ?_⟩⟩
  · obtain ⟨hnow, hlife⟩ := received_life (takeLeave_frame p s1)
    obtain ⟨hstate, hreason, hform, hleft, htimer, hplaced, hremoved, hpurged⟩ :=
      ((takeLeave_peerLeft (s := s1) (by rw [hstates, h])).redecide).before (counted_receiver p s) rfl rfl hstates
        (modPair_same p _ s)
    exact ⟨_, exec_fragment hf hp (f := .leave why) trivial, hnow, hlife, hremoved.mark, hstate, hreason, hform, hleft,
      htimer, hplaced, hremoved.time, hremoved.alone, hpurged⟩
  · obtain ⟨hnow, hlife⟩ := received_life (takeLeave_frame p s1)
    have hleave := takeLeave_joining (s := s1) (by rw [hstates, h])
    have hpair := pair_congr (rxRemove_frame p s1).pairs p
    refine ⟨_, exec_fragment hf hp (f := .leave why) trivial, hnow, hlife, ?_, ?_⟩
    · rw [(redecide_delivery _).mark, route, hleave, rxRemove_mark]
    · rw [route, hleave, (redecide_rested (by rw [hpair, hstates, h]; decide)).1, hpair]
  · obtain ⟨hnow, hlife⟩ := received_life (takeLeave_frame p s1)
    have hleave := takeLeave_noted (s := s1) (p := p) (by rw [hstates, h]) (by rw [hcounted]; exact ht)
    have hpair := leaveNoted_pair p s1
    refine ⟨_, exec_fragment hf hp (f := .leave why) trivial, hnow, hlife, ?_, ?_⟩
    · rw [(redecide_delivery _).mark, route, hleave, leaveNoted, rxRemove_mark]
    · rw [route, hleave, (redecide_rested (by rw [hpair]; exact ne_of_eq_of_ne ((hstates p).trans h) (by decide))).1, hpair]
  · have hleave := takeLeave_ignored (s := s1) (p := p) (by rw [hstates]; exact ha) (by rw [hstates]; exact hj)
      (by rw [hstates]; exact hl)
    rw [exec_fragment_unheld hf hp (f := .leave why) trivial (by rw [route, hleave]; exact hheld), route, hleave]
  · have hignored := rxProgress_ignored (s := s1) h
    rw [exec_fragment_unheld hf hp (f := .progress m) trivial (by rw [route, hignored]; exact hheld), route, hignored]
  · have hframe := rxProgress_frame p m s1
    obtain ⟨hmark, hmarks⟩ := rxProgress_advanced (s := s1) h ha
    exact ⟨_, exec_fragment_unheld hf hp (f := .progress m) trivial ((congrArg Dispatcher.held hframe.disp).trans hheld),
      hframe, hmark, hmarks⟩

end Sys2Proof.Machine

/-! PROOFS. A JOIN and its answer (R48, R50, R51, R127, R130): the JOIN-ACK placed or made to wait, and the receiver
synchronised or the pair joined to its live set (O37). -/

namespace Sys2Proof.Machine

variable {p : PairNo} {s t u : State} {m : Seq} {e : BitVec 8}

/-! ### The answer (R48, R50) -/

theorem placeAck_same (p echo : PairNo) (result : JoinResult) (s : State) :
    OutboundSame s (placeAck p echo result s) := by
  unfold placeAck place
  split
  · rename_i h
    split at h
    · cases h
      exact (stage_same p _ s).trans (modPair_same p _ _)
    · cases h
  · exact modPair_same p _ s

theorem placeAck_portKept (p echo : PairNo) (result : JoinResult) (s : State) :
    PortKept p s (placeAck p echo result s) := by
  unfold placeAck
  split
  · exact (place_portKept ‹_›).trans (modPair_portKept p _ _)
  · exact modPair_portKept p _ s

theorem placeAck_receiver (p echo : PairNo) (result : JoinResult) (s : State) :
    ReceiverKept s (placeAck p echo result s) :=
  .of_pairFrame (placeAck_still p echo result s) (placeAck_frame p echo result s) (placeAck_portKept p echo result s)

theorem placeAck_kept_pair (p echo : PairNo) (result : JoinResult) (s : State) :
    (placeAck p echo result s).pair p = { s.pair p with
      progressTimer := ((placeAck p echo result s).pair p).progressTimer,
      waitAck := ((placeAck p echo result s).pair p).waitAck } := by
  rw [(placeAck_at p echo result s).2]
  split <;> rfl

/-- The JOIN is answered between `s` and `t`: by room in the queue the JOIN-ACK joins its tail or waits. -/
structure JoinAnswered (p echo : PairNo) (result : JoinResult) (s t : State) : Prop where
  state : (t.pair p).state = (s.pair p).state
  reason : (t.pair p).reason = (s.pair p).reason
  life : LifeFrame p s t
  room : (s.port p).queue.length < 4 ∧ (s.port p).backlog + 12 ≤ 3072 →
    (t.port p).queue.map (·.frag) = (s.port p).queue.map (·.frag) ++ [.joinAck s.mgmt.bondId echo result]
  full : ¬((s.port p).queue.length < 4 ∧ (s.port p).backlog + 12 ≤ 3072) →
    (t.port p).queue = (s.port p).queue ∧ (t.pair p).waitAck = some (echo, result)

theorem placeAck_answered (p echo : PairNo) (result : JoinResult) (s : State) :
    JoinAnswered p echo result s (placeAck p echo result s) := by
  obtain ⟨hport, hpair⟩ := placeAck_at p echo result s
  have hkept := placeAck_kept_pair p echo result s
  refine ⟨by rw [hkept], by rw [hkept], (placeAck_frame p echo result s).life, fun h => ?_, fun h => ?_⟩
  · rw [hport, if_pos (Port.hasRoom_iff.2 h), appended_frags]
  · rw [hport, hpair, if_neg (mt Port.hasRoom_iff.1 h), if_neg (mt Port.hasRoom_iff.1 h)]
    exact ⟨rfl, rfl⟩

/-- The inbound path leaves an answer as it is. -/
theorem JoinAnswered.after {echo : PairNo} {result : JoinResult} (h : JoinAnswered p echo result s t)
    (k : InboundFrame t u) : JoinAnswered p echo result s u := by
  obtain ⟨hstate, hreason, hlife, hroom, hfull⟩ := h
  have hpair := pair_congr k.pairs p
  have hport := port_congr k.ports p
  exact ⟨by rw [hpair, hstate], by rw [hpair, hreason], hlife.trans (k.life p), fun h => by rw [hport, hroom h],
    fun h => by rw [hpair, hport]; exact hfull h⟩

/-! ### The receiver takes a JOIN (R127, R130) -/

/-- An UNSYNCED receiver synchronised on a JOIN, before what follows. -/
def State.resynced (p : PairNo) (m : Seq) (e : BitVec 8) (s : State) : State :=
  ((s.modRx fun x => { x with nes := m, peerEpoch := e, synced := true }).setMark p (some m)).count .resyncs

theorem rxJoin_unsynced (h : s.rx.synced = false) (p : PairNo) (m : Seq) (e : BitVec 8) :
    rxJoin p m e s = membershipFollow (s.resynced p m e) := by
  rw [rxJoin, h]
  rfl

theorem resynced_mark (p : PairNo) (m : Seq) (e : BitVec 8) (s : State) : (s.resynced p m e).mark p = some m :=
  mark_setMark p (some m) (s.modRx fun x => { x with nes := m, peerEpoch := e, synced := true })

theorem resynced_mark_ne {q : PairNo} (h : q ≠ p) (m : Seq) (e : BitVec 8) (s : State) :
    (s.resynced p m e).mark q = s.mark q :=
  mark_setMark_ne h (some m) (s.modRx fun x => { x with nes := m, peerEpoch := e, synced := true })

theorem resynced_counter (p : PairNo) (m : Seq) (e : BitVec 8) (s : State) :
    (s.resynced p m e).counter .resyncs = countUp (s.counter .resyncs) 1 := by
  rw [State.resynced, State.count, counter_countBy]
  rfl

/-- What the acceptance of a JOIN leaves at the receiver: it is SYNCED, the pair has a mark, and the other pairs theirs. -/
structure JoinTaken (p : PairNo) (e : BitVec 8) (s t : State) : Prop where
  synced : t.rx.synced = true
  epoch : t.rx.peerEpoch = e
  marks : ∀ q, q ≠ p → t.mark q = s.mark q
  live : (t.mark p).isSome = true
  time : s.mark p = none → ReorderTime t

theorem JoinTaken.after (h : JoinTaken p e s t) (k : ReceiverKept t u) : JoinTaken p e s u :=
  ⟨(k.awake p h.live).trans h.synced, k.epoch.trans h.epoch, fun q hq => (k.mark q).trans (h.marks q hq),
    by rw [k.mark, h.live], fun hm => (h.time hm).of_receiver k⟩

/-- The mark that a JOIN leaves a pair of a SYNCED receiver (R130). -/
def joinedMark (m : Seq) : Option Seq → Seq
  | none => m
  | some pm => laterOf pm m

theorem rxJoin_synced (h : s.rx.synced = true) (p : PairNo) (m : Seq) :
    ∃ v, SyncKept (s.setMark p (some (joinedMark m (s.mark p)))) v ∧ rxJoin p m e s = v ∧
      (s.mark p = none → ReorderTime v) := by
  rw [rxJoin, h, if_pos rfl]
  cases hm : s.mark p with
  | none => exact ⟨_, membershipFollow_sync _, rfl, fun _ => membershipFollow_time (p := p) (by rw [mark_setMark]; rfl)⟩
  | some pm => exact ⟨_, rxFollow_sync _, rfl, nofun⟩

/-- A JOIN accepted at a SYNCED receiver of its epoch (R130). -/
theorem rxJoin_of_synced (h : s.rx.synced = true) (he : e = s.rx.peerEpoch) (p : PairNo) (m : Seq) :
    JoinTaken p e s (rxJoin p m e s) ∧ (rxJoin p m e s).mark p = some (joinedMark m (s.mark p)) ∧
    (∀ c ∈ syncCounters, (rxJoin p m e s).counter c = s.counter c) := by
  obtain ⟨v, hk, hv, htime⟩ := rxJoin_synced (e := e) h p m
  rw [hv]
  have hmark : v.mark p = some (joinedMark m (s.mark p)) := by rw [hk.mark, mark_setMark]
  refine ⟨⟨?_, hk.epoch.trans he.symm, fun q hq => ?_, by rw [hmark]; rfl, htime⟩, hmark, hk.counter⟩
  · exact (hk.awake p (by rw [mark_setMark]; rfl)).trans h
  · rw [hk.mark, mark_setMark_ne hq]

/-- A JOIN accepted at an UNSYNCED receiver (R127). -/
theorem rxJoin_of_unsynced (h : s.rx.synced = false) (p : PairNo) (m : Seq) (e : BitVec 8) :
    JoinTaken p e s (rxJoin p m e s) ∧ (rxJoin p m e s).mark p = some m ∧
    (rxJoin p m e s).counter .resyncs = countUp (s.counter .resyncs) 1 ∧
    (s.rx.window = [] → (rxJoin p m e s).rx.window = [] ∧ (rxJoin p m e s).rx.nes = m) := by
  have hk := membershipFollow_sync (s.resynced p m e)
  have htime := membershipFollow_time (s := s.resynced p m e) (p := p) (by rw [resynced_mark]; rfl)
  rw [rxJoin_unsynced h]
  refine ⟨⟨?_, hk.epoch, fun q hq => ?_, by rw [hk.mark, resynced_mark]; rfl, fun _ => htime⟩,
    by rw [hk.mark, resynced_mark], ?_,
    fun hw => ⟨(hk.store hw).1, (hk.store hw).2.1⟩⟩
  · exact (hk.awake p (by rw [resynced_mark]; rfl)).trans rfl
  · rw [hk.mark, resynced_mark_ne hq]
  · rw [hk.counter _ (by decide), resynced_counter]

/-! ### A JOIN by the pair's state (R50, R51) -/

theorem takeJoin_ignored (echo : PairNo) (m : Seq) (bond : BitVec 16) (e : BitVec 8)
    (h : (s.pair p).state = .vacant ∨ (s.pair p).state = .parked ∨ (s.pair p).state = .training ∨
      (s.pair p).state = .quarantine ∨ (s.pair p).state = .faulted) : takeJoin p echo m bond e s = s := by
  unfold takeJoin
  rcases h with h | h | h | h | h <;> simp only [h]

theorem takeJoin_settling (echo : PairNo) (m : Seq) (e : BitVec 8) (h : (s.pair p).state = .settling) :
    takeJoin p echo m s.mgmt.bondId e s = placeAck p echo .notReady s := by
  unfold takeJoin
  simp only [h, if_true]

theorem takeJoin_foreign (echo : PairNo) (m : Seq) {bond : BitVec 16} (e : BitVec 8)
    (h : (s.pair p).state = .settling ∨ (s.pair p).state = .joining ∨ (s.pair p).state = .active ∨
      (s.pair p).state = .leaving) (hb : bond ≠ s.mgmt.bondId) :
    takeJoin p echo m bond e s = placeAck p echo .wrongBond s := by
  unfold takeJoin
  rcases h with h | h | h | h <;> simp only [h, if_neg hb]

/-- A matching JOIN on a JOINING pair that is no peer restart is accepted. -/
theorem takeJoin_joining (echo : PairNo) (m : Seq) (h : (s.pair p).state = .joining)
    (he : s.rx.synced = false ∨ e = s.rx.peerEpoch) :
    takeJoin p echo m s.mgmt.bondId e s = acceptJoin p echo m e s := by
  have hno : (s.rx.synced && e != s.rx.peerEpoch) = false := by
    rcases he with he | he <;> simp [he]
  unfold takeJoin
  simp only [h, hno, if_true, Bool.false_eq_true, if_false]

/-- A JOIN accepted while the outbound direction is not joined makes no ACTIVE test succeed (R51, R53). -/
theorem acceptJoin_unjoined (echo : PairNo) (m : Seq) (e : BitVec 8) (h : (s.pair p).outboundJoined = false) :
    acceptJoin p echo m e s = rxJoin p m e (placeAck p echo .accept s) := by
  rw [acceptJoin, activeTest, pair_congr (rxJoin_frame p m e _).pairs p, placeAck_kept_pair, h]
  simp

/-! ### The fragment -/

/-- A JOIN answered and nothing more. -/
theorem exec_join_answered {bond : BitVec 16} {echo : PairNo} {result : JoinResult} (hf : p.val < s.mgmt.fitted)
    (hp : (s.port p).present = true) (hheld : s.disp.held = false)
    (h : takeJoin p echo m bond e (s.countPair p .fragmentsReceived) =
      placeAck p echo result (s.countPair p .fragmentsReceived)) :
    exec (.fragmentReceived p (Fragment.join m bond echo e).octets) s =
      .next (placeAck p echo result (s.countPair p .fragmentsReceived)) := by
  have hdisp := (placeAck_same p echo result (s.countPair p .fragmentsReceived)).disp
  rw [exec_fragment_unheld hf hp (f := .join m bond echo e) trivial (by rw [route, h, hdisp]; exact hheld), route, h]

theorem counted_answered {echo : PairNo} {result : JoinResult}
    (h : JoinAnswered p echo result (s.countPair p .fragmentsReceived) t) :
    (t.pair p).state = (s.pair p).state ∧ (t.pair p).reason = (s.pair p).reason ∧
    LifeFrame p (s.countPair p .fragmentsReceived) t ∧
    ((s.port p).queue.length < 4 ∧ (s.port p).backlog + 12 ≤ 3072 →
      (t.port p).queue.map (·.frag) = (s.port p).queue.map (·.frag) ++ [.joinAck s.mgmt.bondId echo result]) ∧
    (¬((s.port p).queue.length < 4 ∧ (s.port p).backlog + 12 ≤ 3072) →
      (t.port p).queue = (s.port p).queue ∧ (t.pair p).waitAck = some (echo, result)) := by
  obtain ⟨hstate, hreason, hlife, hroom, hfull⟩ := h
  rw [countPair_pair] at hstate hreason
  exact ⟨hstate, hreason, hlife, hroom, hfull⟩

/-- A matching JOIN accepted on a JOINING pair whose outbound direction is not joined, while no fragment is held. -/
theorem exec_join_accepted (echo : PairNo) (hf : p.val < s.mgmt.fitted) (hp : (s.port p).present = true)
    (hheld : s.disp.held = false) (h : (s.pair p).state = .joining) (ho : (s.pair p).outboundJoined = false)
    (he : s.rx.synced = false ∨ e = s.rx.peerEpoch) :
    exec (.fragmentReceived p (Fragment.join m s.mgmt.bondId echo e).octets) s =
      .next (rxJoin p m e (placeAck p echo .accept (s.countPair p .fragmentsReceived))) := by
  have hpair := countPair_pair (p := p) .fragmentsReceived s
  have haccept : takeJoin p echo m s.mgmt.bondId e (s.countPair p .fragmentsReceived) =
      rxJoin p m e (placeAck p echo .accept (s.countPair p .fragmentsReceived)) :=
    (takeJoin_joining (s := s.countPair p .fragmentsReceived) echo m (by rw [hpair]; exact h) he).trans
      (acceptJoin_unjoined echo m e (by rw [hpair]; exact ho))
  have hdisp := (rxJoin_frame p m e (placeAck p echo .accept (s.countPair p .fragmentsReceived))).disp.trans
    (placeAck_same p echo .accept _).disp
  rw [exec_fragment_unheld hf hp (f := .join m s.mgmt.bondId echo e) trivial
    (by rw [route, haccept, hdisp]; exact hheld), route, haccept]

/-- Settles O37: the answer by the pair's state and the bond id, then the receiver. -/
theorem joinIsAnswered : Obligations.JoinIsAnswered := by
  unfold Obligations.JoinIsAnswered
  intro s p m bond echo e hf hp hheld c s1 room answer
  have hstates := fun q => counted_state p q s
  have hanswer := fun result => placeAck_answered p echo result s1
  refine ⟨fun h => ?_, fun ⟨h, hb⟩ => ?_, fun ⟨h, hb⟩ => ?_, fun h hb ho => ⟨fun hsync hlaw => ?_, fun hsync he => ?_⟩⟩
  · have hignored := takeJoin_ignored (s := s1) (p := p) echo m bond e (by rw [hstates]; exact h)
    have hroute : route p (.join m bond echo e) s1 = s1 := hignored
    exact (exec_fragment_unheld hf hp (f := .join m bond echo e) trivial (by rw [hroute]; exact hheld)).trans
      (by rw [hroute])
  · subst hb
    have hexec := exec_join_answered hf hp hheld
      (takeJoin_settling (s := s1) (p := p) echo m e (by rw [hstates]; exact h))
    exact ⟨_, hexec, counted_answered (hanswer .notReady), (placeAck_still p echo .notReady s1).rx⟩
  · have hexec := exec_join_answered hf hp hheld
      (takeJoin_foreign (s := s1) (p := p) echo m e (by rw [hstates]; exact h) hb)
    exact ⟨_, hexec, counted_answered (hanswer .wrongBond), (placeAck_still p echo .wrongBond s1).rx⟩
  · subst hb
    obtain ⟨hwindow, hmarks⟩ := hlaw.unsynced hsync
    have hk := placeAck_still p echo .accept s1
    have hframe := rxJoin_frame p m e (placeAck p echo .accept s1)
    obtain ⟨htaken, hmark, hcount, hnes⟩ := rxJoin_of_unsynced (s := placeAck p echo .accept s1)
      (by rw [hk.rx]; exact hsync) p m e
    have hnone : ∀ q, (placeAck p echo .accept s1).mark q = none := fun q => (hk.sync.mark q).trans (hmarks q)
    rw [hk.counter _ (by decide)] at hcount
    exact ⟨_, exec_join_accepted echo hf hp hheld h ho (.inl hsync), counted_answered ((hanswer .accept).after hframe),
      htaken.synced, (hnes (by rw [hk.rx]; exact hwindow)).2, htaken.epoch, hmark,
      fun q hq => (htaken.marks q hq).trans (hnone q), hcount, htaken.time (hnone p)⟩
  · subst hb
    have hk := placeAck_still p echo .accept s1
    have hframe := rxJoin_frame p m e (placeAck p echo .accept s1)
    have hpre : ∀ q, (placeAck p echo .accept s1).mark q = s.mark q := hk.sync.mark
    obtain ⟨htaken, hmark, -⟩ := rxJoin_of_synced (e := e) (s := placeAck p echo .accept s1)
      (by rw [hk.rx]; exact hsync) (by rw [hk.rx]; exact he) p m
    rw [hpre] at hmark
    refine ⟨_, exec_join_accepted echo hf hp hheld h ho (.inr he), counted_answered ((hanswer .accept).after hframe),
      htaken.synced, htaken.epoch, fun q hq => (htaken.marks q hq).trans (hpre q), ?_,
      fun hm => htaken.time ((hpre p).trans hm)⟩
    rw [hmark]
    cases s.mark p <;> rfl

end Sys2Proof.Machine

/-! PROOFS. Entry to ACTIVE (R53 to R55): what the dispatcher and the renewal test may do then, the pair that stays ACTIVE
and the one that leaves again for its rate. -/

namespace Sys2Proof.Machine

variable {p q : PairNo} {s t u : State}

/-! ### Line queues that only grow (R25) -/

/-- Between `s` and `t` fragments have only joined the tail of pair `q`'s line queue. -/
def Grown (q : PairNo) (s t : State) : Prop := (s.port q).queue.map (·.frag) <+: (t.port q).queue.map (·.frag)

theorem Grown.of_eq (h : t.port q = s.port q) : Grown q s t := by rw [Grown, h]

theorem Grown.trans (h : Grown q s t) (k : Grown q t u) : Grown q s u := List.IsPrefix.trans h k

theorem stage_grown (p q : PairNo) (f : Fragment) (s : State) : Grown q s (stage p f s) := by
  by_cases hq : q = p
  · subst hq
    rw [Grown, stage_frags]
    exact List.prefix_append _ _
  · exact .of_eq ((stage_frame p f s).ports q hq)

theorem placeProgress_grown (p q : PairNo) (s : State) : Grown q s (placeProgress p s) := by
  unfold placeProgress place
  split
  · rename_i h
    split at h
    · cases h
      exact (stage_grown p q _ s).trans (.of_eq rfl)
    · cases h
  · exact .of_eq rfl

theorem renewalTest_grown (p q : PairNo) (s : State) : Grown q s (renewalTest p s) := by
  unfold renewalTest
  split
  · have h := placeProgress_grown p q (s.modPair p fun r => { r with renewal := true })
    rwa [Grown, port_modPair] at h
  · exact .of_eq rfl

theorem placeFragment_grown (p q : PairNo) (plan : SplitPlan) (s : State) : Grown q s (placeFragment p plan s) := by
  have hp := placeFragment_placed p plan s
  by_cases hq : q = p
  · subst hq
    rw [Grown, hp.port, appended_frags]
    exact List.prefix_append _ _
  · exact .of_eq (hp.ports q hq)

theorem dispatchMove_grown {b : Bool} (q : PairNo) (h : dispatchMove s = some (t, b)) : Grown q s t := by
  unfold dispatchMove at h
  split at h
  · split at h
    · obtain ⟨rfl, rfl⟩ := Option.some.inj h |> Prod.mk.inj
      have htaken := selectFrame_taken ‹_›
      exact Grown.trans (.of_eq (port_congr htaken.ports q)) (.of_eq rfl)
    · split at h
      · cases h
      · obtain ⟨rfl, rfl⟩ := Option.some.inj h |> Prod.mk.inj
        exact .of_eq rfl
  · split at h
    · obtain ⟨rfl, rfl⟩ := Option.some.inj h |> Prod.mk.inj
      split
      · exact (placeFragment_grown _ q _ s).trans (.of_eq (port_congr (finishFrame_finished _ _).ports q))
      · exact placeFragment_grown _ q _ s
    · split at h
      · cases h
      · obtain ⟨rfl, rfl⟩ := Option.some.inj h |> Prod.mk.inj
        exact .of_eq rfl

theorem race_if_port (b : Bool) (q : PairNo) (s : State) : (if b then s.race else (false, s)).2.port q = s.port q := by
  split <;> rfl

theorem renewalTests_grown (q : PairNo) (s : State) : Grown q s (renewalTests s) :=
  forPairs_induct (P := Grown q s) (fun r _ h => h.trans (renewalTest_grown r q _)) s (.of_eq rfl)

theorem dispatchRun_grown (n : Nat) (owed : Bool) (q : PairNo) (s : State) : Grown q s (dispatchRun n owed s) := by
  induction n generalizing owed s with
  | zero =>
    unfold dispatchRun
    split
    · exact renewalTests_grown q s
    · exact .of_eq rfl
  | succ n ih =>
    cases owed with
    | true =>
      unfold dispatchRun
      have hr : Grown q s (if s.renewalWanted then s.race else (false, s)).2 := .of_eq (race_if_port _ q s)
      generalize (if s.renewalWanted then s.race else (false, s)) = b at hr
      have hrun := (hr.trans (renewalTests_grown q _)).trans (ih false _)
      dsimp only
      split
      · split
        · exact (hr.trans (dispatchMove_grown q ‹_›)).trans (ih _ _)
        · exact hrun
      · exact hrun
    | false =>
      unfold dispatchRun
      have hr : Grown q s (if s.mayStop then s.race else (false, s)).2 := .of_eq (race_if_port _ q s)
      generalize (if s.mayStop then s.race else (false, s)) = b at hr
      dsimp only
      split
      · exact hr.trans (.of_eq rfl)
      · split
        · exact (hr.trans (dispatchMove_grown q ‹_›)).trans (ih _ _)
        · exact hr

theorem redecide_grown (q : PairNo) (s : State) : Grown q s (redecide s) := by
  unfold redecide
  split
  · exact (dispatchRun_grown _ _ q s).trans (.of_eq (port_congr (drainTells_frame _).ports q))
  · exact .of_eq rfl

/-! ### Moves that leave a pair in its state -/

/-- What the dispatcher and the renewal tests leave of pair `p` and of the receiver: the pair's record but for reference,
renewal and progress timer, its queue but for what joins the tail. -/
structure RunKept (p : PairNo) (s t : State) : Prop where
  pair : t.pair p = { s.pair p with
    progressTimer := (t.pair p).progressTimer, outRef := (t.pair p).outRef, renewal := (t.pair p).renewal }
  delivery : DeliveryKept s t
  sync : SyncKept s t
  grown : Grown p s t
  now : t.now = s.now

theorem RunKept.trans (h : RunKept p s t) (k : RunKept p t u) : RunKept p s u :=
  ⟨by rw [k.pair, h.pair], h.delivery.trans k.delivery, h.sync.trans k.sync, h.grown.trans k.grown,
    k.now.trans h.now⟩

theorem redecide_run (p : PairNo) (s : State) : RunKept p s (redecide s) :=
  ⟨(redecide_frame s).pairs p, redecide_delivery s, redecide_sync s, redecide_grown p s,
    (redecide_frame s).now⟩

theorem renewalTest_run (p : PairNo) (s : State) : RunKept p s (renewalTest p s) :=
  ⟨(renewalTest_frame p s).pairs p, renewalTest_delivery p s, (renewalTest_still p s).sync, renewalTest_grown p p s,
    (renewalTest_frame p s).now⟩

theorem startProgress_run (p : PairNo) (s : State) : RunKept p s (startProgress p s) := by
  refine ⟨?_, ?_, (startProgress_still p s).sync, .of_eq (startProgress_port p p s), (startProgress_frame p s).now⟩
  · rw [startProgress_pair]
    split <;> rfl
  · unfold startProgress
    split
    · exact modPair_delivery p _ s
    · exact .refl s

theorem race_if_run (b : Bool) (p : PairNo) (s : State) : RunKept p s (if b then s.race else (false, s)).2 := by
  refine ⟨?_, race_if_delivery b s, (race_if_still b s).sync, .of_eq (race_if_port b p s), ?_⟩ <;>
    split <;> rfl

/-! ### Entry to ACTIVE (R53) -/

/-- What follows the rate test of a pair that stays ACTIVE: a held fragment and a renewal that want it [8], and the progress
timer (R9, R54, R118). -/
def activeMoves (p : PairNo) (s : State) : State :=
  let r := if s.disp.held && s.renewalDue p then s.race else (false, s)
  startProgress p (renewalTest p (if r.1 then redecide r.2 else r.2))

theorem enterActive_eq (p : PairNo) (s : State) : enterActive p s =
    if (activeRateTest p (enter p .active (s.pair p).reason s)).isActive p then
      activeMoves p (activeRateTest p (enter p .active (s.pair p).reason s))
    else activeRateTest p (enter p .active (s.pair p).reason s) := rfl

theorem activeMoves_run (p : PairNo) (s : State) : RunKept p s (activeMoves p s) := by
  have hr := race_if_run (s.disp.held && s.renewalDue p) p s
  unfold activeMoves
  dsimp only
  generalize (if s.disp.held && s.renewalDue p then s.race else (false, s)) = r at *
  refine RunKept.trans (RunKept.trans ?_ (renewalTest_run p _)) (startProgress_run p _)
  split
  · exact hr.trans (redecide_run p _)
  · exact hr

/-- While no fragment is held, only the renewal test and the progress timer act. -/
theorem activeMoves_unheld (h : s.disp.held = false) : activeMoves p s = startProgress p (renewalTest p s) := by
  simp [activeMoves, h]

theorem enter_active_port (h : (s.pair p).state = .joining) (why : Reason) :
    ((enter p .active why s).port p).queue.map (·.frag) = (s.port p).queue.map (·.frag) ∧
    ((enter p .active why s).port p).backlog = (s.port p).backlog ∧
    ((enter p .active why s).port p).report = (s.port p).report := by
  have he : (s.port p).entered .joining .active = ((s.port p).ordered .train).handAll true := rfl
  obtain ⟨hq, ht⟩ := Port.ordered_queue .train (s.port p)
  refine ⟨?_, ?_, (enter_portKept p .active why s).report⟩
  · rw [enter_port, h, he, (Port.handAll_keeps _ _).1, hq]
  · rw [enter_port, h, he, Port.handAll_backlog, Port.backlog, Port.backlog, hq, ht]

theorem enter_active_pair (h : (s.pair p).state = .joining) (why : Reason) :
    (enter p .active why s).pair p = (s.pair p).entered .active why := by
  rw [enter_pair, h]
  rfl

theorem enter_active_usable (h : (s.pair p).state = .joining) (why : Reason) :
    (enter p .active why s).usable p = decide (64 ≤ (s.port p).report.upRate * (s.pair p).derate / 100) := by
  rw [State.usable, State.effUp, enter_active_pair h, (enter_active_port h why).2.2]
  rfl

/-- Entry to ACTIVE takes no pair out of the live set, and keeps the dispatcher as it is. -/
theorem enter_active_receiver (p : PairNo) (why : Reason) (s : State) :
    ReceiverKept s (enter p .active why s) ∧ (enter p .active why s).disp = s.disp ∧
    ((∀ q, (s.pair q).state ≠ .active) → s.mgmt.mask.getLsbD 0 = false →
      (enter p .active why s).occurrences .bondState = min (s.occurrences .bondState + 1) 255) := by
  have hacts := entryActs_acts p .active why s
  have hcount : ((entryActs p .active why s).raise (.pairState p)).activeCount ≠ 0 :=
    activeCount_ne_zero (p := p) (by rw [pair_raise, entryActs_state])
  have hentry : enter p .active why s = if s.activeCount = 0 then
      ((entryActs p .active why s).raise (.pairState p)).raise .bondState
    else (entryActs p .active why s).raise (.pairState p) := by
    change activeChanged id s.activeCount ((entryActs p .active why s).raise (.pairState p)) = _
    rw [activeChanged, if_neg hcount, if_neg hcount]
  refine ⟨entering_receiver p .active why s, ?_, fun hnone hmask => ?_⟩
  · rw [hentry]
    split
    · rw [raise_disp, raise_disp, hacts.disp]
    · rw [raise_disp, hacts.disp]
  · have hfree : ((entryActs p .active why s).raise (.pairState p)).isMasked .bondState = false := by
      rw [State.isMasked, (raise_frame _ _).inbound.mask, hacts.frame.event.mask]
      exact hmask
    rw [hentry, if_pos (activeCount_eq_zero hnone), raise_unmasked hfree,
      occurrences_raise_ne (pairState_place_ne_bondState p).symm, hacts.delivery.notices _ rfl]

/-- Pair `p` has entered ACTIVE from JOINING between `s` and `t` and stays there. -/
structure Activated (p : PairNo) (s t : State) : Prop where
  state : (t.pair p).state = .active
  reason : (t.pair p).reason = (s.pair p).reason
  timer : (t.pair p).stateTimer = none
  repeated : (t.pair p).joinRepeat = none
  joined : (t.pair p).outboundJoined = false
  told : StateTold p 1 s t
  bond : (∀ q, (s.pair q).state ≠ .active) → s.mgmt.mask.getLsbD 0 = false →
    t.occurrences .bondState = min (s.occurrences .bondState + 1) 255
  sync : SyncKept s t
  grown : Grown p s t

theorem Activated.after (h : Activated p s t) (k : RunKept p t u) : Activated p s u := by
  obtain ⟨hstate, hreason, htimer, hrepeat, hjoined, htold, hbond, hsync, hgrown⟩ := h
  exact ⟨by rw [k.pair]; exact hstate, by rw [k.pair]; exact hreason, by rw [k.pair]; exact htimer,
    by rw [k.pair]; exact hrepeat, by rw [k.pair]; exact hjoined, htold.of_eq_right (k.delivery.notices _ rfl),
    fun hn hm => (k.delivery.notices _ rfl).trans (hbond hn hm), hsync.trans k.sync, hgrown.trans k.grown⟩

theorem enter_activated (h : (s.pair p).state = .joining) :
    Activated p s (enter p .active (s.pair p).reason s) := by
  have hpair := enter_active_pair h (s.pair p).reason
  obtain ⟨hreceiver, -, hbond⟩ := enter_active_receiver p (s.pair p).reason s
  refine ⟨by rw [hpair]; rfl, by rw [hpair]; rfl, by rw [hpair]; rfl, by rw [hpair]; rfl, by rw [hpair]; rfl,
    enter_told p _ _ s, hbond, hreceiver.toSyncKept, ?_⟩
  rw [Grown, (enter_active_port h _).1]

/-- A pair that enters ACTIVE with a usable rate stays there (R53, R55). -/
theorem enterActive_stays (h : (s.pair p).state = .joining)
    (hr : 64 ≤ (s.port p).report.upRate * (s.pair p).derate / 100) :
    enterActive p s = activeMoves p (enter p .active (s.pair p).reason s) := by
  have htest : activeRateTest p (enter p .active (s.pair p).reason s) = enter p .active (s.pair p).reason s := by
    rw [activeRateTest, enter_active_usable h, if_pos (decide_eq_true hr)]
  rw [enterActive_eq, htest, if_pos]
  simp [State.isActive, enter_active_pair h, Pair.entered]

theorem enterActive_activated (h : (s.pair p).state = .joining)
    (hr : 64 ≤ (s.port p).report.upRate * (s.pair p).derate / 100) : Activated p s (enterActive p s) := by
  rw [enterActive_stays h hr]
  exact (enter_activated h).after (activeMoves_run p _)

/-! ### A rate too low for ACTIVE (R55) -/

/-- Pair `p` has entered ACTIVE between `s` and `t` and left it at once for its rate. -/
structure SlowlyLeft (p : PairNo) (s t : State) : Prop where
  state : (t.pair p).state = .leaving
  reason : (t.pair p).reason = .lowRate
  form : (t.pair p).leaveForm = .graceful
  timer : (t.pair p).stateTimer = some (.leave, s.now + s.cfg.leaveTimeout)
  told : StateTold p 2 s t
  sync : SyncKept s t
  grown : Grown p s t

theorem gracefulLeave_told (p : PairNo) (s : State) : StateTold p 1 s (gracefulLeave p .lowRate s) := by
  have hafter : DeliveryKept (enter p .leaving .lowRate s) (gracefulLeave p .lowRate s) := by
    rw [gracefulLeave_lowRate]
    exact ((modPair_delivery p _ _).trans (modPair_delivery p _ _)).trans (placeLeave_delivery p _ _)
  exact (enter_told p .leaving .lowRate s).of_eq_right (hafter.notices _ rfl)

theorem gracefulLeave_sync (p : PairNo) (s : State) : SyncKept s (gracefulLeave p .lowRate s) := by
  have hentry : SyncKept s (enter p .leaving .lowRate s) := entering_sync p .leaving .lowRate s
  rw [gracefulLeave_lowRate]
  exact hentry.trans (((modPair_still p _ _).trans (modPair_still p _ _)).trans (placeLeave_still p _ _)).sync

/-- The LEAVE joins the queue's tail, or waits (R56). -/
theorem gracefulLeave_grown (h : (s.pair p).state = .active) : Grown p s (gracefulLeave p .lowRate s) := by
  obtain ⟨hroom, hfull⟩ := gracefulLeave_placed h
  by_cases hr : (s.port p).queue.length < 4 ∧ (s.port p).backlog + 9 ≤ 3072
  · rw [Grown, (hroom hr.1 hr.2).2]
    exact List.prefix_append _ _
  · rw [Grown, (hfull hr).2]

theorem enterActive_slow (h : (s.pair p).state = .joining)
    (hr : (s.port p).report.upRate * (s.pair p).derate / 100 < 64) : SlowlyLeft p s (enterActive p s) := by
  have hpair := enter_active_pair h (s.pair p).reason
  have hframe := enter_frame p .active (s.pair p).reason s
  have hin := enter_activated h
  have htest : activeRateTest p (enter p .active (s.pair p).reason s) =
      gracefulLeave p .lowRate (enter p .active (s.pair p).reason s) := by
    rw [activeRateTest, enter_active_usable h, if_neg (by simpa using hr)]
  obtain ⟨hstate, hreason, hform, htimer⟩ := gracefulLeave_pair p (enter p .active (s.pair p).reason s)
  rw [enterActive_eq, htest, if_neg (by simp [State.isActive, hstate])]
  rw [hframe.now, hframe.event.cfg] at htimer
  exact ⟨hstate, hreason, hform, htimer, hin.told.trans (gracefulLeave_told p _) hframe.event.mask,
    hin.sync.trans (gracefulLeave_sync p _), hin.grown.trans (gracefulLeave_grown hin.state)⟩

theorem SlowlyLeft.redecide (h : SlowlyLeft p s t) : SlowlyLeft p s (redecide t) := by
  obtain ⟨hstate, hreason, hform, htimer, htold, hsync, hgrown⟩ := h
  obtain ⟨hpair, -⟩ := redecide_rested (p := p) (s := t) (by rw [hstate]; decide)
  exact ⟨by rw [hpair, hstate], by rw [hpair, hreason], by rw [hpair, hform], by rw [hpair, htimer],
    htold.of_eq_right ((redecide_delivery t).notices _ rfl), hsync.trans (redecide_sync t),
    hgrown.trans (redecide_grown p t)⟩

end Sys2Proof.Machine

/-! PROOFS. A JOIN-ACK (R49): by its result a JOINING pair is joined outbound, waits on, or goes to QUARANTINE (O39). -/

namespace Sys2Proof.Machine

variable {p : PairNo} {s t u : State}

/-! ### By the result (R11, R49) -/

theorem takeJoinAck_ignored (bond : BitVec 16) (result : JoinResult) (h : (s.pair p).state ≠ .joining) :
    takeJoinAck p bond result s = s := if_neg h

theorem takeJoinAck_wrong {bond : BitVec 16} {result : JoinResult} (h : (s.pair p).state = .joining)
    (hw : bond ≠ s.mgmt.bondId ∨ result = .wrongBond) : takeJoinAck p bond result s = quarantine p .crossBond s := by
  have hresult : (if bond = s.mgmt.bondId then result else .wrongBond) = .wrongBond := by
    rcases hw with hw | hw
    · exact if_neg hw
    · rw [hw, ite_self]
  rw [takeJoinAck, if_pos h, hresult]

theorem takeJoinAck_notReady (h : (s.pair p).state = .joining) :
    takeJoinAck p s.mgmt.bondId .notReady s = startTimer p .join (s.cfg.joinTimeout * 1000) s := by
  rw [takeJoinAck, if_pos h, if_pos rfl]

theorem takeJoinAck_again (h : (s.pair p).state = .joining) (ho : (s.pair p).outboundJoined = true) :
    takeJoinAck p s.mgmt.bondId .accept s = s := by
  rw [takeJoinAck, if_pos h, if_pos rfl]
  exact if_pos ho

/-- The outbound direction joined: no JOIN is repeated any more, and none waits (R49). -/
def State.joinedOut (s : State) (p : PairNo) : State :=
  s.modPair p fun r => { r with outboundJoined := true, joinRepeat := none, waitJoin := false }

theorem joinedOut_pair (p : PairNo) (s : State) :
    (s.joinedOut p).pair p = { s.pair p with outboundJoined := true, joinRepeat := none, waitJoin := false } :=
  pair_modPair ..

theorem takeJoinAck_accept (h : (s.pair p).state = .joining) (ho : (s.pair p).outboundJoined = false) :
    takeJoinAck p s.mgmt.bondId .accept s = activeTest p (s.joinedOut p) := by
  rw [takeJoinAck, if_pos h, if_pos rfl]
  exact if_neg (by simp [ho])

theorem activeTest_of_not_live (h : s.mark p = none) : activeTest p s = s := by
  simp [activeTest, State.isLive, h]

theorem activeTest_of_live (h : (s.pair p).state = .joining) (ho : (s.pair p).outboundJoined = true)
    (hl : (s.mark p).isSome = true) : activeTest p s = enterActive p s := if_pos ⟨h, ho, hl⟩

/-! ### A pair that is ACTIVE while no fragment is held (R9, R54) -/

/-- A renewal is due on pair `p` (R9). -/
def State.lags (s : State) (p : PairNo) : Prop := ∃ ref, (s.pair p).outRef = some ref ∧ 4096 ≤ dist s.disp.next ref

/-- What an ACTIVE pair with no renewal pending does first: a renewal that is due is placed, or pends for want of room, and
the progress timer starts over an empty queue. -/
structure ActiveBegun (p : PairNo) (s t : State) : Prop where
  placed : s.lags p → (s.port p).hasRoom 8 = true →
    (t.port p).queue.map (·.frag) = (s.port p).queue.map (·.frag) ++ [.progress s.disp.next] ∧
    (t.pair p).outRef = some s.disp.next ∧ (t.pair p).renewal = false ∧ (t.pair p).progressTimer = none
  waits : ¬(s.lags p ∧ (s.port p).hasRoom 8 = true) →
    (t.port p).queue.map (·.frag) = (s.port p).queue.map (·.frag) ∧ (t.pair p).outRef = (s.pair p).outRef ∧
    (s.lags p → (t.pair p).renewal = true) ∧ (¬s.lags p → (t.pair p).renewal = false) ∧
    (t.pair p).progressTimer = if (s.port p).queue = [] then some (s.now + s.cfg.progressInterval) else none

/-- A pair whose renewal test has come out starts its progress timer, if its queue is empty. -/
theorem startProgress_timer (h : (s.pair p).state = .active) (ht : (s.pair p).progressTimer = none) :
    (startProgress p s).pair p = { s.pair p with
      progressTimer := if (s.port p).queue = [] then some (s.now + s.cfg.progressInterval) else none } := by
  rw [startProgress_pair, State.isActive, h]
  by_cases hq : (s.port p).queue = []
  · simp [hq]
  · simp [hq, ← ht]

theorem renewed_begun (h : (s.pair p).state = .active) (hr : (s.pair p).renewal = false)
    (ht : (s.pair p).progressTimer = none) : ActiveBegun p s (startProgress p (renewalTest p s)) := by
  have hat := renewalTest_at p s
  have hframe := renewalTest_frame p s
  obtain ⟨-, hidle, hplaced, hfull⟩ := renewedAt_cases s.disp.next (s.port p) (s.pair p)
  have hlags : (s.pair p).state = .active ∧ ((s.pair p).renewal = true ∨
      ∃ ref, (s.pair p).outRef = some ref ∧ 4096 ≤ dist s.disp.next ref) ↔ s.lags p := by simp [h, hr, State.lags]
  rw [hlags] at hidle hplaced hfull
  refine ⟨fun hdue hroom => ?_, fun hno => ?_⟩
  · rw [hplaced hdue hroom, Prod.mk.injEq] at hat
    obtain ⟨hport, hpair⟩ := hat
    have hfrags : ((renewalTest p s).port p).queue.map (·.frag) =
        (s.port p).queue.map (·.frag) ++ [.progress s.disp.next] := by rw [hport, appended_frags]
    have hne : ((renewalTest p s).port p).queue ≠ [] := fun hnil => by simp [hnil] at hfrags
    rw [startProgress_of_queue hne, hfrags, hpair]
    exact ⟨rfl, rfl, rfl, rfl⟩
  · have hsplit : (renewalTest p s).port p = s.port p ∧ ∃ b : Bool,
        (renewalTest p s).pair p = { s.pair p with renewal := b } ∧ (b = true ↔ s.lags p) := by
      by_cases hdue : s.lags p
      · rw [hfull hdue (Bool.eq_false_iff.2 fun hroom => hno ⟨hdue, hroom⟩), Prod.mk.injEq] at hat
        exact ⟨hat.1, true, hat.2, by simp [hdue]⟩
      · rw [hidle hdue, Prod.mk.injEq] at hat
        exact ⟨hat.1, false, by rw [hat.2, ← hr], by simp [hdue]⟩
    obtain ⟨hport, b, hpair, hb⟩ := hsplit
    have hstart := startProgress_timer (p := p) (s := renewalTest p s) (by rw [hpair]; exact h) (by rw [hpair]; exact ht)
    rw [startProgress_port, hstart, hpair, hport, hframe.now, hframe.event.cfg]
    exact ⟨rfl, rfl, hb.2, fun hdue => Bool.eq_false_iff.2 (mt hb.1 hdue), rfl⟩

/-- Entry to ACTIVE, seen from before it. -/
theorem enterActive_begun (h : (s.pair p).state = .joining)
    (hr : 64 ≤ (s.port p).report.upRate * (s.pair p).derate / 100) (hheld : s.disp.held = false) :
    ActiveBegun p s (enterActive p s) ∧ (enterActive p s).disp.held = false := by
  have hpair := enter_active_pair h (s.pair p).reason
  obtain ⟨hfrags, hbacklog, -⟩ := enter_active_port h (s.pair p).reason
  have hframe := enter_frame p .active (s.pair p).reason s
  obtain ⟨-, hdisp, -⟩ := enter_active_receiver p (s.pair p).reason s
  rw [enterActive_stays h hr]
  generalize enter p .active (s.pair p).reason s = w at *
  rw [activeMoves_unheld (by rw [hdisp, hheld])]
  have hroom : (w.port p).hasRoom 8 = (s.port p).hasRoom 8 := hasRoom_congr hfrags hbacklog 8
  have hlags : w.lags p ↔ s.lags p := by
    rw [State.lags, State.lags, hpair, hdisp]
    rfl
  have hempty : (w.port p).queue = [] ↔ (s.port p).queue = [] := by
    rw [← List.map_eq_nil_iff (f := fun e : Entry => e.frag), hfrags, List.map_eq_nil_iff]
  obtain ⟨hplaced, hwaits⟩ := renewed_begun (p := p) (s := w) (by rw [hpair]; rfl) (by rw [hpair]; rfl) (by rw [hpair]; rfl)
  rw [hlags, hroom, hfrags, hdisp] at hplaced
  rw [hlags, hroom, hfrags, hframe.now, hframe.event.cfg] at hwaits
  simp only [hempty] at hwaits
  rw [hpair] at hwaits
  refine ⟨⟨hplaced, hwaits⟩, ?_⟩
  have hstart : (startProgress p (renewalTest p w)).disp = (renewalTest p w).disp := by
    unfold startProgress
    split <;> rfl
  rw [hstart, (renewalTest_renewalFrame p w).disp, hdisp, hheld]

/-! ### The fragment -/

theorem exec_joinAck (bond : BitVec 16) (result : JoinResult) (hf : p.val < s.mgmt.fitted)
    (hp : (s.port p).present = true) :
    exec (.fragmentReceived p (Fragment.joinAck bond p result).octets) s =
      .next (redecide (takeJoinAck p bond result (s.countPair p .fragmentsReceived))) :=
  exec_fragment hf hp (f := .joinAck bond p result) rfl

/-- A JOIN-ACK that leaves the dispatcher alone while no fragment is held. -/
theorem exec_joinAck_unheld {bond : BitVec 16} {result : JoinResult} (hf : p.val < s.mgmt.fitted)
    (hp : (s.port p).present = true) (h : takeJoinAck p bond result (s.countPair p .fragmentsReceived) = t)
    (hheld : t.disp.held = false) :
    exec (.fragmentReceived p (Fragment.joinAck bond p result).octets) s = .next t := by
  rw [exec_joinAck bond result hf hp, h, redecide_of_not_held hheld]

theorem takeJoinAck_life (p : PairNo) (bond : BitVec 16) (result : JoinResult) (s : State) :
    LifeFrame p s (redecide (takeJoinAck p bond result (s.countPair p .fragmentsReceived))) :=
  ((countPair_frame p _ s).life.trans (takeJoinAck_frame p bond result _)).trans (redecide_life p _)

/-- A pair quarantined for the wrong bond, seen from before the count. -/
theorem crossBond_quarantined (p : PairNo) (s : State) :
    Quarantined p .crossBond s (redecide (quarantine p .crossBond (s.countPair p .fragmentsReceived))) := by
  obtain ⟨hstate, hreason, hflaps, htimer, hcount, horder, hqueue, hmark, htold⟩ :=
    (quarantine_quarantined p .crossBond (s.countPair p .fragmentsReceived)).redecide
  refine ⟨hstate, hreason, hflaps, htimer, hcount.trans ?_, horder, hqueue, hmark, htold.of_eq_left rfl rfl⟩
  rw [countPair_pair]
  exact congrArg (countUp · 1) (pair_counter_countBy_ne (by decide) 1 (s.pair p))

theorem enterActive_now (p : PairNo) (s : State) : (enterActive p s).now = s.now := by
  have hin := (enter_frame p .active (s.pair p).reason s).trans (activeRateTest_frame p _)
  rw [enterActive_eq]
  split
  · exact (activeMoves_run p _).now.trans hin.now
  · exact hin.now

/-- The state in which a JOIN-ACK ACCEPT finds a JOINING pair ready to go on: counted, and joined outbound. -/
def State.accepted (s : State) (p : PairNo) : State := (s.countPair p .fragmentsReceived).joinedOut p

theorem accepted_pair (p : PairNo) (s : State) : (s.accepted p).pair p =
    { (s.pair p).countBy .fragmentsReceived 1 with outboundJoined := true, joinRepeat := none, waitJoin := false } := by
  rw [State.accepted, joinedOut_pair, countPair_pair]

theorem joinedOut_frame (p : PairNo) (s : State) : PairFrame p s (s.joinedOut p) := modPair_frame p _ s

theorem joinedOut_still (p : PairNo) (s : State) : Still s (s.joinedOut p) := modPair_still p _ s

theorem accepted_frame (p : PairNo) (s : State) : PairFrame p s (s.accepted p) :=
  (countPair_frame p .fragmentsReceived s).trans (joinedOut_frame p _)

theorem accepted_still (p : PairNo) (s : State) : Still s (s.accepted p) := by
  have hcount : Still s (s.countPair p .fragmentsReceived) := modPair_still p _ s
  exact hcount.trans (joinedOut_still p _)

theorem accepted_states (p q : PairNo) (s : State) : ((s.accepted p).pair q).state = (s.pair q).state := by
  by_cases hq : q = p
  · subst hq
    rw [accepted_pair]
    rfl
  · rw [(accepted_frame p s).pairs q hq]

theorem exec_joinAck_accept (hf : p.val < s.mgmt.fitted) (hp : (s.port p).present = true)
    (h : (s.pair p).state = .joining) (ho : (s.pair p).outboundJoined = false) :
    exec (.fragmentReceived p (Fragment.joinAck s.mgmt.bondId p .accept).octets) s =
      .next (redecide (activeTest p (s.accepted p))) := by
  have hcounted := countPair_pair (p := p) .fragmentsReceived s
  rw [exec_joinAck s.mgmt.bondId .accept hf hp]
  exact congrArg (fun x => Host.Outcome.next (redecide x)) (takeJoinAck_accept (s := s.countPair p .fragmentsReceived)
    (by rw [hcounted]; exact h) (by rw [hcounted]; exact ho))

/-- An ACCEPT on a pair that is live ends its joining (R49, R53). -/
theorem joinAck_completes (hf : p.val < s.mgmt.fitted) (hp : (s.port p).present = true)
    (h : (s.pair p).state = .joining) (ho : (s.pair p).outboundJoined = false) (hl : (s.mark p).isSome = true) :
    ∃ t, exec (.fragmentReceived p (Fragment.joinAck s.mgmt.bondId p .accept).octets) s = .next t ∧ t.now = s.now ∧
      LifeFrame p s t ∧ t = redecide (enterActive p (s.accepted p)) := by
  have hpair := accepted_pair p s
  have hlive : ((s.accepted p).mark p).isSome = true := by rw [(accepted_still p s).sync.mark, hl]
  have htest := activeTest_of_live (p := p) (s := s.accepted p) (by rw [accepted_states, h]) (by rw [hpair]) hlive
  refine ⟨_, exec_joinAck_accept hf hp h ho, ?_, ?_, by rw [htest]⟩
  · rw [htest, (redecide_frame _).now, enterActive_now]
    rfl
  · exact ((accepted_frame p s).life.trans (activeTest_frame p (s.accepted p))).trans (redecide_life p _)

/-- Settles O39: the result, and with an ACCEPT the live set and the rate. -/
theorem joinAckIsTaken : Obligations.JoinAckIsTaken := by
  unfold Obligations.JoinAckIsTaken
  intro s p bond result hf hp c s1 rate
  have hcounted := countPair_pair (p := p) .fragmentsReceived s
  refine ⟨fun h hheld => ?_, fun h hw => ?_, fun h hb hheld => ⟨fun hr => ?_, fun hr ho => ?_, fun hr ho hm => ?_⟩,
    fun h hb hr ho hl => ?_⟩
  · exact exec_joinAck_unheld hf hp (takeJoinAck_ignored bond result (by rw [hcounted]; exact h)) hheld
  · have hwrong := takeJoinAck_wrong (s := s1) (by rw [hcounted]; exact h) hw
    have hq := crossBond_quarantined p s
    have hlife := takeJoinAck_life p bond result s
    have hexec := exec_joinAck bond result hf hp
    rw [hwrong] at hexec hlife
    exact ⟨_, hexec, (redecide_frame _).now.trans (quarantine_frame p _ s1).now, hlife, hq.state, hq.reason, hq.told,
      hq.flaps, hq.order, hq.queue, hq.mark, hq.timer, hq.counted⟩
  · subst hb hr
    exact exec_joinAck_unheld hf hp (takeJoinAck_notReady (s := s1) (by rw [hcounted]; exact h)) hheld
  · subst hb hr
    exact exec_joinAck_unheld hf hp
      (takeJoinAck_again (s := s1) (by rw [hcounted]; exact h) (by rw [hcounted]; exact ho)) hheld
  · subst hb hr
    have htest := activeTest_of_not_live (p := p) (s := s.accepted p) (((accepted_still p s).sync.mark p).trans hm)
    rw [exec_joinAck_accept hf hp h ho, htest, redecide_of_not_held (show (s.accepted p).disp.held = false from hheld)]
    rfl
  · subst hb hr
    obtain ⟨t, hexec, hnow, hlife, rfl⟩ := joinAck_completes hf hp h ho hl
    have hpair := accepted_pair p s
    have hstates := fun q => accepted_states p q s
    have hstill := accepted_still p s
    have hjoining : ((s.accepted p).pair p).state = .joining := (hstates p).trans h
    have hrate : ((s.accepted p).port p).report.upRate * ((s.accepted p).pair p).derate / 100 = rate := by
      rw [hpair]
      rfl
    have hmark : ∀ {x : State}, SyncKept (s.accepted p) x → x.mark p = s.mark p := fun hk =>
      (hk.mark p).trans (hstill.sync.mark p)
    by_cases hfast : 64 ≤ rate
    · have hin := (enterActive_activated hjoining (by rw [hrate]; exact hfast)).after (redecide_run p _)
      have hreason := hin.reason
      have hbond := hin.bond
      rw [hpair] at hreason
      simp only [hstates] at hbond
      refine ⟨_, hexec, hnow, hlife, hmark hin.sync, fun _ => ⟨hin.state, hreason, hin.timer, hin.repeated, hin.joined,
        hin.told.of_eq_left rfl rfl, fun hheld => ?_, hbond⟩, fun hslow => absurd hslow (by omega)⟩
      obtain ⟨⟨hplaced, hwaits⟩, hunheld⟩ := enterActive_begun hjoining (by rw [hrate]; exact hfast) hheld
      have hlags : (s.accepted p).lags p ↔ ∃ ref, (s.pair p).outRef = some ref ∧ 4096 ≤ dist s.disp.next ref := by
        rw [State.lags, hpair]
        rfl
      rw [hlags] at hplaced hwaits
      rw [hpair] at hwaits
      rw [redecide_of_not_held hunheld]
      exact ⟨fun hdue hroom => hplaced hdue (Port.hasRoom_iff.2 hroom),
        fun hno => hwaits fun ⟨hdue, hroom⟩ => hno ⟨hdue, Port.hasRoom_iff.1 hroom⟩⟩
    · have hout := (enterActive_slow hjoining (by rw [hrate]; omega)).redecide
      exact ⟨_, hexec, hnow, hlife, hmark hout.sync, fun h => absurd h hfast, fun _ => ⟨hout.state, hout.reason,
        hout.form, hout.told.of_eq_left rfl rfl, hout.timer⟩⟩

end Sys2Proof.Machine

/-! PROOFS. A JOIN on a pair in the exchange (R51, R53, R55, R60): the re-join, and the completion of a joining (O38). -/

namespace Sys2Proof.Machine

variable {p : PairNo} {s t u : State} {m : Seq} {e : BitVec 8}

/-! ### The exchange begun anew (R31, R39, R47, R51) -/

/-- From an empty line queue nothing is handed over. -/
theorem Port.handAll_of_empty {x : Port} (h : x.queue = []) (gate : Bool) : x.handAll gate = x := by
  have hone : x.handOne = x := by simp [Port.handOne, h, firstStaged]
  cases gate with
  | false => rfl
  | true => rw [Port.handAll, if_pos rfl, hone, hone]

/-- A pair that begins its exchange anew enters JOINING with an empty line queue (R39). -/
theorem joiningPort_emptied (h : entryEmpties (s.pair p).state .joining = true) :
    s.joiningPort p = ((s.port p).ordered .train).emptied := by
  rw [State.joiningPort, Port.entered, if_pos h]
  exact Port.handAll_of_empty rfl true

theorem Port.emptied_hasRoom (x : Port) : x.emptied.hasRoom 12 = true := by
  have hbacklog : x.emptied.backlog = 0 := rfl
  rw [Port.hasRoom_iff, hbacklog]
  exact ⟨Nat.zero_lt_succ 3, by decide⟩

/-- Beside a JOIN that is alone in the queue there is room for a JOIN-ACK. -/
theorem Port.emptied_append_hasRoom (x : Port) {f : Fragment} (hf : f.size = 12) :
    ((x.emptied.append [f]).handAll true).hasRoom 12 = true := by
  have hlen : (x.emptied.append [f]).queue.length = 1 := rfl
  have hbacklog : (x.emptied.append [f]).backlog = f.size := rfl
  rw [Port.hasRoom_iff, Port.handAll_length, Port.handAll_backlog, hlen, hbacklog, hf]
  exact ⟨by decide, by decide⟩

/-- The pair that begins its exchange anew places its JOIN (R47). -/
theorem enterJoining_anew (h : entryEmpties (s.pair p).state .joining = true) (why : Reason) :
    (enterJoining p why s).port p = (((s.port p).ordered .train).emptied.append [s.joinNow p]).handAll true ∧
    (enterJoining p why s).pair p = { (s.pair p).entered .joining why with
      counters := ((enter p .joining why s).pair p).counters,
      stateTimer := some (.join, s.now + s.cfg.joinTimeout * 1000), joinRepeat := some (s.now + 500),
      outRef := some s.disp.next } := by
  obtain ⟨hport, hpair⟩ := enterJoining_at p why s
  have hroom : (s.joiningPort p).hasRoom 12 = true := by rw [joiningPort_emptied h, Port.emptied_hasRoom]
  rw [hroom, if_pos rfl] at hport hpair
  rw [joiningPort_emptied h] at hport
  exact ⟨hport, hpair⟩

/-- JOIN and JOIN-ACK of a pair that begins its exchange anew, one after the other in an empty queue. -/
structure ExchangeBegun (p echo : PairNo) (why : Reason) (s t : State) : Prop where
  port : t.port p = (((s.port p).ordered .train).emptied.append
    [s.joinNow p, .joinAck s.mgmt.bondId echo .accept]).handAll true
  pair : t.pair p = { (s.pair p).entered .joining why with
    counters := ((enter p .joining why s).pair p).counters,
    stateTimer := some (.join, s.now + s.cfg.joinTimeout * 1000), joinRepeat := some (s.now + 500),
    outRef := some s.disp.next }

/-- The answer placed behind the JOIN of a pair that has begun its exchange anew. -/
theorem exchangeBegun_of (echo : PairNo) {why : Reason}
    (hport : t.port p = (((s.port p).ordered .train).emptied.append [s.joinNow p]).handAll true)
    (hpair : t.pair p = { (s.pair p).entered .joining why with
      counters := ((enter p .joining why s).pair p).counters,
      stateTimer := some (.join, s.now + s.cfg.joinTimeout * 1000), joinRepeat := some (s.now + 500),
      outRef := some s.disp.next })
    (hbond : t.mgmt.bondId = s.mgmt.bondId) : ExchangeBegun p echo why s (placeAck p echo .accept t) := by
  obtain ⟨haport, hapair⟩ := placeAck_at p echo .accept t
  have hparts : Parts ((s.port p).ordered .train).emptied [] [] := ⟨rfl, by simp, by simp⟩
  have hroom : (t.port p).hasRoom 12 = true := by rw [hport, Port.emptied_append_hasRoom _ rfl]
  have hgate : (t.pair p).state.gateOpen = true := by
    rw [hpair]
    rfl
  rw [hroom, if_pos rfl] at haport hapair
  refine ⟨?_, ?_⟩
  · rw [haport, hgate, hbond, hport, Port.handAll_append_handAll (hparts.append [s.joinNow p]), Port.append_append]
    rfl
  · rw [hapair, hpair]
    rfl

theorem exchangeBegun (echo : PairNo) (why : Reason) (h : entryEmpties (s.pair p).state .joining = true) :
    ExchangeBegun p echo why s (placeAck p echo .accept (enterJoining p why s)) := by
  obtain ⟨hport, hpair⟩ := enterJoining_anew h why
  exact exchangeBegun_of echo hport hpair (enterJoining_frame p why s).event.ids.1

theorem ExchangeBegun.frags {echo : PairNo} {why : Reason} (h : ExchangeBegun p echo why s t) :
    (t.port p).queue.map (·.frag) = [s.joinNow p, .joinAck s.mgmt.bondId echo .accept] := by
  rw [h.port, appended_frags]
  rfl

/-- The DATA of the queue that is emptied is counted (R31). -/
theorem ExchangeBegun.lost {echo : PairNo} {why : Reason} (h : ExchangeBegun p echo why s t)
    (he : entryEmpties (s.pair p).state .joining = true) : LostOnDrop p s t := by
  have hcounters : (t.pair p).counters = ((enter p .joining why s).pair p).counters := by rw [h.pair]
  rw [LostOnDrop, Pair.counter, hcounters, enter_pair, if_pos he]
  exact pair_counter_countBy ..

theorem ExchangeBegun.counter {echo : PairNo} {why : Reason} (h : ExchangeBegun p echo why s t) {c : PairCounter}
    (hc : c.place ≠ PairCounter.lostOnDrop.place) : (t.pair p).counter c = (s.pair p).counter c := by
  have hcounters : (t.pair p).counters = ((enter p .joining why s).pair p).counters := by rw [h.pair]
  rw [Pair.counter, hcounters]
  exact enter_counter p .joining why s hc

/-- In SHOWTIME what was HANDED stays as residue, and takes its part of the credit from the two fragments [24] (R27, R31). -/
theorem ExchangeBegun.handedOver {echo : PairNo} {why : Reason} (h : ExchangeBegun p echo why s t)
    (ho : (s.port p).order = .train) (hl : (s.port p).report.line = .showtime) :
    (t.port p).residue = (s.port p).residue ++ (s.port p).uncovered ∧
    HandedOver true (s.port p).sent
      [{ frag := s.joinNow p, handed := false }, { frag := .joinAck s.mgmt.bondId echo .accept, handed := false }]
      (t.port p).residue (t.port p) := by
  have hordered : (s.port p).ordered .train = s.port p := if_pos ho
  have hport := h.port
  rw [hordered] at hport
  have hparts : Parts (s.port p).emptied [] [] := ⟨rfl, by simp, by simp⟩
  have hover := (hparts.append [s.joinNow p, .joinAck s.mgmt.bondId echo .accept]).handedOver p t
  have hgate : (t.pair p).state.gateOpen = true := by
    rw [h.pair]
    rfl
  have hres : (t.port p).residue = (s.port p).residue ++ (s.port p).uncovered := by
    rw [hport, (Port.handAll_keeps _ _).2.2]
    exact congrArg ((s.port p).residue ++ ·) (if_pos ⟨ho, hl⟩)
  have hkept : ((s.port p).emptied.append [s.joinNow p, .joinAck s.mgmt.bondId echo .accept]).residue =
      (t.port p).residue := by rw [hport, (Port.handAll_keeps _ _).2.2]
  rw [hgate, ← hport, hkept] at hover
  exact ⟨hres, hover⟩

/-! ### The receiver at a re-join (R60, R128, R130) -/

theorem placeJoin_receiver (p : PairNo) (s : State) : ReceiverKept s (placeJoin p s) :=
  .of_pairFrame (placeJoin_still p s) (placeJoin_frame p s) (placeJoin_portKept p s)

theorem enterJoining_removed (p : PairNo) (why : Reason) (s : State) : Removed p s (enterJoining p why s) := by
  have hafter := fun x => ((startTimer_receiver p .join (s.cfg.joinTimeout * 1000) x).trans
    (placeJoin_receiver p _)).trans (modPair_receiver p (fun r => { r with joinRepeat := some (s.now + 500) }) _)
  exact (enter_removed (new := .joining) rfl p why s).after (hafter _)

/-- A pair has left the live set and come back with the mark of a JOIN between `s` and `t` (R60, R130). -/
structure Rejoined (p : PairNo) (m : Seq) (e : BitVec 8) (s t : State) : Prop where
  synced : t.rx.synced = true
  epoch : t.rx.peerEpoch = e
  mark : t.mark p = some m
  marks : ∀ q, q ≠ p → t.mark q = s.mark q
  time : ReorderTime t
  kept : (∃ q, q ≠ p ∧ (s.mark q).isSome = true) → t.counter .resyncs = s.counter .resyncs
  resynced : (s.mark p).isSome = true ∨ s.rx.synced = false → (∀ q, q ≠ p → s.mark q = none) → s.rx.window = [] →
    t.rx.window = [] ∧ t.rx.nes = m ∧ t.counter .resyncs = countUp (s.counter .resyncs) 1

theorem Removed.rejoined (h : Removed p s t) (he : s.rx.synced = false ∨ e = s.rx.peerEpoch)
    (hlaw : s.rx.synced = false → ∀ q, s.mark q = none) (m : Seq) : Rejoined p m e s (rxJoin p m e t) := by
  have hresyncs : t.counter .resyncs = s.counter .resyncs := h.counter _ (by decide)
  cases hs : t.rx.synced with
  | true =>
    have hepoch : e = t.rx.peerEpoch := by
      rw [h.epoch]
      exact he.resolve_left (by simp [h.synced hs])
    obtain ⟨htaken, hmark, hcount⟩ := rxJoin_of_synced hs hepoch p m
    rw [h.mark] at hmark
    refine ⟨htaken.synced, htaken.epoch, hmark, fun q hq => (htaken.marks q hq).trans (h.marks q hq), htaken.time h.mark,
      fun _ => (hcount _ (by decide)).trans hresyncs, fun hp hl hw => ?_⟩
    rw [h.asleep hw hl hp] at hs
    cases hs
  | false =>
    obtain ⟨htaken, hmark, hcount, hnes⟩ := rxJoin_of_unsynced hs p m e
    refine ⟨htaken.synced, htaken.epoch, hmark, fun q hq => (htaken.marks q hq).trans (h.marks q hq), htaken.time h.mark,
      ?_, fun _ _ hw => ⟨(hnes (h.store hw)).1, (hnes (h.store hw)).2, by rw [hcount, hresyncs]⟩⟩
    rintro ⟨q, hq, hl⟩
    rw [hlaw ((h.awake q hq hl).symm.trans hs) q] at hl
    cases hl

theorem Rejoined.after (h : Rejoined p m e s t) (k : ReceiverKept t u) : Rejoined p m e s u := by
  obtain ⟨hsynced, hepoch, hmark, hmarks, htime, hkept, hresynced⟩ := h
  refine ⟨(k.awake p (by rw [hmark]; rfl)).trans hsynced, k.epoch.trans hepoch, (k.mark p).trans hmark,
    fun q hq => (k.mark q).trans (hmarks q hq), htime.of_receiver k,
    fun hl => (k.counter _ (by decide)).trans (hkept hl), fun hp hl hw => ?_⟩
  obtain ⟨hw', hnes, hcount⟩ := hresynced hp hl hw
  exact ⟨(k.store hw').1, (k.store hw').2.1.trans hnes, (k.counter _ (by decide)).trans hcount⟩

/-! ### The purge at a re-join (R101) -/

theorem rxJoin_outbound (p : PairNo) (m : Seq) (e : BitVec 8) (s : State) : OutboundKept s (rxJoin p m e s) := by
  have hm : ∀ x : Option Seq, OutboundKept s (s.setMark p x) := fun _ => .of_eq rfl rfl
  unfold rxJoin
  split
  · split
    · exact (hm _).trans (membershipFollow_outbound _)
    · exact ((hm _).trans (gapStep_outbound _)).trans (drainTells_outbound _)
  · have hset : OutboundKept s
        ((s.modRx fun x => { x with nes := m, peerEpoch := e, synced := true }).setMark p (some m)) := .of_eq rfl rfl
    exact (hset.trans (countBy_outbound (c := .resyncs) rfl 1 _)).trans (membershipFollow_outbound _)

theorem Purged.after_inbound (h : Purged s t) (hf : InboundFrame t u) (hk : InboundKept t u) (ho : OutboundKept t u) :
    Purged s u :=
  ⟨fun c => (by rw [State.cls, State.cls, hf.classes] : u.cls c = t.cls c).trans (h.classes c), hf.disp.trans h.disp,
    hk.noPath.trans h.counted, fun hu => by rw [ho.usedOut, h.cells hu],
    fun hm => (hk.notices _ rfl).trans (h.bond hm)⟩

theorem placeJoin_same (p : PairNo) (s : State) : OutboundSame s (placeJoin p s) := by
  unfold placeJoin place
  split
  · rename_i h
    split at h
    · cases h
      exact (stage_same p _ s).trans (modPair_same p _ _)
    · cases h
  · exact modPair_same p _ s

theorem enterJoining_purged (why : Reason) (hp : (s.pair p).state = .active)
    (hlast : ∀ q, q ≠ p → (s.pair q).state ≠ .active) : Purged s (enterJoining p why s) := by
  have hafter := fun x => ((startTimer_same p .join (s.cfg.joinTimeout * 1000) x).trans
    (placeJoin_same p _)).trans (modPair_same p (fun r => { r with joinRepeat := some (s.now + 500) }) _)
  exact (enter_purged (new := .joining) why hp hlast (by decide)).after (hafter _)

/-! ### A re-join (R60) -/

/-- A JOIN that begins a pair's exchange anew: the pair in JOINING with both fragments placed, and the JOIN taken. -/
def rejoinAnew (p echo : PairNo) (m : Seq) (e : BitVec 8) (s : State) : State :=
  rxJoin p m e (placeAck p echo .accept (enterJoining p .peerRestart s))

theorem acceptJoin_anew (echo : PairNo) (m : Seq) (e : BitVec 8)
    (h : entryEmpties (s.pair p).state .joining = true) :
    acceptJoin p echo m e (enterJoining p .peerRestart s) = rejoinAnew p echo m e s :=
  acceptJoin_unjoined echo m e (by rw [(enterJoining_anew h _).2]; rfl)

/-- Pair `p` has begun its exchange anew for a re-join between `s` and `t`. -/
structure RejoinedAnew (p echo : PairNo) (m : Seq) (e : BitVec 8) (s t : State) : Prop where
  begun : ExchangeBegun p echo .peerRestart s t
  rejoined : Rejoined p m e s t
  purged : (s.pair p).state = .active → (∀ q, q ≠ p → (s.pair q).state ≠ .active) → Purged s t

theorem rejoinAnew_rejoined (echo : PairNo) (m : Seq) (h : entryEmpties (s.pair p).state .joining = true)
    (he : s.rx.synced = false ∨ e = s.rx.peerEpoch) (hlaw : s.rx.synced = false → ∀ q, s.mark q = none) :
    RejoinedAnew p echo m e s (redecide (rejoinAnew p echo m e s)) := by
  have hbegun := exchangeBegun echo .peerRestart h
  have hremoved := (enterJoining_removed p .peerRestart s).after (placeAck_receiver p echo .accept _)
  have hpurged := fun hp hlast => (enterJoining_purged .peerRestart (s := s) (p := p) hp hlast).after
    (placeAck_same p echo .accept _)
  rw [rejoinAnew]
  generalize placeAck p echo .accept (enterJoining p .peerRestart s) = v at *
  have hframe := rxJoin_frame p m e v
  have hpair : (rxJoin p m e v).pair p = v.pair p := pair_congr hframe.pairs p
  have hport : (rxJoin p m e v).port p = v.port p := port_congr hframe.ports p
  obtain ⟨hrpair, hrport⟩ := redecide_rested (p := p) (s := rxJoin p m e v) (by
    rw [hpair, hbegun.pair]
    exact (by decide : PairState.joining ≠ .active))
  refine ⟨⟨?_, ?_⟩, (hremoved.rejoined he hlaw m).after (redecide_receiver _), fun hp hlast =>
    ((hpurged hp hlast).after_inbound hframe (rxJoin_inbound p m e v) (rxJoin_outbound p m e v)).redecide⟩
  · rw [hrport, hport, hbegun.port]
  · rw [hrpair, hpair, hbegun.pair]

/-- A leave for the host ends at a re-join as at its completion (R60). -/
theorem rejoin_host (echo : PairNo) (m : Seq) (e : BitVec 8) (h : (s.pair p).state = .leaving)
    (hr : (s.pair p).reason = .host) : rejoin p echo m e s = completeLeave p s := by
  rw [rejoin, if_pos ⟨h, hr⟩, completeLeave_host hr]

theorem rejoin_anew (echo : PairNo) (m : Seq) (e : BitVec 8)
    (h : (s.pair p).state = .active ∨ ((s.pair p).state = .leaving ∧ (s.pair p).reason ≠ .host)) :
    rejoin p echo m e s = rejoinAnew p echo m e s := by
  have hempties : entryEmpties (s.pair p).state .joining = true := by
    rcases h with h | ⟨h, -⟩ <;> rw [h] <;> rfl
  have hno : ¬((s.pair p).state = .leaving ∧ (s.pair p).reason = .host) := by
    rcases h with h | ⟨-, h⟩
    · simp [h]
    · simp [h]
  rw [rejoin, if_neg hno, acceptJoin_anew echo m e hempties]

/-- A matching JOIN on an ACTIVE or LEAVING pair that is no peer restart is a re-join. -/
theorem takeJoin_rejoin (echo : PairNo) (m : Seq) (h : (s.pair p).state = .active ∨ (s.pair p).state = .leaving)
    (he : s.rx.synced = false ∨ e = s.rx.peerEpoch) :
    takeJoin p echo m s.mgmt.bondId e s = rejoin p echo m e s := by
  have hno : (s.rx.synced && e != s.rx.peerEpoch) = false := by
    rcases he with he | he <;> simp [he]
  unfold takeJoin
  rcases h with h | h <;> simp only [h, hno, if_true, Bool.false_eq_true, if_false]

/-! ### A joining that completes (R51, R53) -/

/-- A matching JOIN on a JOINING pair whose outbound direction is joined makes it ACTIVE (R51). -/
theorem acceptJoin_completes (echo : PairNo) (m : Seq) (h : (s.pair p).state = .joining)
    (ho : (s.pair p).outboundJoined = true) (he : s.rx.synced = false ∨ e = s.rx.peerEpoch) :
    ∃ v, acceptJoin p echo m e s = enterActive p v ∧ (v.pair p).state = .joining ∧
      (v.pair p).reason = (s.pair p).reason ∧ (v.pair p).derate = (s.pair p).derate ∧
      (v.port p).report = (s.port p).report ∧ v.now = s.now ∧ v.cfg = s.cfg ∧
      (v.mark p).isSome = true ∧ v.rx.synced = true ∧ v.rx.peerEpoch = e ∧
      ((s.port p).queue.length < 4 ∧ (s.port p).backlog + 12 ≤ 3072 → (v.port p).queue.map (·.frag) =
        (s.port p).queue.map (·.frag) ++ [.joinAck s.mgmt.bondId echo .accept]) := by
  have hack := placeAck_receiver p echo .accept s
  have hrec := placeAck_kept_pair p echo .accept s
  have hanswer := placeAck_answered p echo .accept s
  have hnow := (placeAck_frame p echo .accept s).now
  have hrx := (placeAck_still p echo .accept s).rx
  rw [acceptJoin]
  generalize placeAck p echo .accept s = k at *
  have hframe := rxJoin_frame p m e k
  have htaken : JoinTaken p e k (rxJoin p m e k) := by
    cases hs : k.rx.synced with
    | true =>
      refine (rxJoin_of_synced hs ?_ p m).1
      rw [hrx] at hs ⊢
      exact he.resolve_left (by simp [hs])
    | false => exact (rxJoin_of_unsynced hs p m e).1
  have hanswered := hanswer.after hframe
  generalize rxJoin p m e k = v at *
  have hpair := pair_congr hframe.pairs p
  have hjoining : (v.pair p).state = .joining := hanswered.state.trans h
  refine ⟨v, activeTest_of_live hjoining ?_ htaken.live, hjoining, hanswered.reason, ?_, ?_, hframe.now.trans hnow,
    hframe.cfg.trans hack.cfg, htaken.live, htaken.synced, htaken.epoch, hanswered.room⟩
  · rw [hpair, hrec]
    exact ho
  · rw [hpair, hrec]
  · rw [port_congr hframe.ports p, hack.reports]

/-! ### The obligation -/

theorem takeJoin_life (echo : PairNo) (m : Seq) (h : (s.pair p).state = .active ∨ (s.pair p).state = .leaving ∨
    (s.pair p).state = .joining) (he : s.rx.synced = false ∨ e = s.rx.peerEpoch) :
    LifeFrame p s (takeJoin p echo m s.mgmt.bondId e s) := by
  rcases h with h | h | h
  · rw [takeJoin_rejoin echo m (.inl h) he]
    exact rejoin_frame ..
  · rw [takeJoin_rejoin echo m (.inr h) he]
    exact rejoin_frame ..
  · rw [takeJoin_joining echo m h he]
    exact acceptJoin_frame ..

theorem exec_join (echo : PairNo) (m : Seq) (e : BitVec 8) (hf : p.val < s.mgmt.fitted)
    (hp : (s.port p).present = true) : exec (.fragmentReceived p (Fragment.join m s.mgmt.bondId echo e).octets) s =
      .next (redecide (takeJoin p echo m s.mgmt.bondId e (s.countPair p .fragmentsReceived))) :=
  exec_fragment hf hp (f := .join m s.mgmt.bondId echo e) trivial

theorem counted_life (h : LifeFrame p (s.countPair p .fragmentsReceived) t) : LifeFrame p s (redecide t) :=
  ((countPair_frame p _ s).life.trans h).trans (redecide_life p t)

theorem counted_counter {c : PairCounter} (hc : c.place ≠ PairCounter.fragmentsReceived.place) (s : State) :
    ((s.countPair p .fragmentsReceived).pair p).counter c = (s.pair p).counter c := by
  rw [countPair_pair]
  exact pair_counter_countBy_ne hc 1 (s.pair p)

theorem counted_lost (h : LostOnDrop p (s.countPair p .fragmentsReceived) t) : LostOnDrop p s t := by
  rw [LostOnDrop, counted_counter (by decide)] at h
  exact h

/-- A re-join of a leave for the host (R60). -/
theorem exec_join_host (echo : PairNo) (m : Seq) (hf : p.val < s.mgmt.fitted) (hp : (s.port p).present = true)
    (he : s.rx.synced = false ∨ e = s.rx.peerEpoch) (h : (s.pair p).state = .leaving) (hr : (s.pair p).reason = .host) :
    ∃ t, exec (.fragmentReceived p (Fragment.join m s.mgmt.bondId echo e).octets) s = .next t ∧ t.now = s.now ∧
      LifeFrame p s t ∧ LostOnDrop p s t ∧ LeaveDone p s t ∧
      (t.pair p).counter .retrains = (s.pair p).counter .retrains := by
  have hexec := exec_join echo m e hf hp
  have hcounted := countPair_pair (p := p) .fragmentsReceived s
  have hstate := counted_state p p s
  have hlife := takeJoin_life (s := s.countPair p .fragmentsReceived) echo m (.inr (.inl (hstate.trans h))) he
  have htake : takeJoin p echo m s.mgmt.bondId e (s.countPair p .fragmentsReceived) =
      completeLeave p (s.countPair p .fragmentsReceived) :=
    (takeJoin_rejoin (s := s.countPair p .fragmentsReceived) echo m (.inr (hstate.trans h)) he).trans
      (rejoin_host echo m e (hstate.trans h) (by rw [hcounted]; exact hr))
  have hlost := (hostDone_park_emptied p (s.countPair p .fragmentsReceived)).lost
  rw [← completeLeave_host (by rw [hcounted]; exact hr)] at hlost
  have hidle := completeLeave_idle p (s.countPair p .fragmentsReceived)
  have hretrains := (completeLeave_counter (c := .retrains) (by decide) p (s.countPair p .fragmentsReceived)).trans
    (counted_counter (by decide) s)
  have hdone := completeLeave_done (hstate.trans h)
  have hnow := (completeLeave_frame p (s.countPair p .fragmentsReceived)).now
  rw [show (s.countPair p .fragmentsReceived).mgmt.bondId = s.mgmt.bondId from rfl] at hlife
  rw [htake] at hexec hlife
  generalize completeLeave p (s.countPair p .fragmentsReceived) = v at *
  obtain ⟨hpair, -⟩ := (redecide_frame v).idle p hidle
  refine ⟨_, hexec, (redecide_frame v).now.trans hnow, counted_life hlife, ?_,
    (LeaveDone.before (s := s) hdone (by rw [hcounted]; rfl) (by rw [hcounted]; rfl) (by rw [hcounted]; rfl) rfl
      (countPair_frame p _ s).event).redecide hidle, by rw [hpair, hretrains]⟩
  rw [LostOnDrop, hpair]
  exact counted_lost hlost

/-- A re-join that begins the exchange anew (R60). -/
theorem exec_join_anew (echo : PairNo) (m : Seq) (hf : p.val < s.mgmt.fitted) (hp : (s.port p).present = true)
    (he : s.rx.synced = false ∨ e = s.rx.peerEpoch) (hlaw : WindowLaw s)
    (h : (s.pair p).state = .active ∨ ((s.pair p).state = .leaving ∧ (s.pair p).reason ≠ .host)) :
    ∃ t, exec (.fragmentReceived p (Fragment.join m s.mgmt.bondId echo e).octets) s = .next t ∧ t.now = s.now ∧
      LifeFrame p s t ∧ RejoinedAnew p echo m e (s.countPair p .fragmentsReceived) t := by
  have hexec := exec_join echo m e hf hp
  have hcounted := countPair_pair (p := p) .fragmentsReceived s
  have hstate := counted_state p p s
  have hlife := takeJoin_life (s := s.countPair p .fragmentsReceived) echo m
    (h.elim (fun h => .inl (hstate.trans h)) fun h => .inr (.inl (hstate.trans h.1))) he
  have htake : takeJoin p echo m s.mgmt.bondId e (s.countPair p .fragmentsReceived) =
      rejoinAnew p echo m e (s.countPair p .fragmentsReceived) :=
    (takeJoin_rejoin (s := s.countPair p .fragmentsReceived) echo m
      (h.elim (fun h => .inl (hstate.trans h)) fun h => .inr (hstate.trans h.1)) he).trans
      (rejoin_anew echo m e (by rw [hcounted]; exact h))
  have hempties : entryEmpties ((s.countPair p .fragmentsReceived).pair p).state .joining = true := by
    rw [hstate]
    rcases h with h | ⟨h, -⟩ <;> rw [h] <;> rfl
  have hanew := rejoinAnew_rejoined (s := s.countPair p .fragmentsReceived) echo m hempties he
    fun hs => (hlaw.unsynced hs).2
  rw [show (s.countPair p .fragmentsReceived).mgmt.bondId = s.mgmt.bondId from rfl] at hlife
  rw [htake] at hexec hlife
  refine ⟨_, hexec, (redecide_frame _).now.trans ?_, counted_life hlife, hanew⟩
  rw [rejoinAnew, (rxJoin_frame p m e _).now, (placeAck_frame p echo .accept _).now, (enterJoining_frame p _ _).now]
  rfl

/-- Settles O38: the leave for the host, the exchange begun anew, and the joining that completes. -/
theorem joinOnAPairInTheExchange : Obligations.JoinOnAPairInTheExchange := by
  unfold Obligations.JoinOnAPairInTheExchange
  intro s p m echo e hf hp he hlaw r rate h
  by_cases hj : r.state = .joining
  · have ho : r.outboundJoined = true := by
      rcases h with h | h | h
      · rw [hj] at h
        cases h
      · rw [hj] at h
        cases h
      · exact h.2
    have hexec := exec_join echo m e hf hp
    have hcounted := countPair_pair (p := p) .fragmentsReceived s
    have hlife := takeJoin_life (s := s.countPair p .fragmentsReceived) echo m
      (.inr (.inr ((counted_state p p s).trans hj))) he
    obtain ⟨v, hv, hstate, hreason, hderate, hreport, hnow, hcfg, hlive, hsynced, hepoch, hroom⟩ :=
      acceptJoin_completes (s := s.countPair p .fragmentsReceived) (p := p) echo m ((counted_state p p s).trans hj)
        (by rw [hcounted]; exact ho) he
    have htake : takeJoin p echo m s.mgmt.bondId e (s.countPair p .fragmentsReceived) = enterActive p v :=
      (takeJoin_joining (s := s.countPair p .fragmentsReceived) echo m ((counted_state p p s).trans hj) he).trans hv
    rw [show (s.countPair p .fragmentsReceived).mgmt.bondId = s.mgmt.bondId from rfl] at hlife
    rw [htake] at hexec hlife
    have hrate : (v.port p).report.upRate * (v.pair p).derate / 100 = rate := by
      rw [hreport, hderate, hcounted]
      rfl
    have hend : ∀ {t}, SyncKept v t → Grown p v t → (t.mark p).isSome = true ∧ t.rx.synced = true ∧
        t.rx.peerEpoch = e ∧ ((s.port p).queue.length < 4 → (s.port p).backlog + 12 ≤ 3072 →
          ∃ more, (t.port p).queue.map (·.frag) =
            (s.port p).queue.map (·.frag) ++ [.joinAck s.mgmt.bondId echo .accept] ++ more) := fun hk hg => by
      refine ⟨by rw [hk.mark, hlive], (hk.awake p hlive).trans hsynced, hk.epoch.trans hepoch, fun hlen hoct => ?_⟩
      obtain ⟨more, hmore⟩ := hg
      exact ⟨more, hmore.symm.trans (congrArg (· ++ more) (hroom ⟨hlen, hoct⟩))⟩
    refine ⟨_, hexec, ((redecide_frame _).now.trans (enterActive_now p v)).trans hnow, counted_life hlife,
      fun hn => absurd hj hn, fun (hl : r.state = .leaving) _ => (by rw [hj] at hl; cases hl), ?_, fun _ _ => ?_⟩
    · rintro (⟨ha, -⟩ | ⟨hl, -⟩)
      · rw [hj] at ha
        cases ha
      · rw [hj] at hl
        cases hl
    · by_cases hfast : 64 ≤ rate
      · have hin := (enterActive_activated hstate (by rw [hrate]; exact hfast)).after (redecide_run p _)
        obtain ⟨hmark, hsync, hep, hq⟩ := hend hin.sync hin.grown
        refine ⟨hmark, hsync, hep, hq, fun _ => ⟨hin.state, ?_, hin.timer⟩, fun hslow => absurd hslow (by omega)⟩
        rw [hin.reason, hreason, hcounted]
        rfl
      · have hout := (enterActive_slow hstate (by rw [hrate]; omega)).redecide
        obtain ⟨hmark, hsync, hep, hq⟩ := hend hout.sync hout.grown
        refine ⟨hmark, hsync, hep, hq, fun h => absurd h hfast, fun _ => ⟨hout.state, hout.reason, ?_⟩⟩
        rw [hout.timer, hnow, hcfg]
        rfl
  · by_cases hhost : r.state = .leaving ∧ r.reason = .host
    · obtain ⟨t, hexec, hnow, hlife, hlost, hdone, hretrains⟩ := exec_join_host echo m hf hp he hhost.1 hhost.2
      obtain ⟨hstate, hreason, hdisable, horder⟩ := hdone.host hhost.2
      refine ⟨t, hexec, hnow, hlife, fun _ _ => hlost, fun _ _ => ⟨hstate, hreason, hdisable, horder, hdone.queue,
        hdone.mark, hretrains, hdone.done hhost.2⟩, ?_, fun h => absurd h hj⟩
      rintro (⟨ha, -⟩ | ⟨-, hl⟩)
      · rw [hhost.1] at ha
        cases ha
      · exact absurd hhost.2 hl
    · have hcase : r.state = .active ∨ (r.state = .leaving ∧ r.reason ≠ .host) := by
        rcases h with h | h | h
        · exact .inl h
        · exact .inr ⟨h, fun hr => hhost ⟨h, hr⟩⟩
        · exact absurd h.1 hj
      obtain ⟨t, hexec, hnow, hlife, hbegun, hrejoined, hpurged⟩ := exec_join_anew echo m hf hp he hlaw hcase
      have hempties : entryEmpties ((s.countPair p .fragmentsReceived).pair p).state .joining = true := by
        rw [counted_state]
        rcases hcase with h | ⟨h, -⟩ <;> rw [show (s.pair p).state = _ from h] <;> rfl
      have hstates := fun q => counted_state p q s
      have hpair := hbegun.pair
      rw [hstates p] at hpurged
      simp only [hstates] at hpurged
      refine ⟨t, hexec, hnow, hlife, fun _ _ => counted_lost (hbegun.lost hempties), fun hl hr => absurd ⟨hl, hr⟩ hhost,
        fun _ => ⟨by rw [hpair]; rfl, by rw [hpair]; rfl, by rw [hpair]; rfl, by rw [hpair]; rfl, by rw [hpair]; rfl,
          by rw [hpair]; rfl, hbegun.frags, (hbegun.counter (by decide)).trans (counted_counter (by decide) s),
          hbegun.handedOver, hrejoined.mark, hrejoined.marks, hrejoined.synced, hrejoined.epoch, hrejoined.time,
          fun hp hlast => (hpurged hp hlast).before (modPair_same p _ s),
          hrejoined.kept, fun hp hl hw => (hrejoined.resynced hp hl hw).2⟩, fun h => absurd h hj⟩

end Sys2Proof.Machine

/-! PROOFS. A peer restart at the receiver (R128, R143, R159, R161): the store discarded under one gap record, the flush
ended, the partial frame lost, and what a JOIN then finds (O40). -/

namespace Sys2Proof.Machine

variable {p : PairNo} {s t u : State}

/-! ### The partial frame (R161) -/

/-- The count of BROKEN once the Frame Assembler has lost the frame it may be collecting. -/
def State.brokenLost (s : State) : Nat :=
  match s.asm with
  | .collecting _ _ => countUp (s.counter .broken) 1
  | _ => s.counter .broken

theorem Still.brokenLost (h : Still s t) : t.brokenLost = s.brokenLost := by
  rw [State.brokenLost, State.brokenLost, h.asm, h.broken]

theorem brokenLost_of_discarding {b : Bool} (h : s.asm = .discarding b) : s.brokenLost = s.counter .broken := by
  rw [State.brokenLost, h]

theorem asmDiscard_broken (s : State) : (asmDiscard .broken s).counter .broken = s.brokenLost := by
  cases h : s.asm with
  | collecting octets cells =>
    rw [asmDiscard, State.brokenLost, h]
    exact (returnCells_still _ _ _).broken.trans (counter_countBy ..)
  | idle => rw [asmDiscard, State.brokenLost, h]
  | discarding charged => rw [asmDiscard, State.brokenLost, h]

/-- Resynchronisation loses the partial frame. -/
theorem asmResync_broken (s : State) : (asmResync s).counter .broken = s.brokenLost := asmDiscard_broken s

/-- A declared loss counts the partial frame, and what follows it counts that frame no more. -/
theorem asmLoss_brokenLost (s : State) : (asmLoss s).brokenLost = s.brokenLost := by
  cases h : s.asm with
  | idle =>
    rw [asmLoss, h, brokenLost_of_discarding (b := false) rfl, State.brokenLost, h]
    rfl
  | collecting octets cells =>
    rw [asmLoss, h, brokenLost_of_discarding (b := true) rfl]
    exact asmDiscard_broken s
  | discarding charged => rw [asmLoss, h]

/-! ### The store discarded (R143, R159) -/

/-- Between `s` and `t` only the store and the gap records of the Reorder Engine have changed, and the Frame Assembler has
lost its frame at most. -/
structure StoreOnly (s t : State) : Prop where
  rx : t.rx = { s.rx with window := t.rx.window, gaps := t.rx.gaps }
  lost : t.brokenLost = s.brokenLost
  counter : ∀ c ∈ syncCounters, t.counter c = s.counter c
  flushDone : t.occurrences .flushDone = s.occurrences .flushDone

theorem StoreOnly.trans (h : StoreOnly s t) (k : StoreOnly t u) : StoreOnly s u :=
  ⟨by rw [k.rx, h.rx], k.lost.trans h.lost, fun c hc => (k.counter c hc).trans (h.counter c hc),
    k.flushDone.trans h.flushDone⟩

theorem Still.storeOnly (h : Still s t) : StoreOnly s t := ⟨by rw [h.rx], h.brokenLost, h.counter, h.flushDone⟩

theorem modRx_storeOnly (w : List FragRecord) (l : List GapRecord) (s : State) :
    StoreOnly s (s.modRx fun x => { x with window := w, gaps := l }) := ⟨rfl, rfl, fun _ _ => rfl, rfl⟩

theorem asmLoss_storeOnly (s : State) : StoreOnly s (asmLoss s) := by
  have h := asmLoss_rxSame s
  exact ⟨by rw [h.rx], asmLoss_brokenLost s, h.counter, h.flushDone⟩

theorem recordGap_storeOnly (g : GapRecord) (s : State) : StoreOnly s (recordGap g s) := by
  unfold recordGap
  split
  · split
    · exact modRx_storeOnly _ _ s
    · split
      · exact modRx_storeOnly _ _ s
      · exact (countBy_still (c := .gapRecordsDropped) (by decide) 1 s).storeOnly
  · exact (modRx_storeOnly _ _ s).trans (raise_still (by decide) _).storeOnly

/-- The first gap record. -/
theorem recordGap_first (g : GapRecord) (h : s.rx.gaps = []) : (recordGap g s).rx.gaps = [g] := by
  rw [recordGap, h]
  exact congrArg Receiver.gaps (raise_rx ..)

theorem recordGap_window (g : GapRecord) (s : State) : (recordGap g s).rx.window = s.rx.window := by
  unfold recordGap
  split
  · split
    · rfl
    · split <;> rfl
  · rw [raise_rx]
    rfl

theorem declare_storeOnly (f : Seq) (n : Nat) (cause : LossCause) (live : BitVec 8) (s : State) :
    StoreOnly s (declare f n cause live s) :=
  ((asmLoss_storeOnly s).trans (recordGap_storeOnly _ _)).trans (countBy_still (by decide) _ _).storeOnly

theorem declare_first (f : Seq) (n : Nat) (cause : LossCause) (live : BitVec 8) (h : s.rx.gaps = []) :
    (declare f n cause live s).rx.gaps = [{ first := f, count := n, cause := cause, live := live, time := s.now }] :=
  recordGap_first _ (by rw [(asmLoss_rxSame s).rx, h])

theorem declare_window (f : Seq) (n : Nat) (cause : LossCause) (live : BitVec 8) (s : State) :
    (declare f n cause live s).rx.window = s.rx.window :=
  (recordGap_window _ _).trans (by rw [(asmLoss_rxSame s).rx])

theorem dropStore_storeOnly {c : BondCounter} (hc : ∀ d ∈ .broken :: syncCounters, d.place ≠ c.place) (n : Nat)
    (s : State) : StoreOnly s (dropStore (some c) n s) ∧ (dropStore (some c) n s).rx.gaps = s.rx.gaps := by
  induction n generalizing s with
  | zero => exact ⟨(Still.refl s).storeOnly, rfl⟩
  | succ n ih =>
    unfold dropStore
    split
    · exact ⟨(Still.refl s).storeOnly, rfl⟩
    · rename_i r _
      have hslot := modRx_storeOnly (eraseSlot (slotOf r.seq) s.rx.window) s.rx.gaps s
      have hreturn := (countBy_still hc 1 (s.modRx fun x => { x with window := eraseSlot (slotOf r.seq) x.window })).trans
        (returnCells_still .inbound r.cells _)
      obtain ⟨hrest, hgaps⟩ := ih (returnCells .inbound r.cells
        ((s.modRx fun x => { x with window := eraseSlot (slotOf r.seq) x.window }).count c))
      refine ⟨(hslot.trans hreturn.storeOnly).trans hrest, hgaps.trans ?_⟩
      rw [State.count, hreturn.rx]
      rfl

/-- The store is emptied: each removal makes it smaller (R143). -/
theorem dropStore_emptied (c : BondCounter) {n : Nat} (h : s.rx.window.length ≤ n) :
    (dropStore (some c) n s).rx.window = [] := by
  induction n generalizing s with
  | zero => exact List.eq_nil_of_length_eq_zero (Nat.le_zero.1 h)
  | succ n ih =>
    unfold dropStore
    split
    · exact lowestStored_none.1 ‹_›
    · rename_i r hr
      have hlt := eraseSlot_length_lt (lowestStored_mem hr)
      refine ih ?_
      rw [(returnCells_still .inbound r.cells _).rx]
      exact Nat.le_of_lt_succ (Nat.lt_of_lt_of_le hlt h)

theorem highestStored_none {nes : Seq} {w : List FragRecord} : highestStored nes w = none ↔ w = [] := by
  cases w <;> simp [highestStored]

theorem le_further (nes : Seq) (r q : FragRecord) :
    dist r.seq nes ≤ dist (further nes r q).seq nes ∧ dist q.seq nes ≤ dist (further nes r q).seq nes := by
  unfold further
  split <;> omega

theorem le_foldl_further {nes : Seq} {q : FragRecord} (a : FragRecord) {l : List FragRecord} (h : q ∈ a :: l) :
    dist q.seq nes ≤ dist (l.foldl (further nes) a).seq nes := by
  induction l generalizing a q with
  | nil => rw [List.mem_singleton.1 h, List.foldl_nil]
  | cons b l ih =>
    obtain ⟨ha, hb⟩ := le_further nes a b
    have hfirst := ih (q := further nes a b) (further nes a b) List.mem_cons_self
    rw [List.foldl_cons]
    rcases List.mem_cons.1 h with rfl | h
    · exact ha.trans hfirst
    · rcases List.mem_cons.1 h with rfl | h
      · exact hb.trans hfirst
      · exact ih _ (List.mem_cons_of_mem _ h)

/-- No stored record is further from NES than the highest (R125). -/
theorem highestStored_max {nes : Seq} {w : List FragRecord} {h : FragRecord} (hh : highestStored nes w = some h)
    {q : FragRecord} (hq : q ∈ w) : dist q.seq nes ≤ dist h.seq nes := by
  cases w with
  | nil => cases hq
  | cons a l =>
    obtain rfl := Option.some.inj hh
    exact le_foldl_further a hq

/-- The whole store discarded under one gap record, from NES to the highest stored sequence (R143). -/
def storeDiscarded (noted : BitVec 8) (s : State) : State :=
  match highestStored s.rx.nes s.rx.window with
  | some h => declare s.rx.nes (dist h.seq s.rx.nes + 1) .peerRestart noted
      (dropStore (some .restartDiscarded) s.rx.window.length s)
  | none => s

theorem storeDiscarded_storeOnly (noted : BitVec 8) (s : State) : StoreOnly s (storeDiscarded noted s) := by
  unfold storeDiscarded
  split
  · exact (dropStore_storeOnly (by decide) _ s).1.trans (declare_storeOnly _ _ _ _ _)
  · exact (Still.refl s).storeOnly

theorem storeDiscarded_window (noted : BitVec 8) (s : State) : (storeDiscarded noted s).rx.window = [] := by
  unfold storeDiscarded
  split
  · rw [declare_window, dropStore_emptied _ (Nat.le_refl _)]
  · exact highestStored_none.1 ‹_›

theorem storeDiscarded_of_empty (noted : BitVec 8) (h : s.rx.window = []) : storeDiscarded noted s = s := by
  rw [storeDiscarded, highestStored_none.2 h]

/-- The one gap record reaches to every record of the greatest distance. -/
theorem storeDiscarded_gap (noted : BitVec 8) {r : FragRecord} (hr : r ∈ s.rx.window)
    (hmax : ∀ q ∈ s.rx.window, dist q.seq s.rx.nes ≤ dist r.seq s.rx.nes) (hg : s.rx.gaps = []) :
    (storeDiscarded noted s).rx.gaps =
      [{ first := s.rx.nes, count := dist r.seq s.rx.nes + 1, cause := .peerRestart, live := noted, time := s.now }] := by
  cases hh : highestStored s.rx.nes s.rx.window with
  | none =>
    rw [highestStored_none.1 hh] at hr
    cases hr
  | some h =>
    have hdist : dist h.seq s.rx.nes = dist r.seq s.rx.nes :=
      Nat.le_antisymm (hmax h (highestStored_mem hh)) (highestStored_max hh hr)
    have hdrop := (dropStore_storeOnly (c := .restartDiscarded) (by decide) s.rx.window.length s).2
    rw [storeDiscarded, hh, declare_first _ _ _ _ (hdrop.trans hg), (dropStore_frame _ _ s).now, hdist]

/-! ### The flush ended (R143) -/

theorem endFlush_rx (s : State) : (endFlush s).rx = { s.rx with flush := none } := by
  unfold endFlush
  split
  · rw [raise_rx]
    rfl
  · rename_i h
    rw [← h]

theorem endFlush_asm (s : State) : (endFlush s).asm = s.asm := by
  unfold endFlush
  split
  · exact raise_asm ..
  · rfl

theorem endFlush_counters (s : State) : (endFlush s).counters = s.counters := by
  unfold endFlush
  split
  · exact raise_counters ..
  · rfl

theorem endFlush_done (h : s.rx.flush.isSome = true) (hm : s.mgmt.mask.getLsbD 2 = false) :
    (endFlush s).occurrences .flushDone = min (s.occurrences .flushDone + 1) 255 := by
  obtain ⟨target, ht⟩ := Option.isSome_iff_exists.1 h
  rw [endFlush, ht]
  exact raise_unmasked (by exact hm)

/-! ### The receiver after a peer restart -/

/-- What a peer restart between `s` and `t` has done with store, flush and partial frame (R143, R161). -/
structure StoreLost (s t : State) : Prop where
  window : t.rx.window = []
  flush : t.rx.flush = none
  done : s.rx.flush.isSome = true → s.mgmt.mask.getLsbD 2 = false →
    t.occurrences .flushDone = min (s.occurrences .flushDone + 1) 255
  asm : t.asm = .idle
  broken : t.counter .broken = s.brokenLost
  restarts : t.counter .peerRestarts = countUp (s.counter .peerRestarts) 1
  unmarked : s.rx.gaps = [] → s.rx.window = [] → t.rx.gaps = []
  marked : ∀ r ∈ s.rx.window, (∀ q ∈ s.rx.window, dist q.seq s.rx.nes ≤ dist r.seq s.rx.nes) → s.rx.gaps = [] →
    t.rx.gaps =
      [{ first := s.rx.nes, count := dist r.seq s.rx.nes + 1, cause := .peerRestart, live := s.liveSet, time := s.now }]

theorem StoreLost.after (h : StoreLost s t) (k : SyncKept t u) : StoreLost s u := by
  obtain ⟨hflush, hdone⟩ := k.flush h.flush
  obtain ⟨hwindow, -, hgaps⟩ := k.store h.window
  obtain ⟨hasm, hbroken⟩ := k.idle h.window h.asm
  exact ⟨hwindow, hflush, fun hf hm => hdone.trans (h.done hf hm), hasm, hbroken.trans h.broken,
    (k.counter _ (by decide)).trans h.restarts, fun hg hw => hgaps.trans (h.unmarked hg hw),
    fun r hr hmax hg => hgaps.trans (h.marked r hr hmax hg)⟩

/-- A JOIN that resynchronises the receiver finds an empty store and leaves it so (R127). -/
theorem StoreLost.resynced (h : StoreLost s t) (p : PairNo) (m : Seq) (e : BitVec 8) :
    StoreLost s (t.resynced p m e) :=
  ⟨h.window, h.flush, h.done, h.asm, (counter_countBy_ne (by decide) 1 _).trans h.broken,
    (counter_countBy_ne (by decide) 1 _).trans h.restarts, h.unmarked, h.marked⟩

/-- The receiver after a peer restart: no pair live, and UNSYNCED (R143). -/
structure RxRestarted (s t : State) : Prop where
  lost : StoreLost s t
  marks : ∀ q, t.mark q = none
  synced : t.rx.synced = false
  nes : t.rx.nes = s.rx.nes
  epoch : t.rx.peerEpoch = s.rx.peerEpoch
  resyncs : t.counter .resyncs = s.counter .resyncs

theorem RxRestarted.after (h : RxRestarted s t) (k : SyncKept t u) : RxRestarted s u :=
  ⟨h.lost.after k, fun q => (k.mark q).trans (h.marks q),
    Bool.eq_false_iff.2 fun hu => by simpa [h.synced] using k.synced hu,
    (k.store h.lost.window).2.1.trans h.nes, k.epoch.trans h.epoch, (k.counter _ (by decide)).trans h.resyncs⟩

/-- No pair is live. -/
def State.noneLive (s : State) : State := s.modRx fun x => { x with live := Vector.replicate 8 none }

/-- The receiver of a peer restart before its flush is ended. -/
def restartCleared (s : State) : State :=
  (asmResync ((storeDiscarded s.liveSet s.noneLive).modRx fun x =>
    { x with gapTimer := none, paused := false })).modRx fun x => { x with synced := false }

theorem rx_modRx (f : Receiver → Receiver) (s : State) : (s.modRx f).rx = f s.rx := rfl

theorem rxPeerRestart_eq (s : State) : rxPeerRestart s = drainTells (endFlush (restartCleared s)) := rfl

theorem restartCleared_rx (s : State) : (restartCleared s).rx = { s.rx with
    live := Vector.replicate 8 none, window := [], gapTimer := none, paused := false, synced := false,
    gaps := (storeDiscarded s.liveSet s.noneLive).rx.gaps } := by
  have h := (storeDiscarded_storeOnly s.liveSet s.noneLive).rx
  rw [storeDiscarded_window] at h
  rw [restartCleared, rx_modRx, (asmResync_rxSame _).rx, rx_modRx, h]
  rfl

theorem restartCleared_counter (s : State) {c : BondCounter} (hc : c ∈ syncCounters) :
    (restartCleared s).counter c = s.counter c :=
  ((asmResync_rxSame _).counter c hc).trans ((storeDiscarded_storeOnly s.liveSet s.noneLive).counter c hc)

theorem restartCleared_broken (s : State) : (restartCleared s).counter .broken = s.brokenLost :=
  (asmResync_broken _).trans (storeDiscarded_storeOnly s.liveSet s.noneLive).lost

theorem restartCleared_flushDone (s : State) : (restartCleared s).occurrences .flushDone = s.occurrences .flushDone :=
  (asmResync_rxSame _).flushDone.trans (storeDiscarded_storeOnly s.liveSet s.noneLive).flushDone

theorem restartCleared_frame (s : State) : InboundFrame s (restartCleared s) := by
  have hdiscard : ∀ x : State, InboundFrame x (storeDiscarded s.liveSet x) := fun x => by
    unfold storeDiscarded
    split
    · exact (dropStore_frame _ _ x).trans (declare_frame _ _ _ _ _)
    · exact .refl x
  exact ((((modRx_frame _ s).trans (hdiscard _)).trans (modRx_frame _ _)).trans (asmResync_frame _)).trans
    (modRx_frame _ _)

theorem mark_of_noneLive (h : s.rx.live = Vector.replicate 8 none) (q : PairNo) : s.mark q = none := by
  simp [State.mark, h]

theorem rxPeerRestart_restarted (s : State) : RxRestarted s ((rxPeerRestart s).count .peerRestarts) := by
  have hrx := restartCleared_rx s
  have hcounter : ∀ c ∈ syncCounters, (restartCleared s).counter c = s.counter c := fun _ hc => restartCleared_counter s hc
  have hbroken := restartCleared_broken s
  have hdone := restartCleared_flushDone s
  have hmask := (restartCleared_frame s).event.mask
  have hasm : (restartCleared s).asm = .idle := rfl
  have hgap := fun r => storeDiscarded_gap s.liveSet (s := s.noneLive) (r := r)
  have hempty := storeDiscarded_of_empty s.liveSet (s := s.noneLive)
  rw [rxPeerRestart_eq]
  generalize storeDiscarded s.liveSet s.noneLive = d at *
  generalize restartCleared s = v at *
  have hk := drainTells_sync (endFlush v)
  have herx := endFlush_rx v
  have heasm := (endFlush_asm v).trans hasm
  have hecount : ∀ c, (endFlush v).counter c = v.counter c := fun c => by
    rw [State.counter, State.counter, endFlush_counters]
  have hedone := fun hf hm => endFlush_done (s := v) hf hm
  rw [hrx] at herx
  generalize endFlush v = w at *
  have hwindow : w.rx.window = [] := by rw [herx]
  have hflush : w.rx.flush = none := by rw [herx]
  obtain ⟨hwindow', hnes, hgaps⟩ := hk.store hwindow
  obtain ⟨hflush', hdone'⟩ := hk.flush hflush
  obtain ⟨hasm', hbroken'⟩ := hk.idle hwindow heasm
  have hgaps' : (drainTells w).rx.gaps = d.rx.gaps := by rw [hgaps, herx]
  refine ⟨⟨hwindow', hflush', fun hf hm => ?_, hasm', ?_, ?_, fun hg hw => ?_, fun r hr hmax hg => ?_⟩, fun q => ?_, ?_,
    ?_, ?_, ?_⟩
  · refine hdone'.trans ((hedone ?_ (by rw [hmask, hm])).trans (by rw [hdone]))
    rw [hrx]
    exact hf
  · exact (counter_countBy_ne (by decide) 1 _).trans (hbroken'.trans ((hecount _).trans hbroken))
  · rw [State.count, counter_countBy, hk.counter _ (by decide), hecount, hcounter _ (by decide)]
  · refine hgaps'.trans ?_
    rw [hempty hw]
    exact hg
  · exact hgaps'.trans (hgap r hr hmax hg)
  · exact (hk.mark q).trans (mark_of_noneLive (by rw [herx]) q)
  · exact Bool.eq_false_iff.2 fun h => by simpa [herx] using hk.synced h
  · exact hnes.trans (by rw [herx])
  · exact hk.epoch.trans (by rw [herx])
  · exact (counter_countBy_ne (by decide) 1 _).trans
      ((hk.counter _ (by decide)).trans ((hecount _).trans (hcounter _ (by decide))))

/-- A JOIN taken by the receiver that a peer restart has left UNSYNCED (R65, R127, R143). -/
structure RxRejoined (p : PairNo) (m : Seq) (e : BitVec 8) (s t : State) : Prop where
  lost : StoreLost s t
  synced : t.rx.synced = true
  nes : t.rx.nes = m
  epoch : t.rx.peerEpoch = e
  mark : t.mark p = some m
  marks : ∀ q, q ≠ p → t.mark q = none
  resyncs : t.counter .resyncs = countUp (s.counter .resyncs) 1

theorem RxRestarted.rejoined (h : RxRestarted s t) (p : PairNo) (m : Seq) (e : BitVec 8) :
    RxRejoined p m e s (rxJoin p m e t) := by
  obtain ⟨htaken, hmark, hcount, hnes⟩ := rxJoin_of_unsynced h.synced p m e
  have hlost := (h.lost.resynced p m e).after (membershipFollow_sync _)
  rw [← rxJoin_unsynced h.synced] at hlost
  exact ⟨hlost, htaken.synced, (hnes h.lost.window).2, htaken.epoch, hmark,
    fun q hq => (htaken.marks q hq).trans (h.marks q), by rw [hcount, h.resyncs]⟩

theorem RxRejoined.after {m : Seq} {e : BitVec 8} (h : RxRejoined p m e s t) (k : SyncKept t u) :
    RxRejoined p m e s u :=
  ⟨h.lost.after k, (k.awake p (by rw [h.mark]; rfl)).trans h.synced, (k.store h.lost.window).2.1.trans h.nes,
    k.epoch.trans h.epoch, (k.mark p).trans h.mark, fun q hq => (k.mark q).trans (h.marks q hq),
    (k.counter _ (by decide)).trans h.resyncs⟩

end Sys2Proof.Machine

/-! PROOFS. A JOIN with a new epoch (R65, R51, R67): each pair of the exchange begins it anew or is parked, and the JOIN's
own pair is answered where it begins anew (O40). -/

namespace Sys2Proof.Machine

variable {p q : PairNo} {s t u : State} {m : Seq} {e : BitVec 8}

/-! ### Running through pairs -/

/-- A run through all pairs seen from pair `q`: its own act, between acts for the others. -/
theorem forPairs_at {f : PairNo → State → State} {R : State → State → Prop} (hrefl : ∀ x, R x x)
    (htrans : ∀ {x y z}, R x y → R y z → R x z) (hf : ∀ p, p ≠ q → ∀ x, R x (f p x)) (s : State) :
    ∃ x, R s x ∧ R (f q x) (forPairs f s) := by
  have hothers : ∀ l : List PairNo, q ∉ l → ∀ x, R x (l.foldl (fun s p => f p s) x) := by
    intro l
    induction l with
    | nil => exact fun _ x => hrefl x
    | cons p l ih =>
      intro hq x
      rw [List.mem_cons, not_or] at hq
      exact htrans (hf p (Ne.symm hq.1) x) (ih hq.2 _)
  obtain ⟨before, after, hall⟩ := List.append_of_mem (mem_allPairs q)
  have hnodup : (before ++ q :: after).Nodup := hall ▸ (by decide : allPairs.Nodup)
  rw [List.nodup_append, List.nodup_cons] at hnodup
  obtain ⟨-, ⟨hafter, -⟩, hbefore⟩ := hnodup
  refine ⟨before.foldl (fun s p => f p s) s,
    hothers before (fun hq => hbefore q hq q List.mem_cons_self rfl) s, ?_⟩
  rw [forPairs, hall, List.foldl_append, List.foldl_cons]
  exact hothers after hafter _

/-! ### What another pair's move leaves of a pair -/

/-- Pair `q`, its COMMAND-DONE, and what every pair uses, are alike in `s` and `t`. -/
structure SameAt (q : PairNo) (s t : State) : Prop where
  event : EventFrame s t
  now : t.now = s.now
  next : t.disp.next = s.disp.next
  pair : t.pair q = s.pair q
  port : t.port q = s.port q
  done : t.occurrences (.commandDone q) = s.occurrences (.commandDone q)

theorem SameAt.refl (q : PairNo) (s : State) : SameAt q s s := ⟨.refl s, rfl, rfl, rfl, rfl, rfl⟩

theorem SameAt.trans (h : SameAt q s t) (k : SameAt q t u) : SameAt q s u :=
  ⟨h.event.trans k.event, k.now.trans h.now, k.next.trans h.next, k.pair.trans h.pair, k.port.trans h.port,
    k.done.trans h.done⟩

theorem SameAt.of_pairFrame (h : PairFrame p s t) (hq : q ≠ p)
    (hd : t.occurrences (.commandDone q) = s.occurrences (.commandDone q)) : SameAt q s t :=
  ⟨h.event, h.now, h.next, h.pairs q hq, h.ports q hq, hd⟩

theorem SameAt.of_inbound (h : InboundFrame s t) (k : InboundKept s t) : SameAt q s t :=
  ⟨h.event, h.now, by rw [h.disp], pair_congr h.pairs q, port_congr h.ports q, k.notices _ rfl⟩

theorem commandDone_place_ne (h : q ≠ p) : (NoticeInst.commandDone q).place ≠
    (NoticeInst.commandDone p).place := fun hp => by
  have := congrArg Fin.val hp
  simp only [NoticeInst.place] at this
  exact h (Fin.ext (by omega))

theorem enter_commandDone (p q : PairNo) (new : PairState) (why : Reason) (s : State) :
    (enter p new why s).occurrences (.commandDone q) = s.occurrences (.commandDone q) :=
  enter_notices p new why s rfl (commandDone_place_ne_bondState q).symm (commandDone_place_ne_pairState q p)

theorem enterJoining_commandDone (p q : PairNo) (why : Reason) (s : State) :
    (enterJoining p why s).occurrences (.commandDone q) = s.occurrences (.commandDone q) := by
  have hplace := (placeJoin_delivery p (startTimer p .join (s.cfg.joinTimeout * 1000) (enter p .joining why s))).notices
    (.commandDone q) rfl
  have hcopy : ∀ (f : Pair → Pair) (x : State), (x.modPair p f).occurrences (.commandDone q) =
      x.occurrences (.commandDone q) := fun _ _ => rfl
  rw [enterJoining, hcopy, hplace, startTimer, hcopy, enter_commandDone]

/-! ### One pair at a peer restart (R65) -/

/-- A pair that begins its exchange anew at a peer restart. -/
def State.rejoins (s : State) (q : PairNo) : Prop :=
  (s.pair q).state = .joining ∨ (s.pair q).state = .active ∨
    ((s.pair q).state = .leaving ∧ (s.pair q).hostDisable = false)

/-- A pair that a peer restart parks. -/
def State.parks (s : State) (q : PairNo) : Prop := (s.pair q).state = .leaving ∧ (s.pair q).hostDisable = true

theorem restartPair_rejoins (h : s.rejoins p) : restartPair p s = enterJoining p .peerRestart s := by
  unfold restartPair
  rcases h with h | h | ⟨h, hd⟩ <;> simp only [h]
  simp [hd]

theorem restartPair_parks (h : s.parks p) : restartPair p s = hostDone p (park p s) := by
  unfold restartPair
  simp only [h.1, h.2, if_true]

theorem restartPair_stays (hr : ¬s.rejoins p) (hk : ¬s.parks p) : restartPair p s = s := by
  simp only [State.rejoins, State.parks, not_or, not_and, Bool.not_eq_false, Bool.not_eq_true] at hr hk
  obtain ⟨hj, ha, hl⟩ := hr
  cases h : (s.pair p).state with
  | joining => exact absurd h hj
  | active => exact absurd h ha
  | leaving => exact absurd (hl h) (Bool.eq_false_iff.1 (hk h))
  | vacant | parked | training | settling | quarantine | faulted => rw [restartPair, h]

theorem restartPair_same (h : p ≠ q) (s : State) : SameAt q s (restartPair p s) := by
  refine .of_pairFrame (restartPair_frame p s) h.symm ?_
  by_cases hr : s.rejoins p
  · rw [restartPair_rejoins hr, enterJoining_commandDone]
  · by_cases hk : s.parks p
    · rw [restartPair_parks hk, hostDone_notices p _ (commandDone_place_ne h.symm), park, enter_commandDone]
    · rw [restartPair_stays hr hk]

/-- Entry while the pair is not live changes nothing of the live set. -/
theorem enter_sync (h : s.mark p = none) (new : PairState) (why : Reason) : SyncKept s (enter p new why s) := by
  have hlive : s.isLive p = false := by simp [State.isLive, h]
  have hremove : rxRemove p s = s := by simp [rxRemove, hlive]
  have henter : enter p new why s = entering id p new why s := by
    rw [enter, withRemoval, hlive, hremove]
    exact ite_self _
  rw [henter]
  exact entering_sync p new why s

theorem restartPair_sync (h : s.mark p = none) : SyncKept s (restartPair p s) := by
  have hjoin : SyncKept s (enterJoining p .peerRestart s) :=
    (enter_sync h _ _).trans (((modPair_still p _ _).trans (placeJoin_still p _)).trans (modPair_still p _ _)).sync
  unfold restartPair
  split
  · exact hjoin
  · exact hjoin
  · split
    · exact (enter_sync h _ _).trans (hostDone_still p _).sync
    · exact hjoin
  · exact .refl s

/-- What a peer restart does between `s` and `t` with pair `q`. -/
structure PairRestarted (q : PairNo) (s t : State) : Prop where
  rejoined : s.rejoins q → (t.pair q).state = .joining ∧ (t.pair q).reason = .peerRestart ∧
    (t.pair q).stateTimer = some (.join, s.now + s.cfg.joinTimeout * 1000)
  parked : s.parks q → (t.pair q).state = .parked ∧ (t.pair q).hostDisable = false ∧
    (s.mgmt.mask.getLsbD 2 = false → t.occurrences (.commandDone q) = min (s.occurrences (.commandDone q) + 1) 255) ∧
    (t.pair q).reason = if (s.pair q).enabled then .notReleased else .host
  stayed : ¬s.rejoins q → ¬s.parks q → (t.pair q).state = (s.pair q).state ∧ (t.pair q).reason = (s.pair q).reason

theorem State.rejoins.empties (h : s.rejoins p) : entryEmpties (s.pair p).state .joining = true := by
  rcases h with h | h | ⟨h, -⟩ <;> rw [h] <;> rfl

theorem State.rejoins.not_parks (h : s.rejoins p) : ¬s.parks p := fun ⟨hl, hd⟩ => by
  rcases h with h | h | ⟨-, h⟩
  · simp [hl] at h
  · simp [hl] at h
  · simp [hd] at h

theorem restartPair_restarted (p : PairNo) (s : State) : PairRestarted p s (restartPair p s) := by
  refine ⟨fun h => ?_, fun h => ?_, fun hr hk => ?_⟩
  · rw [restartPair_rejoins h, (enterJoining_anew h.empties .peerRestart).2]
    exact ⟨rfl, rfl, rfl⟩
  · obtain ⟨hstate, hreason⟩ := enter_state p .parked (parkedReason (s.pair p).enabled) s
    rw [restartPair_parks h, hostDone_pair]
    exact ⟨hstate, rfl, park_hostDone h.2, hreason⟩
  · rw [restartPair_stays hr hk]
    exact ⟨rfl, rfl⟩

/-- No pair is ACTIVE after a peer restart. -/
theorem PairRestarted.rested (h : PairRestarted q s t) : (t.pair q).state ≠ .active := fun ha => by
  by_cases hr : s.rejoins q
  · simp [(h.rejoined hr).1] at ha
  · by_cases hk : s.parks q
    · simp [(h.parked hk).1] at ha
    · exact hr (.inr (.inl ((h.stayed hr hk).1.symm.trans ha)))

theorem PairRestarted.after (h : PairRestarted q s t) (k : SameAt q t u) : PairRestarted q s u := by
  obtain ⟨hrejoined, hparked, hstayed⟩ := h
  rw [← k.pair] at hrejoined hparked hstayed
  rw [← k.done] at hparked
  exact ⟨hrejoined, hparked, hstayed⟩

theorem PairRestarted.before (h : PairRestarted q t u) (k : SameAt q s t) : PairRestarted q s u := by
  obtain ⟨hrejoined, hparked, hstayed⟩ := h
  simp only [State.rejoins, State.parks, k.pair, k.now, k.event.cfg, k.event.mask, k.done] at hrejoined hparked hstayed
  exact ⟨hrejoined, hparked, hstayed⟩

theorem PairRestarted.redecide (h : PairRestarted q s t) : PairRestarted q s (redecide t) := by
  obtain ⟨hpair, -⟩ := redecide_rested h.rested
  obtain ⟨hrejoined, hparked, hstayed⟩ := h
  rw [← hpair] at hrejoined hparked hstayed
  rw [← (redecide_delivery t).notices (.commandDone q) rfl] at hparked
  exact ⟨hrejoined, hparked, hstayed⟩

/-! ### All pairs (R65) -/

/-- The peer restart before its JOIN is answered: the receiver, then every pair. -/
def State.restarted (s : State) : State := forPairs restartPair ((rxPeerRestart s).count .peerRestarts)

theorem rxPeerRestart_same (q : PairNo) (s : State) : SameAt q s ((rxPeerRestart s).count .peerRestarts) :=
  .of_inbound ((rxPeerRestart_frame s).trans (count_frame _ _).inbound)
    ((rxPeerRestart_inbound s).trans (countBy_delivery (by decide) 1 _).toInboundKept)

/-- The peer restart as pair `q` sees it. -/
theorem restarted_at (q : PairNo) (s : State) : ∃ x, SameAt q s x ∧ SameAt q (restartPair q x) s.restarted := by
  obtain ⟨x, hx, ht⟩ := forPairs_at (R := SameAt q) (SameAt.refl q) SameAt.trans (fun _ hp => restartPair_same hp)
    ((rxPeerRestart s).count .peerRestarts)
  exact ⟨x, (rxPeerRestart_same q s).trans hx, ht⟩

theorem restarted_pairs (q : PairNo) (s : State) : PairRestarted q s s.restarted := by
  obtain ⟨x, hx, ht⟩ := restarted_at q s
  exact ((restartPair_restarted q x).after ht).before hx

theorem restarted_rx (s : State) : RxRestarted s s.restarted :=
  forPairs_induct (P := RxRestarted s) (fun p _ h => h.after (restartPair_sync (h.marks p))) _
    (rxPeerRestart_restarted s)

theorem restarted_now (s : State) : s.restarted.now = s.now := by
  obtain ⟨x, hx, ht⟩ := restarted_at 0 s
  rw [ht.now, (restartPair_frame 0 x).now, hx.now]

/-! ### The JOIN's own pair (R51, R65) -/

theorem peerRestart_eq (p echo : PairNo) (m : Seq) (e : BitVec 8) (s : State) : peerRestart p echo m e s =
    if (s.restarted.pair p).state = .joining then acceptJoin p echo m e s.restarted else s.restarted := rfl

theorem peerRestart_parks (echo : PairNo) (m : Seq) (e : BitVec 8) (h : s.parks p) :
    peerRestart p echo m e s = s.restarted := by
  have hstate := ((restarted_pairs p s).parked h).1
  rw [peerRestart_eq, hstate, if_neg (by decide)]

/-- A pair that a peer restart parks is not answered. -/
theorem restarted_parks (h : s.parks p) : (s.restarted.port p).queue = [] ∧ (s.restarted.pair p).waitAck = none := by
  obtain ⟨x, hx, ht⟩ := restarted_at p s
  have hxp : x.parks p := by
    rw [State.parks, hx.pair]
    exact h
  rw [ht.port, ht.pair, restartPair_parks hxp, hostDone_pair, port_congr (hostDone_ports p _) p, park, enter_record]
  exact ⟨enter_closed_queue p .parked _ x rfl, rfl⟩

/-- The JOIN's own pair begun anew and answered, and the receiver synchronised on the JOIN. -/
structure Restarted (p echo : PairNo) (m : Seq) (e : BitVec 8) (s t : State) : Prop where
  rx : RxRejoined p m e s t
  pairs : ∀ q, PairRestarted q s t
  frags : (t.port p).queue.map (·.frag) =
    [.join s.disp.next s.mgmt.bondId p s.mgmt.epoch, .joinAck s.mgmt.bondId echo .accept]
  now : t.now = s.now

theorem peerRestart_rejoins (echo : PairNo) (m : Seq) (e : BitVec 8) (h : s.rejoins p) :
    Restarted p echo m e s (peerRestart p echo m e s) := by
  obtain ⟨x, hx, ht⟩ := restarted_at p s
  have hxp : x.rejoins p := by
    rw [State.rejoins, hx.pair]
    exact h
  obtain ⟨hport, hpair⟩ := enterJoining_anew hxp.empties .peerRestart
  have hpairs := fun q => restarted_pairs q s
  have hrx := restarted_rx s
  have hnow := restarted_now s
  have hstate := ((hpairs p).rejoined h).1
  rw [restartPair_rejoins hxp] at ht
  have htpair := ht.pair.trans hpair
  have htport := ht.port.trans hport
  have hbond := ht.event.ids.1.trans (enterJoining_frame p .peerRestart x).event.ids.1
  rw [peerRestart_eq, if_pos hstate, acceptJoin_unjoined echo m e (by rw [htpair]; rfl)]
  generalize s.restarted = v at *
  have hbegun := exchangeBegun_of (s := x) echo htport htpair hbond
  have hack := placeAck_frame p echo .accept v
  have hnotices := placeAck_delivery p echo .accept v
  have hrxack := hrx.after (placeAck_still p echo .accept v).sync
  generalize placeAck p echo .accept v = w at *
  have hjoin : ∀ q, SameAt q w (rxJoin p m e w) := fun _ => .of_inbound (rxJoin_frame p m e w) (rxJoin_inbound p m e w)
  have hfrags : [x.joinNow p, Fragment.joinAck x.mgmt.bondId echo .accept] =
      [.join s.disp.next s.mgmt.bondId p s.mgmt.epoch, .joinAck s.mgmt.bondId echo .accept] := by
    rw [State.joinNow, hx.next, hx.event.ids.1, hx.event.ids.2]
  refine ⟨hrxack.rejoined p m e, fun q => ?_, ?_, (hjoin p).now.trans (hack.now.trans hnow)⟩
  · by_cases hq : q = p
    · subst hq
      refine ⟨fun _ => ?_, fun hk => absurd hk h.not_parks, fun hr => absurd h hr⟩
      rw [(hjoin q).pair, hbegun.pair, hx.now, hx.event.cfg]
      exact ⟨rfl, rfl, rfl⟩
    · exact ((hpairs q).after (.of_pairFrame hack hq (hnotices.notices _ rfl))).after (hjoin q)
  · rw [(hjoin p).port, hbegun.frags, hfrags]

/-! ### The obligation -/

theorem takeJoin_restart (echo : PairNo) (m : Seq) (h : s.rejoins p ∨ s.parks p) (hs : s.rx.synced = true)
    (he : e ≠ s.rx.peerEpoch) : takeJoin p echo m s.mgmt.bondId e s = peerRestart p echo m e s := by
  have hnew : (s.rx.synced && e != s.rx.peerEpoch) = true := by simp [hs, he]
  unfold takeJoin
  rcases h with (h | h | ⟨h, -⟩) | ⟨h, -⟩ <;> simp only [h, hnew, if_true]

theorem counted_at (p q : PairNo) (s : State) : (s.countPair p .fragmentsReceived).pair q =
    { s.pair q with counters := ((s.countPair p .fragmentsReceived).pair q).counters } := by
  by_cases hq : q = p
  · subst hq
    rw [countPair_pair]
    rfl
  · rw [(countPair_frame p _ s).pairs q hq]

theorem counted_rejoins (p q : PairNo) (s : State) :
    (s.countPair p .fragmentsReceived).rejoins q ↔ s.rejoins q := by
  rw [State.rejoins, counted_at]
  rfl

theorem counted_parks (p q : PairNo) (s : State) : (s.countPair p .fragmentsReceived).parks q ↔ s.parks q := by
  rw [State.parks, counted_at]
  rfl

theorem PairRestarted.counted (h : PairRestarted q (s.countPair p .fragmentsReceived) t) : PairRestarted q s t := by
  obtain ⟨hrejoined, hparked, hstayed⟩ := h
  rw [counted_rejoins] at hrejoined hstayed
  rw [counted_parks] at hparked hstayed
  rw [counted_at] at hparked hstayed
  exact ⟨hrejoined, hparked, hstayed⟩

/-- Settles O40: the JOIN's own pair begun anew and answered, or parked. -/
theorem peerRestartStartsAnew : Obligations.PeerRestartStartsAnew := by
  unfold Obligations.PeerRestartStartsAnew
  intro s p m echo e hf hp hs he finished rejoins parks h
  have hexec := exec_join echo m e hf hp
  have hcase : (s.countPair p .fragmentsReceived).rejoins p ∨ (s.countPair p .fragmentsReceived).parks p :=
    h.imp (counted_rejoins p p s).2 (counted_parks p p s).2
  have hframe := ((countPair_frame p .fragmentsReceived s).event.trans
    (takeJoin_frame p echo m s.mgmt.bondId e (s.countPair p .fragmentsReceived))).trans (redecide_frame _).event
  have htake := takeJoin_restart (s := s.countPair p .fragmentsReceived) (p := p) echo m hcase hs he
  rw [show (s.countPair p .fragmentsReceived).mgmt.bondId = s.mgmt.bondId from rfl] at htake
  rw [htake] at hexec hframe
  by_cases hr : s.rejoins p
  · obtain ⟨hrx, hpairs, hfrags, hnow⟩ :=
      peerRestart_rejoins (s := s.countPair p .fragmentsReceived) echo m e ((counted_rejoins p p s).2 hr)
    generalize peerRestart p echo m e (s.countPair p .fragmentsReceived) = v at *
    have hport := (redecide_rested (hpairs p).rested).2
    have hrx := hrx.after (redecide_sync v)
    have hpairs := fun q => (hpairs q).redecide.counted
    have hlost := hrx.lost
    refine ⟨_, hexec, (redecide_frame v).now.trans hnow, hframe, hlost.restarts, hlost.window, hlost.flush, hlost.done,
      fun _ => ⟨hrx.synced, hrx.nes, hrx.epoch, hrx.mark, hrx.resyncs, by rw [hport, hfrags]; rfl⟩,
      fun hk => absurd hk hr.not_parks, hrx.marks, hlost.asm, hlost.broken,
      fun q => ⟨(hpairs q).rejoined, (hpairs q).parked, (hpairs q).stayed⟩, hlost.unmarked, hlost.marked⟩
  · have hk : s.parks p := h.resolve_left hr
    have hkc := (counted_parks p p s).2 hk
    have hrx := restarted_rx (s.countPair p .fragmentsReceived)
    have hpairs := fun q => restarted_pairs q (s.countPair p .fragmentsReceived)
    have hnow := restarted_now (s.countPair p .fragmentsReceived)
    obtain ⟨hqueue, hwait⟩ := restarted_parks hkc
    rw [peerRestart_parks echo m e hkc] at hexec hframe
    generalize (s.countPair p .fragmentsReceived).restarted = v at *
    obtain ⟨hpair, hport⟩ := redecide_rested (hpairs p).rested
    have hrx := hrx.after (redecide_sync v)
    have hpairs := fun q => (hpairs q).redecide.counted
    have hlost := hrx.lost
    refine ⟨_, hexec, (redecide_frame v).now.trans hnow, hframe, hlost.restarts, hlost.window, hlost.flush, hlost.done,
      fun h => absurd h hr,
      fun _ => ⟨hrx.synced, hrx.nes, hrx.epoch, hrx.marks p, hrx.resyncs, by rw [hport, hqueue], by rw [hpair, hwait]⟩,
      fun q _ => hrx.marks q, hlost.asm, hlost.broken,
      fun q => ⟨(hpairs q).rejoined, (hpairs q).parked, (hpairs q).stayed⟩, hlost.unmarked, hlost.marked⟩

end Sys2Proof.Machine

/-! PROOFS. Cells on the inbound path (R73, R74, R76, R78): what the Frame Assembler makes of a fragment keeps the cells it
holds those of its partial frame, and gives every other cell to the LAN transmit queue or back. -/

namespace Sys2Proof.Machine

variable {s t u : State} {m n k : Nat}

/-! ### Cells in use and cells held -/

/-- The cells of frames of the outbound half. -/
def frameCells (l : List OutFrame) : Nat := (l.map (·.cells)).sum

/-- The cells of the frame being split, if there is one. -/
def planCells (o : Option SplitPlan) : Nat := (o.map (·.cells)).getD 0

/-- The cells of the frames in the class queues and of the frame being split. -/
def State.outboundCells (s : State) : Nat := frameCells s.queued + planCells s.disp.split

/-- The cells of the frames in the LAN transmit queue. -/
def State.lanCells (s : State) : Nat := (s.lan.txQueue.map (·.cells)).sum

/-- The cells of the records in a store. -/
def storeCells (w : List FragRecord) : Nat := (w.map (·.cells)).sum

/-- A partial frame holds just what its octets need (R162). -/
def Assembler.Exact (a : Assembler) : Prop := ∀ octets cells, a = .collecting octets cells → cells = cellsFor octets.length

/-- The use counts are the cells that the outbound half and the LAN transmit queue hold, and beside them `m` outbound and `n`
inbound cells. -/
structure CellsBeside (m n : Nat) (s : State) : Prop where
  outbound : s.cells.usedOut = m + s.outboundCells
  inbound : s.cells.usedIn = n + s.lanCells
  standing : s.disp.standing = true → s.disp.split = none

/-- The use counts are the cells that the outbound half, the Frame Assembler and the LAN transmit queue hold, and beside them
`m` outbound and `n` inbound cells. -/
structure CellsHeld (m n : Nat) (s : State) : Prop where
  beside : CellsBeside m (n + s.asm.cells) s
  exact : s.asm.Exact

theorem cellsAccounted_iff : CellsAccounted s ↔ CellsHeld 0 (storeCells s.rx.window) s :=
  ⟨fun h => ⟨⟨h.outbound.trans (Nat.zero_add _).symm, h.inbound, h.standing⟩, h.partialFrame⟩,
    fun ⟨⟨hout, hin, hstand⟩, hexact⟩ => ⟨hout.trans (Nat.zero_add _), hin, hexact, hstand⟩⟩

theorem Assembler.exact_idle : Assembler.idle.Exact := fun _ _ h => nomatch h

theorem Assembler.exact_discarding (b : Bool) : (Assembler.discarding b).Exact := fun _ _ h => nomatch h

theorem Assembler.exact_collecting (octets : List Octet) :
    (Assembler.collecting octets (cellsFor octets.length)).Exact := fun _ _ h => by
  obtain ⟨rfl, rfl⟩ := Assembler.collecting.inj h
  rfl

/-- An act that leaves use counts, class queues, the frame being split and the LAN transmit queue alone. -/
theorem CellsBeside.of_eq (h : CellsBeside m n s) (ho : t.cells.usedOut = s.cells.usedOut)
    (hi : t.cells.usedIn = s.cells.usedIn) (hc : t.classes = s.classes) (hd : t.disp = s.disp) (hl : t.lan = s.lan) :
    CellsBeside m n t := by
  obtain ⟨hout, hin, hstand⟩ := h
  refine ⟨?_, ?_, hd ▸ hstand⟩
  · rw [ho, hout, State.outboundCells, State.outboundCells, State.queued, State.queued]
    simp only [State.cls, hc, hd]
  · rw [hi, hin, State.lanCells, State.lanCells, hl]

/-- An act of the Cell Memory that leaves the use counts alone. -/
theorem CellsBeside.of_frame (h : CellsBeside m n s) (hf : CellsFrame s t) (ho : t.cells.usedOut = s.cells.usedOut)
    (hi : t.cells.usedIn = s.cells.usedIn) : CellsBeside m n t := h.of_eq ho hi hf.classes hf.disp hf.lan

theorem CellsBeside.count (h : CellsBeside m n s) (c : BondCounter) : CellsBeside m n (s.count c) :=
  h.of_eq rfl rfl rfl rfl rfl

theorem CellsBeside.setAsm (h : CellsBeside m n s) (a : Assembler) : CellsBeside m n (s.setAsm a) :=
  h.of_eq rfl rfl rfl rfl rfl

/-- The cells beside are those that the Frame Assembler holds in its state, and `n` more. -/
theorem CellsBeside.held {a : Assembler} (h : CellsBeside m k s) (ha : s.asm = a) (hexact : a.Exact)
    (hk : k = n + a.cells) : CellsHeld m n s := by
  subst hk ha
  exact ⟨h, hexact⟩

/-- A return gives back inbound cells that were in use (R74). -/
theorem CellsBeside.returnCells (h : CellsBeside m (n + k) s) : CellsBeside m n (returnCells .inbound k s) := by
  have hf := returnCells_frame .inbound k s
  have hlan : (Machine.returnCells .inbound k s).lanCells = s.lanCells := by rw [State.lanCells, hf.lan, State.lanCells]
  refine ⟨?_, ?_, hf.disp ▸ h.standing⟩
  · rw [(returnCells_outbound k s).usedOut, h.outbound, State.outboundCells, State.outboundCells, State.queued,
      State.queued]
    simp only [State.cls, hf.classes, hf.disp]
  · rw [returnCells_usedIn, h.inbound, hlan]
    omega

/-- A granted request puts inbound cells in use (R74). -/
theorem requestCells_usedIn (h : requestCells .inbound k s = some t) : t.cells.usedIn = s.cells.usedIn + k := by
  unfold requestCells at h
  split at h
  · obtain rfl := Option.some.inj h
    rw [evaluate_usedIn]
    rfl
  · cases h

theorem CellsBeside.requestCells (h : CellsBeside m n s) (hr : requestCells .inbound k s = some t) :
    CellsBeside m (n + k) t := by
  have hf := (requestCells_frame hr).2
  have hlan : t.lanCells = s.lanCells := by rw [State.lanCells, hf.lan, State.lanCells]
  refine ⟨?_, ?_, hf.disp ▸ h.standing⟩
  · rw [(requestCells_outbound hr).usedOut, h.outbound, State.outboundCells, State.outboundCells, State.queued,
      State.queued]
    simp only [State.cls, hf.classes, hf.disp]
  · rw [requestCells_usedIn hr, h.inbound, hlan]
    omega

/-! ### Frame Assembler (R161, R162) -/

/-- A frame handed to the LAN Port brings its cells there, or they are returned (R163). -/
theorem CellsBeside.lanAccept {f : LanFrame} (h : CellsBeside m (n + f.cells) s) : CellsBeside m n (lanAccept f s) := by
  unfold Machine.lanAccept
  split
  · split
    · exact (h.count _).returnCells
    · refine ⟨h.outbound, ?_, h.standing⟩
      have hin := h.inbound
      simp only [State.lanCells, List.map_append, List.sum_append, List.map_cons, List.map_nil, List.sum_cons,
        List.sum_nil] at hin ⊢
      omega
  · exact (h.count _).returnCells

theorem lanAccept_asm (f : LanFrame) (s : State) : (lanAccept f s).asm = s.asm := by
  unfold lanAccept
  split
  · split
    · exact (returnCells_still _ _ _).asm
    · rfl
  · exact (returnCells_still _ _ _).asm

theorem asmComplete_asm (octets : List Octet) (cells : Nat) (s : State) : (asmComplete octets cells s).asm = .idle := by
  unfold asmComplete
  split
  · exact (returnCells_still _ _ _).asm
  · exact lanAccept_asm _ _

/-- A complete frame goes on with its cells, or they are returned. -/
theorem CellsBeside.asmComplete (h : CellsBeside m (n + k) s) (octets : List Octet) :
    CellsHeld m n (asmComplete octets k s) := by
  have hb : CellsBeside m n (Machine.asmComplete octets k s) := by
    unfold Machine.asmComplete
    split
    · exact ((h.setAsm _).count _).returnCells
    · exact CellsBeside.lanAccept ((h.setAsm _).count _)
  exact hb.held (asmComplete_asm octets k s) Assembler.exact_idle rfl

theorem cellsFor_mono {a b : Nat} (h : a ≤ b) : cellsFor a ≤ cellsFor b :=
  Nat.div_le_div_right (Nat.sub_le_sub_right (Nat.add_le_add_right h _) 1)

/-- The octets of a fragment are kept in the cells that all octets gathered need, or what was gathered is given up; the
fragment's own cells are returned (R78, R162). -/
theorem CellsBeside.asmKeep {r : FragRecord} {soFar : List Octet} {held : Nat} (h : CellsBeside m (n + r.cells + held) s)
    (hheld : held = cellsFor soFar.length) : CellsHeld m n (asmKeep soFar held r s) := by
  have hdrop : ∀ x, CellsBeside m (n + r.cells + held) x →
      CellsBeside m n (Machine.returnCells .inbound r.cells (Machine.returnCells .inbound held x)) := fun x hx =>
    CellsBeside.returnCells hx.returnCells
  have hasm : ∀ x : State, (Machine.returnCells .inbound r.cells (Machine.returnCells .inbound held x)).asm = x.asm :=
    fun x => (returnCells_still _ _ _).asm.trans (returnCells_still _ _ _).asm
  unfold Machine.asmKeep
  dsimp only
  split
  · exact (hdrop _ ((h.setAsm _).count _)).held (a := .discarding true) (hasm _) (Assembler.exact_discarding true) rfl
  · split
    · exact CellsBeside.held (a := .discarding true) ((hdrop _ (h.setAsm _)).count _) ((count_asm _ _).trans (hasm _))
        (Assembler.exact_discarding true) rfl
    · rename_i s' hreq
      have hneed : held ≤ cellsFor (soFar ++ r.payload).length :=
        hheld ▸ cellsFor_mono (List.length_append ▸ Nat.le_add_right _ _)
      have hgranted : CellsBeside m (n + cellsFor (soFar ++ r.payload).length + r.cells) s' := by
        split at hreq
        · obtain rfl := Option.some.inj hreq
          convert h using 1
          omega
        · convert h.requestCells hreq using 1
          omega
      have hkept := CellsBeside.returnCells
        (hgranted.setAsm (.collecting (soFar ++ r.payload) (cellsFor (soFar ++ r.payload).length)))
      split
      · exact hkept.asmComplete _
      · exact hkept.held (returnCells_still _ _ _).asm (Assembler.exact_collecting _) rfl

/-- A partial frame discarded gives its cells back. -/
theorem CellsHeld.asmDiscard (h : CellsHeld m n s) (c : BondCounter) : CellsBeside m n (asmDiscard c s) := by
  have hb := h.beside
  unfold Machine.asmDiscard
  split
  · rename_i ha
    rw [ha] at hb
    exact CellsBeside.returnCells (hb.count c)
  · rename_i hno
    cases ha : s.asm with
    | collecting octets cells => exact absurd ha (hno octets cells)
    | idle => rwa [ha] at hb
    | discarding b => rwa [ha] at hb

/-- A partial frame is discarded, and the Frame Assembler goes to a state that holds no cells. -/
theorem CellsHeld.asmDiscard_setAsm (h : CellsHeld m n s) (c : BondCounter) {a : Assembler} (ha : a.cells = 0)
    (hexact : a.Exact) : CellsHeld m n ((Machine.asmDiscard c s).setAsm a) :=
  ((h.asmDiscard c).setAsm a).held (a := a) rfl hexact (by rw [ha, Nat.add_zero])

/-- The cells of a fragment that reaches the Frame Assembler are returned, and those it then holds are accounted for
(R161). -/
theorem CellsHeld.asmTake {r : FragRecord} (h : CellsHeld m (n + r.cells) s) : CellsHeld m n (asmTake r s) := by
  obtain ⟨hb, hexact⟩ := h
  unfold Machine.asmTake
  split
  · exact CellsBeside.asmKeep (held := 0) (CellsHeld.asmDiscard ⟨hb, hexact⟩ _) rfl
  · rename_i ha
    rw [ha] at hb
    exact CellsBeside.held (CellsBeside.returnCells (hb.count _)) ((returnCells_still _ _ _).asm.trans ha)
      Assembler.exact_idle rfl
  · rename_i octets cells ha
    rw [ha] at hb
    exact hb.asmKeep (hexact _ _ ha)
  · rename_i charged _ ha
    rw [ha] at hb
    have hc : CellsBeside m (n + r.cells) (if charged then s else s.count .broken) := by
      split
      · exact hb
      · exact hb.count _
    refine CellsBeside.held (CellsBeside.returnCells (hc.setAsm _)) (returnCells_still _ _ _).asm ?_ ?_
    · split
      · exact Assembler.exact_idle
      · exact Assembler.exact_discarding true
    · split <;> rfl

/-- "Loss declared" keeps the cells accounted for (R161). -/
theorem CellsHeld.asmLoss (h : CellsHeld m n s) : CellsHeld m n (asmLoss s) := by
  unfold Machine.asmLoss
  split
  · rename_i ha
    have hb := h.beside
    rw [ha] at hb
    exact (hb.setAsm _).held rfl (Assembler.exact_discarding false) rfl
  · exact h.asmDiscard_setAsm _ rfl (Assembler.exact_discarding true)
  · exact h

theorem CellsHeld.asmResync (h : CellsHeld m n s) : CellsHeld m n (asmResync s) :=
  h.asmDiscard_setAsm _ rfl Assembler.exact_idle

end Sys2Proof.Machine

/-! PROOFS. Cells of the reorder store (R125, R137, R147, R150): records placed, handed on and discarded, and each event of
the Reorder Engine, keep the use counts those of what is held. -/

namespace Sys2Proof.Machine

variable {s t u : State} {m n k : Nat}

/-! ### The cells of a store -/

theorem eraseSlot_of_absent {w : List FragRecord} (h : ∀ x ∈ w, slotOf x.seq ≠ n) : eraseSlot n w = w :=
  List.filter_eq_self.2 fun x hx => by simp [h x hx]

/-- A record taken out of its slot takes its cells, and no other record's. -/
theorem storeCells_eraseSlot {w : List FragRecord} (hw : Window.wf w) {r : FragRecord} (hr : r ∈ w) :
    storeCells w = storeCells (eraseSlot (slotOf r.seq) w) + r.cells := by
  induction w with
  | nil => cases hr
  | cons q rest ih =>
    obtain ⟨hlow, hrest⟩ := List.pairwise_cons.1 hw
    have hslot : ∀ x ∈ rest, slotOf q.seq < slotOf x.seq := fun x hx => hlow _ (List.mem_map_of_mem hx)
    rcases List.mem_cons.1 hr with rfl | hr
    · have hout : eraseSlot (slotOf r.seq) (r :: rest) = eraseSlot (slotOf r.seq) rest := List.filter_cons_of_neg (by simp)
      rw [hout, eraseSlot_of_absent fun x hx => (Nat.ne_of_lt (hslot x hx)).symm]
      exact Nat.add_comm _ _
    · have hkeep : eraseSlot (slotOf r.seq) (q :: rest) = q :: eraseSlot (slotOf r.seq) rest :=
        List.filter_cons_of_pos (by simp [Nat.ne_of_lt (hslot r hr)])
      have hsum := ih hrest hr
      simp only [storeCells] at hsum
      rw [hkeep]
      simp only [storeCells, List.map_cons, List.sum_cons, hsum]
      omega

/-- A record placed in an empty slot brings its cells. -/
theorem storeCells_insertRecord {w : List FragRecord} {r : FragRecord} (h : lookup (slotOf r.seq) w = none) :
    storeCells (insertRecord r w) = storeCells w + r.cells := by
  induction w with
  | nil => simp [insertRecord, storeCells]
  | cons q rest ih =>
    have hq : slotOf q.seq ≠ slotOf r.seq := by simpa using (List.find?_eq_none.1 h) q List.mem_cons_self
    have hrest : lookup (slotOf r.seq) rest = none :=
      List.find?_eq_none.2 fun x hx => (List.find?_eq_none.1 h) x (List.mem_cons_of_mem _ hx)
    have hsum := ih hrest
    simp only [storeCells] at hsum
    unfold insertRecord
    split
    · simp only [storeCells, List.map_cons, List.sum_cons]
      omega
    · split
      · exact absurd ‹slotOf r.seq = slotOf q.seq›.symm hq
      · simp only [storeCells, List.map_cons, List.sum_cons, hsum]
        omega

theorem mem_of_lookup {slot : Nat} {w : List FragRecord} {r : FragRecord} (h : lookup slot w = some r) :
    r ∈ w ∧ slotOf r.seq = slot :=
  ⟨List.mem_of_find?_eq_some h, by simpa using List.find?_some h⟩

/-! ### Acts that touch no cells -/

/-- An act that leaves the part's stores alone: the use counts, the frames of the outbound half and the standing request, the
reorder window with NES, synchrony and marks, the Frame Assembler, and the LAN transmit queue. -/
structure StoresSame (s t : State) : Prop where
  usedOut : t.cells.usedOut = s.cells.usedOut
  usedIn : t.cells.usedIn = s.cells.usedIn
  queued : t.queued = s.queued
  split : t.disp.split = s.disp.split
  standing : t.disp.standing = s.disp.standing
  window : t.rx.window = s.rx.window
  nes : t.rx.nes = s.rx.nes
  synced : t.rx.synced = s.rx.synced
  live : t.rx.live = s.rx.live
  asm : t.asm = s.asm
  txQueue : t.lan.txQueue = s.lan.txQueue

theorem StoresSame.refl (s : State) : StoresSame s s := ⟨rfl, rfl, rfl, rfl, rfl, rfl, rfl, rfl, rfl, rfl, rfl⟩

theorem StoresSame.trans (h : StoresSame s t) (k : StoresSame t u) : StoresSame s u :=
  ⟨k.usedOut.trans h.usedOut, k.usedIn.trans h.usedIn, k.queued.trans h.queued, k.split.trans h.split,
    k.standing.trans h.standing, k.window.trans h.window, k.nes.trans h.nes, k.synced.trans h.synced,
    k.live.trans h.live, k.asm.trans h.asm, k.txQueue.trans h.txQueue⟩

/-- An act on the other parts of the state. -/
theorem StoresSame.of_eq (hc : t.cells = s.cells) (hq : t.classes = s.classes) (hd : t.disp = s.disp) (hr : t.rx = s.rx)
    (ha : t.asm = s.asm) (hl : t.lan = s.lan) : StoresSame s t :=
  ⟨by rw [hc], by rw [hc], by simp only [State.queued, State.cls, hq], by rw [hd], by rw [hd], by rw [hr], by rw [hr],
    by rw [hr], by rw [hr], ha, by rw [hl]⟩

theorem raise_stores (i : NoticeInst) (s : State) : StoresSame s (s.raise i) :=
  .of_eq (raise_cells i s) (raise_classes i s) (raise_disp i s) (raise_rx i s) (raise_asm i s) (raise_lan i s)

theorem countBy_stores (c : BondCounter) (n : Nat) (s : State) : StoresSame s (s.countBy c n) :=
  .of_eq rfl rfl rfl rfl rfl rfl

/-- An evaluation touches no use count (R79, R80). -/
theorem evaluate_stores (s : State) : StoresSame s (evaluate s) := by
  have hf := evaluate_frame s
  exact ⟨evaluate_usedOut s, evaluate_usedIn s, by simp only [State.queued, State.cls, hf.classes], by rw [hf.disp],
    by rw [hf.disp], by rw [hf.rx], by rw [hf.rx], by rw [hf.rx], by rw [hf.rx], hf.asm, by rw [hf.lan]⟩

theorem recordGap_stores (g : GapRecord) (s : State) : StoresSame s (recordGap g s) := by
  have hm : ∀ l, StoresSame s (s.modRx fun x => { x with gaps := l }) := fun _ =>
    ⟨rfl, rfl, rfl, rfl, rfl, rfl, rfl, rfl, rfl, rfl, rfl⟩
  unfold recordGap
  split
  · split
    · exact hm _
    · split
      · exact hm _
      · exact countBy_stores _ 1 s
  · exact (hm _).trans (raise_stores _ _)

theorem gapTimerStep_stores (s : State) : StoresSame s (gapTimerStep s) := by
  have hm : ∀ f : Receiver → Option Nat, StoresSame s (s.modRx fun x => { x with gapTimer := f x }) := fun _ =>
    ⟨rfl, rfl, rfl, rfl, rfl, rfl, rfl, rfl, rfl, rfl, rfl⟩
  unfold gapTimerStep
  split
  · split
    · exact hm _
    · exact .refl s
  · exact hm _

theorem modRx_flush_stores (f : Option Seq) (s : State) : StoresSame s (s.modRx fun x => { x with flush := f }) :=
  ⟨rfl, rfl, rfl, rfl, rfl, rfl, rfl, rfl, rfl, rfl, rfl⟩

theorem flushStep_stores (s : State) : StoresSame s (flushStep s) := by
  unfold flushStep
  split
  · split
    · exact (modRx_flush_stores _ s).trans (raise_stores _ _)
    · exact .refl s
  · exact .refl s

theorem endFlush_stores (s : State) : StoresSame s (endFlush s) := by
  unfold endFlush
  split
  · exact (modRx_flush_stores _ s).trans (raise_stores _ _)
  · exact .refl s

theorem modRx_paused_stores (b : Bool) (s : State) : StoresSame s (s.modRx fun x => { x with paused := b }) :=
  ⟨rfl, rfl, rfl, rfl, rfl, rfl, rfl, rfl, rfl, rfl, rfl⟩

theorem recomputeT_stores (s : State) : StoresSame s (recomputeT s) := by
  unfold recomputeT
  split
  · exact .refl s
  · exact ⟨rfl, rfl, rfl, rfl, rfl, rfl, rfl, rfl, rfl, rfl, rfl⟩

/-! ### The store and its cells -/

/-- Every cell in use is held once, but for `m` outbound cells of a frame on its way, and no two records stand in one
slot. -/
structure CellsConserved (m : Nat) (s : State) : Prop where
  canonical : Window.wf s.rx.window
  held : CellsHeld m (storeCells s.rx.window) s

theorem cellsConserved_of (h : CellsAccounted s) (hw : Window.wf s.rx.window) : CellsConserved 0 s :=
  ⟨hw, cellsAccounted_iff.1 h⟩

theorem CellsConserved.accounted (h : CellsConserved 0 s) : CellsAccounted s := cellsAccounted_iff.2 h.held

theorem CellsBeside.same (h : CellsBeside m n s) (k : StoresSame s t) : CellsBeside m n t := by
  refine ⟨?_, ?_, ?_⟩
  · rw [k.usedOut, h.outbound, State.outboundCells, State.outboundCells, k.queued, k.split]
  · rw [k.usedIn, h.inbound, State.lanCells, State.lanCells, k.txQueue]
  · rw [k.standing, k.split]
    exact h.standing

theorem CellsHeld.same (h : CellsHeld m n s) (k : StoresSame s t) : CellsHeld m n t :=
  ⟨k.asm ▸ h.beside.same k, k.asm ▸ h.exact⟩

theorem CellsConserved.same (h : CellsConserved m s) (k : StoresSame s t) : CellsConserved m t :=
  ⟨k.window ▸ h.canonical, k.window ▸ h.held.same k⟩

@[simp] theorem modRx_rx (f : Receiver → Receiver) (s : State) : (s.modRx f).rx = f s.rx := rfl

/-- A change of the Reorder Engine's own state touches no cells beside its store. -/
theorem CellsHeld.modRx (h : CellsHeld m n s) (f : Receiver → Receiver) : CellsHeld m n (s.modRx f) :=
  ⟨⟨h.beside.outbound, h.beside.inbound, h.beside.standing⟩, h.exact⟩

theorem CellsConserved.modRx (h : CellsConserved m s) {f : Receiver → Receiver} (hf : (f s.rx).window = s.rx.window) :
    CellsConserved m (s.modRx f) := by
  have hw : (s.modRx f).rx.window = s.rx.window := hf
  exact ⟨hw ▸ h.canonical, hw ▸ h.held.modRx f⟩

theorem CellsConserved.setNes (h : CellsConserved m s) (q : Seq) : CellsConserved m (s.setNes q) :=
  CellsConserved.modRx (f := fun x => { x with nes := q, gapTimer := none }) h rfl

theorem CellsConserved.setMark (h : CellsConserved m s) (p : PairNo) (q : Option Seq) : CellsConserved m (s.setMark p q) :=
  CellsConserved.modRx (f := fun x => { x with live := x.live.set p.val q }) h rfl

theorem CellsConserved.countBy (h : CellsConserved m s) (c : BondCounter) (n : Nat) : CellsConserved m (s.countBy c n) :=
  h.same (countBy_stores c n s)

/-- An act of the Frame Assembler that takes the cells of no record. -/
theorem CellsConserved.assembler (h : CellsConserved m s) (hr : t.rx = s.rx)
    (ht : CellsHeld m (storeCells s.rx.window) t) : CellsConserved m t := ⟨hr ▸ h.canonical, hr ▸ ht⟩

theorem CellsConserved.asmResync (h : CellsConserved m s) : CellsConserved m (asmResync s) :=
  h.assembler (asmResync_rxSame s).rx h.held.asmResync

/-- A record on its way out of the store holds its own cells. -/
theorem CellsConserved.takeOut (h : CellsConserved m s) {r : FragRecord} (hr : r ∈ s.rx.window) :
    CellsHeld m (storeCells (eraseSlot (slotOf r.seq) s.rx.window) + r.cells) s :=
  storeCells_eraseSlot h.canonical hr ▸ h.held

/-- A record handed on takes its cells to the Frame Assembler (R147). -/
theorem CellsConserved.handOn (h : CellsConserved m s) {r : FragRecord} (hr : r ∈ s.rx.window) :
    CellsConserved m (handOn r s) := by
  have hrx := (asmTake_rxSame r s).rx
  have hout : CellsConserved m ((Machine.asmTake r s).modRx fun x => { x with window := eraseSlot (slotOf r.seq) x.window }) := by
    refine ⟨?_, ?_⟩
    · rw [modRx_rx, hrx]
      exact eraseSlot_wf h.canonical
    · rw [modRx_rx, hrx]
      exact (h.takeOut hr).asmTake.modRx _
  exact hout.setNes _

theorem CellsConserved.declare (h : CellsConserved m s) (f : Seq) (n : Nat) (cause : LossCause) (live : BitVec 8) :
    CellsConserved m (declare f n cause live s) :=
  ((h.assembler (asmLoss_rxSame s).rx h.held.asmLoss).same (recordGap_stores _ _)).countBy _ _

theorem CellsConserved.declareTo (h : CellsConserved m s) (q : Seq) (cause : LossCause) :
    CellsConserved m (declareTo q cause s) := (h.declare _ _ _ _).setNes q

/-! ### The gap step (R149) -/

theorem CellsConserved.gapMove (h : CellsConserved m s) (hm : gapMove s = some t) : CellsConserved m t := by
  unfold Machine.gapMove at hm
  split at hm
  · cases hm
  · split at hm
    · obtain rfl := Option.some.inj hm
      split
      · exact h.same (modRx_paused_stores true s)
      · exact h.handOn (mem_of_lookup ‹_›).1
    · split at hm
      · obtain rfl := Option.some.inj hm
        exact h.declareTo _ _
      · cases hm

theorem CellsConserved.gapMoves (h : CellsConserved m s) (n : Nat) : CellsConserved m (gapMoves n s) := by
  induction n generalizing s with
  | zero => exact h
  | succ n ih =>
    unfold Machine.gapMoves
    split
    · exact h
    · exact ih (h.gapMove ‹_›)

theorem CellsConserved.unsyncStep (h : CellsConserved m s) : CellsConserved m (unsyncStep s) := by
  unfold Machine.unsyncStep
  split
  · exact CellsConserved.asmResync (CellsConserved.modRx (f := fun x => { x with synced := false }) h rfl)
  · exact h

theorem CellsConserved.gapStep (h : CellsConserved m s) : CellsConserved m (gapStep s) :=
  (((h.gapMoves _).same (gapTimerStep_stores _)).same (flushStep_stores _)).unsyncStep

theorem CellsConserved.takeTells (h : CellsConserved m s) (n : Nat) : CellsConserved m (takeTells n s) := by
  induction n generalizing s with
  | zero => exact h
  | succ n ih =>
    unfold Machine.takeTells
    split
    · exact h
    · refine ih (CellsConserved.gapStep (h.same ?_))
      exact ⟨rfl, rfl, rfl, rfl, rfl, rfl, rfl, rfl, rfl, rfl, rfl⟩

theorem CellsConserved.drainTells (h : CellsConserved m s) : CellsConserved m (drainTells s) := h.takeTells _

theorem CellsConserved.rxFollow (h : CellsConserved m s) : CellsConserved m (rxFollow s) := h.gapStep.drainTells

theorem CellsConserved.membershipFollow (h : CellsConserved m s) : CellsConserved m (membershipFollow s) :=
  (h.gapStep.same (recomputeT_stores _)).drainTells

/-! ### Events of the Reorder Engine -/

theorem CellsConserved.rxJoin (h : CellsConserved m s) (p : PairNo) (q : Seq) (e : BitVec 8) :
    CellsConserved m (rxJoin p q e s) := by
  unfold Machine.rxJoin
  split
  · split
    · exact (h.setMark _ _).membershipFollow
    · exact (h.setMark _ _).rxFollow
  · exact CellsConserved.membershipFollow (((CellsConserved.modRx
      (f := fun x => { x with nes := q, peerEpoch := e, synced := true }) h rfl).setMark _ _).countBy _ _)

theorem CellsConserved.rxRemove (h : CellsConserved m s) (p : PairNo) : CellsConserved m (rxRemove p s) := by
  unfold Machine.rxRemove
  split
  · exact (h.setMark _ _).membershipFollow
  · exact h

theorem CellsConserved.advanceMark (h : CellsConserved m s) (p : PairNo) (q : Seq) : CellsConserved m (advanceMark p q s) := by
  unfold Machine.advanceMark
  split
  · split
    · exact h.setMark _ _
    · exact h
  · exact h

theorem CellsConserved.rxProgress (h : CellsConserved m s) (p : PairNo) (q : Seq) : CellsConserved m (rxProgress p q s) := by
  unfold Machine.rxProgress
  split
  · split
    · exact (h.setMark _ _).rxFollow
    · exact h
  · exact h

theorem CellsConserved.rxReport (h : CellsConserved m s) (p : PairNo) : CellsConserved m (rxReport p s) := by
  unfold Machine.rxReport
  split
  · exact (h.same (recomputeT_stores s)).rxFollow
  · exact h

theorem CellsConserved.rxGapTimeout (h : CellsConserved m s) : CellsConserved m (rxGapTimeout s) := by
  unfold Machine.rxGapTimeout
  split
  · split
    · exact ((h.countBy _ 1).declareTo _ _).rxFollow
    · exact h
  · exact h.modRx rfl

theorem CellsConserved.rxFlush (h : CellsConserved m s) (q : Seq) : CellsConserved m (rxFlush q s) :=
  ((h.same (modRx_flush_stores _ s)).countBy _ _).rxFollow

theorem CellsConserved.rxLanFreed (h : CellsConserved m s) : CellsConserved m (rxLanFreed s) :=
  (h.same (modRx_paused_stores false s)).rxFollow

/-- Every record discarded returns its cells (R143, R145). -/
theorem CellsConserved.dropStore (h : CellsConserved m s) (c : Option BondCounter) (n : Nat) :
    CellsConserved m (dropStore c n s) := by
  induction n generalizing s with
  | zero => exact h
  | succ n ih =>
    unfold Machine.dropStore
    split
    · exact h
    · rename_i r hr
      have hout := (h.takeOut (lowestStored_mem hr)).modRx fun x => { x with window := eraseSlot (slotOf r.seq) x.window }
      have hreturned : ∀ v : State, v.rx.window = eraseSlot (slotOf r.seq) s.rx.window →
          CellsHeld m (storeCells (eraseSlot (slotOf r.seq) s.rx.window) + r.cells) v →
          CellsConserved m (returnCells .inbound r.cells v) := fun v hv hheld => by
        have hstill := returnCells_still .inbound r.cells v
        refine ⟨?_, ?_⟩
        · rw [hstill.rx, hv]
          exact eraseSlot_wf h.canonical
        · rw [hstill.rx, hv]
          refine CellsBeside.held (a := v.asm) (CellsBeside.returnCells (k := r.cells) ?_) hstill.asm hheld.exact rfl
          convert hheld.beside using 1
          omega
      cases c with
      | none => exact ih (hreturned _ rfl hout)
      | some c => exact ih (hreturned _ rfl (hout.same (countBy_stores c 1 _)))

theorem CellsConserved.rxPeerRestart (h : CellsConserved m s) : CellsConserved m (rxPeerRestart s) := by
  have hlive := CellsConserved.modRx (f := fun x => { x with live := Vector.replicate 8 none }) h rfl
  unfold Machine.rxPeerRestart
  dsimp only
  refine CellsConserved.drainTells (CellsConserved.same ?_ (endFlush_stores _))
  refine CellsConserved.modRx (f := fun x => { x with synced := false }) (CellsConserved.asmResync ?_) rfl
  refine CellsConserved.modRx (f := fun x => { x with gapTimer := none, paused := false }) ?_ rfl
  split
  · exact (hlive.dropStore _ _).declare _ _ _ _
  · exact hlive

theorem CellsConserved.rxResetBond (h : CellsConserved m s) : CellsConserved m (rxResetBond s) :=
  (h.modRx rfl).same (endFlush_stores _)

/-! ### Arrival of DATA (R136 to R141) -/

/-- A fragment stored in an empty slot takes the cells it has asked for (R137). -/
theorem CellsConserved.storeData (h : CellsConserved m s) {q : Seq} (hempty : lookup (slotOf q) s.rx.window = none)
    (a b : Bool) (l : List Octet) : CellsConserved m (storeData q a b l s) := by
  unfold Machine.storeData
  dsimp only
  split
  · rename_i s' hreq
    have hstill := requestCells_still hreq
    have hheld : CellsHeld m (storeCells s.rx.window + cellsFor l.length) s' := by
      refine CellsBeside.held (a := s.asm) (h.held.beside.requestCells hreq) hstill.asm h.held.exact ?_
      omega
    refine ⟨?_, ?_⟩
    · rw [modRx_rx, hstill.rx]
      exact insertRecord_wf h.canonical
    · rw [modRx_rx, hstill.rx]
      dsimp only
      rw [storeCells_insertRecord hempty]
      exact hheld.modRx _
  · exact h.countBy _ 1

theorem CellsConserved.slideWalk (h : CellsConserved m s) (n : Nat) (t : Seq) : CellsConserved m (slideWalk n t s) := by
  induction n generalizing s with
  | zero => exact h
  | succ n ih =>
    unfold Machine.slideWalk
    split
    · exact h
    · split
      · split
        · split
          · exact ih (h.handOn (lowestStored_mem ‹_›))
          · exact ih (h.declareTo _ _)
        · exact h.declareTo _ _
      · exact h.declareTo _ _

end Sys2Proof.Machine

/-! PROOFS. The window slides to its new front (R140): the walk ends there, so the slot of the fragment that slides it is
empty, and a fragment that arrives keeps every cell held once (R136 to R141). -/

namespace Sys2Proof.Machine

variable {s t u : State} {m : Nat}

/-! ### Distances and slots (R4, R125) -/

/-- From a number on the way, the distance left. -/
theorem dist_sub {a b c : Seq} (h : dist b c ≤ dist a c) : dist a b = dist a c - dist b c := by
  have ha := a.isLt
  have hb := b.isLt
  have hc := c.isLt
  rw [dist_eq_mod] at *
  rw [dist_eq_mod] at *
  rw [dist_eq_mod]
  omega

theorem dist_succ (a : Seq) : dist (a + 1) a = 1 := by
  rw [dist]
  bv_omega

theorem dist_front (q : Seq) : dist q (q - 1023) = 1023 := by
  rw [dist]
  bv_omega

/-- Two numbers of one slot within a window are one number (R125). -/
theorem eq_of_slotOf_eq {a b c : Seq} (h : slotOf a = slotOf b) (ha : dist a c ≤ 1023) (hb : dist b c ≤ 1023) : a = b := by
  have := a.isLt
  have := b.isLt
  have := c.isLt
  rw [dist_eq_mod] at ha hb
  simp only [slotOf, Config.windowSlots] at h
  rw [← BitVec.toNat_inj]
  omega

theorem nearer_le (nes : Seq) (r q : FragRecord) :
    dist (nearer nes r q).seq nes ≤ dist r.seq nes ∧ dist (nearer nes r q).seq nes ≤ dist q.seq nes := by
  unfold nearer
  split <;> omega

theorem foldl_nearer_le {nes : Seq} {q : FragRecord} (a : FragRecord) {l : List FragRecord} (h : q ∈ a :: l) :
    dist (l.foldl (nearer nes) a).seq nes ≤ dist q.seq nes := by
  induction l generalizing a q with
  | nil => rw [List.mem_singleton.1 h, List.foldl_nil]
  | cons b l ih =>
    obtain ⟨ha, hb⟩ := nearer_le nes a b
    have hfirst := ih (q := nearer nes a b) (nearer nes a b) List.mem_cons_self
    rw [List.foldl_cons]
    rcases List.mem_cons.1 h with rfl | h
    · exact hfirst.trans ha
    · rcases List.mem_cons.1 h with rfl | h
      · exact hfirst.trans hb
      · exact ih _ (List.mem_cons_of_mem _ h)

/-- No stored record is nearer to NES than the lowest (R125). -/
theorem lowestStored_min {nes : Seq} {w : List FragRecord} {r : FragRecord} (hr : lowestStored nes w = some r)
    {q : FragRecord} (hq : q ∈ w) : dist r.seq nes ≤ dist q.seq nes := by
  cases w with
  | nil => cases hq
  | cons a l =>
    obtain rfl := Option.some.inj hr
    exact foldl_nearer_le a hq

/-! ### The walk (R140, R141) -/

theorem handOn_window (r : FragRecord) (s : State) :
    (handOn r s).rx.window = eraseSlot (slotOf r.seq) s.rx.window :=
  congrArg (fun x : Receiver => eraseSlot (slotOf r.seq) x.window) (asmTake_rxSame r s).rx

theorem handOn_nes (r : FragRecord) (s : State) : (handOn r s).rx.nes = s.rx.nes + 1 :=
  congrArg (fun x : Receiver => x.nes + 1) (asmTake_rxSame r s).rx

theorem declareTo_window (q : Seq) (cause : LossCause) (s : State) :
    (declareTo q cause s).rx.window = s.rx.window := declare_window _ _ _ _ s

/-- The walk has turns enough left: two for each record, and one more to declare a stretch lost unless NES is stored. -/
def WalkFuel (n : Nat) (s : State) : Prop :=
  2 * s.rx.window.length + 1 ≤ n ∨ 2 * s.rx.window.length ≤ n ∧ ∃ r ∈ s.rx.window, r.seq = s.rx.nes

/-- The walk ends at the new front, and what it leaves stored lies within the window from there (R140). -/
theorem slideWalk_reaches {n : Nat} {front : Seq} (hn : WalkFuel n s)
    (hin : ∀ r ∈ s.rx.window, dist r.seq s.rx.nes ≤ 1023) :
    (slideWalk n front s).rx.nes = front ∧
      ∀ r ∈ (slideWalk n front s).rx.window, r ∈ s.rx.window ∧ dist r.seq front ≤ 1023 := by
  induction n generalizing s with
  | zero =>
    rcases hn with hn | ⟨hn, r, hr, -⟩
    · omega
    · have := List.length_pos_of_mem hr
      omega
  | succ n ih =>
    unfold slideWalk
    split
    · rename_i hnes
      exact ⟨hnes, fun r hr => ⟨hr, hnes ▸ hin r hr⟩⟩
    · split
      · rename_i r hlow
        have hr := lowestStored_mem hlow
        split
        · split
          · rename_i hfirst
            have hlen := eraseSlot_length_lt hr
            have hwin := handOn_window r s
            have hstep := ih (s := handOn r s) (.inl (by rw [hwin]; rcases hn with hn | ⟨hn, -⟩ <;> omega)) ?_
            · exact ⟨hstep.1, fun x hx =>
                ⟨(List.mem_filter.1 (hwin ▸ (hstep.2 x hx).1)).1, (hstep.2 x hx).2⟩⟩
            · intro x hx
              obtain ⟨hx, hslot⟩ := List.mem_filter.1 (hwin ▸ hx)
              have hne : x.seq ≠ s.rx.nes := fun he => by simp [he, hfirst] at hslot
              have hpos : dist x.seq s.rx.nes ≠ 0 := fun h0 => hne ((dist_eq_zero_iff _ _).1 h0)
              have hone := dist_succ s.rx.nes
              rw [handOn_nes, dist_sub (c := s.rx.nes) (by omega)]
              have := hin x hx
              omega
          · rename_i hgap
            have hwin := declareTo_window r.seq .window s
            have hstored : 2 * s.rx.window.length ≤ n := by
              rcases hn with hn | ⟨-, q, hq, hnes⟩
              · omega
              · have hmin := lowestStored_min hlow hq
                rw [hnes, dist_self] at hmin
                exact absurd ((dist_eq_zero_iff _ _).1 (Nat.le_zero.1 hmin)) hgap
            have hstep := ih (s := declareTo r.seq .window s) (.inr ⟨by rw [hwin]; exact hstored, r, hwin ▸ hr, rfl⟩) ?_
            · exact ⟨hstep.1, fun x hx => ⟨hwin ▸ (hstep.2 x hx).1, (hstep.2 x hx).2⟩⟩
            · intro x hx
              have hx : x ∈ s.rx.window := hwin ▸ hx
              show dist x.seq r.seq ≤ 1023
              rw [dist_sub (lowestStored_min hlow hx)]
              have := hin x hx
              omega
        · rename_i hfar
          refine ⟨rfl, fun x hx => ?_⟩
          have hx : x ∈ s.rx.window := declareTo_window front .window s ▸ hx
          have hmin := lowestStored_min hlow hx
          have := hin x hx
          refine ⟨hx, ?_⟩
          rw [dist_sub (c := s.rx.nes) (by omega)]
          omega
      · rename_i hempty
        refine ⟨rfl, fun x hx => ?_⟩
        have hx : x ∈ s.rx.window := declareTo_window front .window s ▸ hx
        rw [lowestStored_none.1 hempty] at hx
        cases hx

/-- After a slide the slot of the fragment beyond the window is empty (R140). -/
theorem slideTo_lookup (hin : ∀ r ∈ s.rx.window, dist r.seq s.rx.nes ≤ 1023) {q : Seq} (hq : 1024 ≤ dist q s.rx.nes) :
    lookup (slotOf q) (slideTo (q - 1023) s).rx.window = none := by
  refine List.find?_eq_none.2 fun r hr => ?_
  obtain ⟨hold, hnew⟩ := (slideWalk_reaches (n := 2 * s.rx.window.length + 2) (.inl (by omega)) hin).2 r hr
  have hold := hin r hold
  intro hslot
  have heq := eq_of_slotOf_eq (by simpa using hslot) hnew (dist_front q).le
  rw [heq] at hold
  omega

/-! ### A fragment that arrives (R136) -/

theorem advanceMark_window (p : PairNo) (m : Seq) (s : State) :
    (advanceMark p m s).rx.window = s.rx.window ∧ (advanceMark p m s).rx.nes = s.rx.nes := by
  unfold advanceMark
  split
  · split <;> exact ⟨rfl, rfl⟩
  · exact ⟨rfl, rfl⟩

/-- DATA that arrives is stored with its cells, or takes none. -/
theorem CellsConserved.rxData (h : CellsConserved m s) (hin : ∀ r ∈ s.rx.window, dist r.seq s.rx.nes ≤ 1023) (p : PairNo)
    (a b : Bool) (q : Seq) (l : List Octet) : CellsConserved m (rxData p a b q l s) := by
  have h0 : CellsConserved m (s.count .dataArrived) := h.countBy _ 1
  unfold Machine.rxData
  dsimp only
  split
  · have h1 := h0.advanceMark p (q + 1)
    obtain ⟨hwin, hnes⟩ := advanceMark_window p (q + 1) (s.count .dataArrived)
    have hin1 : ∀ r ∈ (Machine.advanceMark p (q + 1) (s.count .dataArrived)).rx.window,
        dist r.seq (Machine.advanceMark p (q + 1) (s.count .dataArrived)).rx.nes ≤ 1023 := by
      rw [hwin, hnes]
      exact hin
    split
    · split
      · exact (h1.storeData ‹_› _ _ _).rxFollow
      · exact (h1.countBy _ 1).rxFollow
    · split
      · have hslid : CellsConserved m (slideTo (q - 1023) (Machine.advanceMark p (q + 1) (s.count .dataArrived))) :=
          (h1.slideWalk _ _).same (modRx_paused_stores false _)
        exact ((hslid.storeData (slideTo_lookup hin1 (by omega)) _ _ _).countBy _ 1).rxFollow
      · exact (h1.countBy _ 1).rxFollow
  · exact h0.countBy _ 1

end Sys2Proof.Machine

/-! PROOFS. Cells of the outbound half (R73, R74, R95, R101, R105): a frame admitted, taken by the dispatcher, sent whole and
purged takes its cells with it. -/

namespace Sys2Proof.Machine

variable {s t u : State} {m n k : Nat}

/-! ### Use counts of the outbound side (R74) -/

theorem returnCells_outbound_usedIn (k : Nat) (s : State) :
    (returnCells .outbound k s).cells.usedIn = s.cells.usedIn := evaluate_usedIn _

theorem returnCells_queued (side : Side) (k : Nat) (s : State) : (returnCells side k s).queued = s.queued := by
  simp only [State.queued, State.cls, (returnCells_frame side k s).classes]

/-- A return gives back outbound cells that were in use (R74). -/
theorem CellsConserved.returnOutbound (h : CellsConserved (m + k) s) : CellsConserved m (returnCells .outbound k s) := by
  have hf := returnCells_frame .outbound k s
  obtain ⟨hwf, ⟨⟨hout, hin, hstand⟩, hexact⟩⟩ := h
  refine ⟨by rw [hf.rx]; exact hwf, ⟨⟨?_, ?_, hf.disp ▸ hstand⟩, hf.asm ▸ hexact⟩⟩
  · rw [returnCells_usedOut, hout, State.outboundCells, State.outboundCells, returnCells_queued, hf.disp]
    omega
  · rw [returnCells_outbound_usedIn, hin, hf.rx, hf.asm, State.lanCells, State.lanCells, hf.lan]

/-- A granted request puts outbound cells in use (R74). -/
theorem requestCells_outbound_used (h : requestCells .outbound k s = some t) :
    t.cells.usedOut = s.cells.usedOut + k ∧ t.cells.usedIn = s.cells.usedIn := by
  unfold requestCells at h
  split at h
  · obtain rfl := Option.some.inj h
    exact ⟨evaluate_usedOut _, evaluate_usedIn _⟩
  · cases h

theorem CellsConserved.requestOutbound (h : CellsConserved m s) (hr : requestCells .outbound k s = some t) :
    CellsConserved (m + k) t := by
  have hf := (requestCells_frame hr).2
  obtain ⟨huse, hkeep⟩ := requestCells_outbound_used hr
  obtain ⟨hwf, ⟨⟨hout, hin, hstand⟩, hexact⟩⟩ := h
  refine ⟨by rw [hf.rx]; exact hwf, ⟨⟨?_, ?_, hf.disp ▸ hstand⟩, hf.asm ▸ hexact⟩⟩
  · rw [huse, hout, State.outboundCells, State.outboundCells, State.queued, State.queued, hf.disp]
    simp only [State.cls, hf.classes]
    omega
  · rw [hkeep, hin, hf.rx, hf.asm, State.lanCells, State.lanCells, hf.lan]

/-! ### The dispatcher's frame -/

/-- A change of the dispatcher's state by which the frame being split brings or loses its cells. -/
theorem CellsConserved.modDisp {m' : Nat} (h : CellsConserved m s) {f : Dispatcher → Dispatcher}
    (hcells : m + planCells s.disp.split = m' + planCells (f s.disp).split)
    (hstand : (f s.disp).standing = true → (f s.disp).split = none) : CellsConserved m' (s.modDisp f) := by
  obtain ⟨hwf, ⟨⟨hout, hin, -⟩, hexact⟩⟩ := h
  refine ⟨hwf, ⟨⟨?_, hin, hstand⟩, hexact⟩⟩
  rw [State.outboundCells] at hout
  show s.cells.usedOut = m' + (frameCells s.queued + planCells (f s.disp).split)
  omega

/-- A frame whose cells are on their way becomes the frame being split (R105). -/
theorem CellsConserved.beginSplit {f : OutFrame} (h : CellsConserved (m + f.cells) s) (hs : s.disp.split = none) :
    CellsConserved m (beginSplit f s) :=
  h.modDisp (by rw [hs]; rfl) fun hstand => nomatch hstand

/-- A frame all of whose fragments are placed returns its cells (R116). -/
theorem CellsConserved.finishFrame (h : CellsConserved m s) {plan : SplitPlan}
    (hs : planCells s.disp.split = plan.cells) : CellsConserved m (finishFrame plan s) :=
  CellsConserved.returnOutbound (CellsConserved.same
    (h.modDisp (m' := m + plan.cells) (by rw [hs]; rfl) fun _ => rfl) (countBy_stores _ _ _))

/-! ### The class queues -/

theorem cls_setCls (c : Fin 4) (q : ClassQueue) (s : State) : (s.setCls c q).cls c = q := by
  simp [State.cls, State.setCls]

theorem cls_setCls_ne {c d : Fin 4} (h : d ≠ c) (q : ClassQueue) (s : State) : (s.setCls c q).cls d = s.cls d := by
  have : c.val ≠ d.val := fun e => h (Fin.ext e.symm)
  simp [State.cls, State.setCls, this]

theorem frameCells_queued (s : State) : frameCells s.queued =
    frameCells (s.cls 0).frames + frameCells (s.cls 1).frames + frameCells (s.cls 2).frames + frameCells (s.cls 3).frames := by
  simp [frameCells, State.queued, Nat.add_assoc]

/-- A class queue replaced changes the queued cells by its own. -/
theorem frameCells_setCls (c : Fin 4) (q : ClassQueue) (s : State) :
    frameCells (s.setCls c q).queued + frameCells (s.cls c).frames = frameCells s.queued + frameCells q.frames := by
  rw [frameCells_queued, frameCells_queued]
  match c with
  | 0 | 1 | 2 | 3 =>
    rw [cls_setCls, cls_setCls_ne (by decide), cls_setCls_ne (by decide), cls_setCls_ne (by decide)]
    omega

/-- A class queue replaced by one that holds other cells. -/
theorem CellsConserved.setCls {m' : Nat} (h : CellsConserved m s) {c : Fin 4} {q : ClassQueue}
    (hcells : m + frameCells (s.cls c).frames = m' + frameCells q.frames) : CellsConserved m' (s.setCls c q) := by
  have hset := frameCells_setCls c q s
  obtain ⟨hwf, ⟨⟨hout, hin, hstand⟩, hexact⟩⟩ := h
  refine ⟨hwf, ⟨⟨?_, hin, hstand⟩, hexact⟩⟩
  rw [State.outboundCells] at hout
  show s.cells.usedOut = m' + (frameCells (s.setCls c q).queued + planCells s.disp.split)
  omega

theorem CellsConserved.fillCls {m' : Nat} (h : CellsConserved m s) {c : Fin 4} {q : ClassQueue}
    (hcells : m + frameCells (s.cls c).frames = m' + frameCells q.frames) : CellsConserved m' (fillCls c q s) := by
  unfold Machine.fillCls
  dsimp only
  split
  · exact (h.setCls hcells).same (raise_stores _ _)
  · exact h.setCls hcells

/-- A frame selected takes its cells off its queue (R99). -/
theorem CellsConserved.selectFrame (h : CellsConserved m s) {f : OutFrame} (hs : selectFrame s = some (f, t)) :
    CellsConserved (m + f.cells) t := by
  unfold Machine.selectFrame at hs
  split at hs
  · cases hs
  · rename_i b hb
    dsimp only at hs
    generalize (agedChoice s).getD b = c at hs
    split at hs
    · cases hs
    · rename_i g rest hc
      obtain ⟨rfl, rfl⟩ := Prod.mk.inj (Option.some.inj hs)
      have hset := h.setCls (m' := m + g.cells) (c := c) (q := { s.cls c with frames := rest })
        (by simp only [hc, frameCells, List.map_cons, List.sum_cons]; omega)
      split
      · exact hset
      · exact hset.same (countBy_stores _ 1 _)

/-! ### Purge (R101, R102) -/

theorem returnFrames_usedIn (fs : List OutFrame) (s : State) :
    (returnFrames fs s).cells.usedIn = s.cells.usedIn := by
  induction fs generalizing s with
  | nil => rfl
  | cons f fs ih => exact (ih _).trans (returnCells_outbound_usedIn f.cells s)

/-- Emptying the outbound half leaves the inbound cells and the LAN Port as they are. -/
theorem emptyOutbound_inbound (s : State) :
    (emptyOutbound s).cells.usedIn = s.cells.usedIn ∧ (emptyOutbound s).lan = s.lan := by
  have hin := returnFrames_usedIn s.queued { s with classes := s.classes.map ClassQueue.emptied }
  have hlan := (returnFrames_frame s.queued { s with classes := s.classes.map ClassQueue.emptied }).lan
  unfold emptyOutbound
  dsimp only
  split
  · exact ⟨(returnCells_outbound_usedIn _ _).trans hin, (returnCells_frame _ _ _).lan.trans hlan⟩
  · exact ⟨hin, hlan⟩

/-- With the outbound half empty no outbound cell is in use (R101, R102). -/
theorem CellsConserved.emptyOutbound (h : CellsConserved 0 s) : CellsConserved 0 (emptyOutbound s) := by
  have hstill := emptyOutbound_still s
  obtain ⟨hkeep, hlan⟩ := emptyOutbound_inbound s
  obtain ⟨hwf, ⟨⟨hout, hin, -⟩, hexact⟩⟩ := h
  have hnone : (Machine.emptyOutbound s).outboundCells = 0 := by
    rw [State.outboundCells, frameCells_queued, emptyOutbound_disp]
    simp only [State.cls, emptyOutbound_classes, Vector.getElem_map]
    rfl
  refine ⟨by rw [hstill.rx]; exact hwf, ⟨⟨?_, ?_, ?_⟩, hstill.asm ▸ hexact⟩⟩
  · rw [hnone]
    exact emptyOutbound_usedOut (hout.trans (Nat.zero_add _))
  · rw [hkeep, hin, hstill.rx, hstill.asm, State.lanCells, State.lanCells, hlan]
  · rw [emptyOutbound_disp]
    exact fun _ => rfl

end Sys2Proof.Machine

/-! PROOFS. What each block keeps of the part's stores is kept by every act of the Pair Controller and of the Pair Ports
(chapters 2, 3 and 6): the acts touch the stores only by way of the blocks. -/

namespace Sys2Proof.Machine

variable {p : PairNo} {s t u : State}

/-! ### Acts that leave the stores alone -/

theorem modPort_stores (p : PairNo) (f : Port → Port) (s : State) : StoresSame s (s.modPort p f) :=
  .of_eq rfl rfl rfl rfl rfl rfl

theorem modPair_stores (p : PairNo) (f : Pair → Pair) (s : State) : StoresSame s (s.modPair p f) :=
  .of_eq rfl rfl rfl rfl rfl rfl

theorem race_stores (s : State) : StoresSame s s.race.2 := .of_eq rfl rfl rfl rfl rfl rfl

theorem race_if_stores (b : Bool) (s : State) : StoresSame s (if b then s.race else (false, s)).2 := by
  split
  · exact race_stores s
  · exact .refl s

theorem reach_stores (d : Nat) (s : State) : StoresSame s (s.reach d) := .of_eq rfl rfl rfl rfl rfl rfl

theorem handover_stores (p : PairNo) (s : State) : StoresSame s (handover p s) := by
  unfold handover
  split
  · exact modPort_stores p _ s
  · exact .refl s

theorem stage_stores (p : PairNo) (f : Fragment) (s : State) : StoresSame s (stage p f s) :=
  ((modPort_stores p _ s).trans (modPair_stores p _ _)).trans (handover_stores p _)

theorem place_stores {f : Fragment} (h : place p f s = some t) : StoresSame s t :=
  (place_frame h).2 ▸ stage_stores p f s

theorem placeJoin_stores (p : PairNo) (s : State) : StoresSame s (placeJoin p s) := by
  unfold placeJoin
  split
  · exact (place_stores ‹_›).trans (modPair_stores p _ _)
  · exact modPair_stores p _ s

theorem placeAck_stores (p echo : PairNo) (r : JoinResult) (s : State) : StoresSame s (placeAck p echo r s) := by
  unfold placeAck
  split
  · exact (place_stores ‹_›).trans (modPair_stores p _ _)
  · exact modPair_stores p _ s

theorem placeLeave_stores (p : PairNo) (why : LeaveReason) (s : State) : StoresSame s (placeLeave p why s) := by
  unfold placeLeave
  split
  · exact (place_stores ‹_›).trans (modPair_stores p _ _)
  · exact modPair_stores p _ s

theorem placeProgress_stores (p : PairNo) (s : State) : StoresSame s (placeProgress p s) := by
  unfold placeProgress
  split
  · exact (place_stores ‹_›).trans (modPair_stores p _ _)
  · exact .refl s

theorem renewalTest_stores (p : PairNo) (s : State) : StoresSame s (renewalTest p s) := by
  unfold renewalTest
  split
  · exact (modPair_stores p _ s).trans (placeProgress_stores p _)
  · exact .refl s

theorem renewalTests_stores (s : State) : StoresSame s (renewalTests s) :=
  forPairs_induct (P := StoresSame s) (fun q _ h => h.trans (renewalTest_stores q _)) s (.refl s)

theorem pairRoom_stores (p : PairNo) (s : State) : StoresSame s (pairRoom p s) := by
  have hack : StoresSame s (tryAck p s) := by
    unfold tryAck
    split
    · exact placeAck_stores p _ _ s
    · exact .refl s
  have hjoin : StoresSame s (tryJoin p (tryAck p s)) := by
    unfold tryJoin
    split
    · exact hack.trans (placeJoin_stores p _)
    · exact hack
  have hleave : StoresSame s (tryLeave p (tryJoin p (tryAck p s))) := by
    unfold tryLeave
    split
    · exact hjoin.trans (placeLeave_stores p _ _)
    · exact hjoin
  unfold pairRoom tryRenewal
  split
  · exact hleave.trans (placeProgress_stores p _)
  · exact hleave

theorem startProgress_stores (p : PairNo) (s : State) : StoresSame s (startProgress p s) := by
  unfold startProgress
  split
  · exact modPair_stores p _ s
  · exact .refl s

theorem setOrder_stores (p : PairNo) (o : Order) (s : State) : StoresSame s (setOrder p o s) := by
  unfold setOrder
  split
  · exact .refl s
  · exact (modPort_stores p _ s).trans (modPort_stores p _ _)

theorem emptyQueue_stores (p : PairNo) (s : State) : StoresSame s (emptyQueue p s) := .of_eq rfl rfl rfl rfl rfl rfl

theorem withdraw_stores (p : PairNo) (s : State) : StoresSame s (withdraw p s) := .of_eq rfl rfl rfl rfl rfl rfl

theorem keepReport_stores (p : PairNo) (r : Report) (s : State) : StoresSame s (keepReport p r s) :=
  (modPort_stores p _ s).trans (handover_stores p _)

theorem applyTaken_stores (p : PairNo) (n : Nat) (s : State) : StoresSame s (applyTaken p n s).1 := by
  unfold applyTaken
  dsimp only
  split <;> exact .of_eq rfl rfl rfl rfl rfl rfl

theorem hostDone_stores (p : PairNo) (s : State) : StoresSame s (hostDone p s) := by
  unfold hostDone
  split
  · exact (modPair_stores p _ s).trans (raise_stores _ _)
  · exact .refl s

theorem stopRun_stores (s : State) : StoresSame s (stopRun s) :=
  ⟨rfl, rfl, rfl, rfl, rfl, rfl, rfl, rfl, rfl, rfl, rfl⟩

/-! ### What the blocks keep -/

/-- A property of the stores that every block which touches them keeps: the Reorder Engine by each of its events but the
arrival of DATA, the Class Queues by a purge, and the Fragment Dispatcher by each of its moves. -/
structure KeptByBlocks (P : State → Prop) : Prop where
  same : ∀ {s t}, StoresSame s t → P s → P t
  drainTells : ∀ {s}, P s → P (drainTells s)
  rxRemove : ∀ p {s}, P s → P (rxRemove p s)
  rxJoin : ∀ p q e {s}, P s → P (rxJoin p q e s)
  rxProgress : ∀ p q {s}, P s → P (rxProgress p q s)
  rxReport : ∀ p {s}, P s → P (rxReport p s)
  rxPeerRestart : ∀ {s}, P s → P (rxPeerRestart s)
  emptyOutbound : ∀ {s}, P s → P (emptyOutbound s)
  dispatchMove : ∀ {s t b}, dispatchMove s = some (t, b) → P s → P t

namespace KeptByBlocks

variable {P : State → Prop} (kept : KeptByBlocks P)
include kept

theorem modPort (h : P s) (p : PairNo) (f : Port → Port) : P (s.modPort p f) := kept.same (modPort_stores p f s) h

theorem modPair (h : P s) (p : PairNo) (f : Pair → Pair) : P (s.modPair p f) := kept.same (modPair_stores p f s) h

theorem startTimer (h : P s) (p : PairNo) (k : StateTimer) (ms : Nat) : P (startTimer p k ms s) := kept.modPair h p _

theorem countPair (h : P s) (p : PairNo) (c : PairCounter) : P (s.countPair p c) := kept.modPair h p _

theorem reach (h : P s) (d : Nat) : P (s.reach d) := kept.same (reach_stores d s) h

theorem race_if (h : P s) (b : Bool) : P (if b then s.race else (false, s)).2 := kept.same (race_if_stores b s) h

/-! ### Fragment Dispatcher -/

theorem dispatchRun (h : P s) (n : Nat) (owed : Bool) : P (dispatchRun n owed s) := by
  have hrenew : ∀ {x}, P x → P (renewalTests x) := fun hx => kept.same (renewalTests_stores _) hx
  induction n generalizing owed s with
  | zero =>
    unfold Machine.dispatchRun
    split
    · exact hrenew h
    · exact h
  | succ n ih =>
    cases owed with
    | true =>
      unfold Machine.dispatchRun
      have hr := kept.race_if h s.renewalWanted
      generalize (if s.renewalWanted then s.race else (false, s)) = b at hr
      dsimp only
      split
      · split
        · exact ih (kept.dispatchMove ‹_› hr) _
        · exact ih (hrenew hr) _
      · exact ih (hrenew hr) _
    | false =>
      unfold Machine.dispatchRun
      have hr := kept.race_if h s.mayStop
      generalize (if s.mayStop then s.race else (false, s)) = b at hr
      dsimp only
      split
      · exact kept.same (stopRun_stores _) hr
      · split
        · exact ih (kept.dispatchMove ‹_› hr) _
        · exact hr

theorem dispatch (h : P s) : P (dispatch s) := kept.drainTells (kept.dispatchRun h _ _)

theorem redecide (h : P s) : P (redecide s) := by
  unfold Machine.redecide
  split
  · exact kept.dispatch h
  · exact h

theorem resume (h : P s) (p : PairNo) : P (resume p s) := by
  unfold Machine.resume
  split
  · exact kept.dispatch h
  · exact h

/-! ### Entry to a state (R39) -/

theorem purge (h : P s) {during : State → State} (hd : ∀ {x}, P x → P (during x)) : P (purge during s) :=
  kept.drainTells (hd (kept.emptyOutbound (kept.same (countBy_stores _ _ _) h)))

theorem activeChanged (h : P s) {during : State → State} (hd : ∀ {x}, P x → P (during x)) (n : Nat) :
    P (activeChanged during n s) := by
  have hbond := kept.same (raise_stores .bondState s) h
  unfold Machine.activeChanged
  split
  · split
    · exact h
    · exact hbond
  · split
    · exact kept.purge hbond hd
    · exact h

theorem entering (h : P s) {during : State → State} (hd : ∀ {x}, P x → P (during x)) (p : PairNo) (new : PairState)
    (why : Reason) : P (entering during p new why s) := by
  have h2 := kept.same (setOrder_stores p new.order _) (kept.modPair h p fun r => r.entered new why)
  have hend : ∀ {x}, P x → P ((Machine.handover p x).raise (.pairState p)) := fun hx =>
    kept.same ((handover_stores p _).trans (raise_stores _ _)) hx
  unfold Machine.entering
  dsimp only
  split
  · exact kept.activeChanged (hend (kept.same (emptyQueue_stores p _) h2)) hd _
  · exact kept.activeChanged (hend h2) hd _

/-- Whatever the order of removal and purge, an act that keeps the stores keeps them (R75). -/
theorem withRemoval (h : P s) (p : PairNo) {act : (State → State) → State → State}
    (ha : ∀ during, (∀ {x}, P x → P (during x)) → ∀ {x}, P x → P (act during x)) : P (withRemoval p act s) := by
  have hrace : P s.race.2.race.2 := kept.same ((race_stores s).trans (race_stores _)) h
  unfold Machine.withRemoval
  split
  · dsimp only
    split
    · refine ha _ (fun hx => ?_) hrace
      split
      · exact kept.rxRemove p (kept.drainTells hx)
      · exact kept.rxRemove p hx
    · exact ha id (fun hx => hx) (kept.rxRemove p hrace)
  · exact ha id (fun hx => hx) (kept.rxRemove p h)

theorem enter (h : P s) (p : PairNo) (new : PairState) (why : Reason) : P (enter p new why s) := by
  unfold Machine.enter
  split
  · exact kept.withRemoval h p fun during hd _ hx => kept.entering hx hd p new why
  · exact kept.entering h (fun hx => hx) p new why

theorem park (h : P s) (p : PairNo) : P (park p s) := kept.enter h p _ _

theorem hostDone (h : P s) (p : PairNo) : P (hostDone p s) := kept.same (hostDone_stores p s) h

theorem startParked (h : P s) (p : PairNo) : P (startParked p s) := by
  unfold Machine.startParked
  split
  · split <;> exact kept.enter h p _ _
  · exact kept.modPair h p _

theorem restart (h : P s) (p : PairNo) : P (restart p s) := by
  unfold Machine.restart
  split
  · exact kept.enter h p _ _
  · exact kept.park h p

/-! ### Leaving (R56, R57, R59) -/

theorem enterLeaving (h : P s) {during : State → State} (hd : ∀ {x}, P x → P (during x)) (p : PairNo) (why : Reason)
    (form : LeaveForm) : P (enterLeaving during p why form s) :=
  kept.startTimer (kept.modPair (kept.entering h hd p _ _) p _) p _ _

theorem gracefulLeave (h : P s) (p : PairNo) (why : Reason) : P (gracefulLeave p why s) := by
  have hl := kept.enterLeaving h (during := id) (fun hx => hx) p why .graceful
  unfold Machine.gracefulLeave
  dsimp only
  split
  · exact kept.same (placeLeave_stores p _ _) (kept.modPair hl p _)
  · exact kept.same (placeLeave_stores p _ _) hl

theorem abortLeave (h : P s) (p : PairNo) : P (abortLeave p s) :=
  kept.same ((withdraw_stores p _).trans (placeLeave_stores p _ _))
    (kept.modPair (kept.enterLeaving h (during := id) (fun hx => hx) p .host .abort) p _)

theorem upgradeLeave (h : P s) (p : PairNo) : P (upgradeLeave p s) := by
  have hw : ∀ f, P (Machine.withdraw p ((hostCause p s).modPair p f)) := fun f =>
    kept.same (withdraw_stores p _) (kept.modPair (kept.modPair h p _) p f)
  unfold Machine.upgradeLeave
  dsimp only
  split
  · exact kept.same (pairRoom_stores p _) (hw _)
  · exact kept.same ((placeLeave_stores p _ _).trans (pairRoom_stores p _)) (hw _)

theorem completeLeave (h : P s) (p : PairNo) : P (completeLeave p s) := by
  unfold Machine.completeLeave
  split
  · exact kept.hostDone (kept.park h p) p
  · exact kept.startTimer (kept.enter h p _ _) p _ _

theorem completionTest (h : P s) (p : PairNo) : P (completionTest p s) := by
  unfold Machine.completionTest
  split
  · exact kept.completeLeave h p
  · exact h

theorem leaveRetired (h : P s) (p : PairNo) : P (leaveRetired p s) := by
  unfold Machine.leaveRetired
  split
  · exact kept.completionTest (kept.modPair h p _) p
  · exact h

/-! ### Quarantine, drops, faults (R46, R61 to R64) -/

theorem quarantine (h : P s) (p : PairNo) (why : Reason) : P (quarantine p why s) :=
  kept.startTimer (kept.countPair (kept.modPair (kept.enter h p _ _) p _) p _) p _ _

theorem countRetrain (h : P s) (p : PairNo) : P (countRetrain p s) := kept.modPair (kept.countPair h p _) p _

theorem afterRetrain (h : P s) (p : PairNo) : P (afterRetrain p s) := by
  unfold Machine.afterRetrain
  split
  · exact kept.quarantine h p _
  · exact kept.enter h p _ _

theorem lineDrop (h : P s) (p : PairNo) : P (lineDrop p s) := by
  have h1 := kept.countRetrain (kept.rxRemove p (kept.same (emptyQueue_stores p s) h)) p
  unfold Machine.lineDrop
  dsimp only
  split
  · exact kept.hostDone (kept.park h1 p) p
  · exact kept.afterRetrain h1 p

theorem guardActive (h : P s) (p : PairNo) : P (guardActive p s) := by
  unfold Machine.guardActive
  split
  · exact h
  · exact kept.hostDone (kept.countPair (kept.enter h p _ _) p _) p

theorem guardClear (h : P s) (p : PairNo) : P (guardClear p s) := by
  unfold Machine.guardClear
  split
  · exact kept.restart h p
  · exact h

/-! ### Joining (R45, R47, R53) -/

theorem enterJoining (h : P s) (p : PairNo) (why : Reason) : P (enterJoining p why s) :=
  kept.modPair (kept.same (placeJoin_stores p _) (kept.startTimer (kept.enter h p _ _) p _ _)) p _

theorem settlingRateTest (h : P s) (p : PairNo) : P (settlingRateTest p s) := by
  unfold Machine.settlingRateTest
  split
  · exact kept.enterJoining h p _
  · exact kept.modPair h p _

theorem activeRateTest (h : P s) (p : PairNo) : P (activeRateTest p s) := by
  unfold Machine.activeRateTest
  split
  · exact h
  · exact kept.gracefulLeave h p _

theorem rateTest (h : P s) (p : PairNo) : P (rateTest p s) := by
  unfold Machine.rateTest
  split
  · split
    · exact kept.settlingRateTest h p
    · exact h
  · exact kept.activeRateTest h p
  · exact h

theorem enterActive (h : P s) (p : PairNo) : P (enterActive p s) := by
  have h1 := kept.activeRateTest (kept.enter h p .active (s.pair p).reason) p
  unfold Machine.enterActive
  dsimp only
  split
  · refine kept.same ((renewalTest_stores p _).trans (startProgress_stores p _)) ?_
    generalize Machine.activeRateTest p (Machine.enter p .active (s.pair p).reason s) = v at h1
    have hr := kept.race_if h1 (v.disp.held && v.renewalDue p)
    generalize (if v.disp.held && v.renewalDue p then v.race else (false, v)) = b at hr
    split
    · exact kept.redecide hr
    · exact hr
  · exact h1

theorem activeTest (h : P s) (p : PairNo) : P (activeTest p s) := by
  unfold Machine.activeTest
  split
  · exact kept.enterActive h p
  · exact h

/-! ### Reports (R42, R44 to R46, R55, R61) -/

theorem becamePresent (h : P s) (p : PairNo) : P (becamePresent p s) := by
  have h1 := kept.park h p
  unfold Machine.becamePresent
  dsimp only
  split
  · exact kept.enter h1 p _ _
  · split
    · exact kept.enter h1 p _ _
    · exact h1

theorem pairReport (h : P s) (p : PairNo) (line : LineState) : P (pairReport p line s) := by
  unfold Machine.pairReport
  split
  · split
    · exact kept.startTimer (kept.enter h p _ _) p _ _
    · exact h
  · split
    · exact kept.rateTest h p
    · exact kept.afterRetrain (kept.countRetrain h p) p
  · split
    · exact h
    · exact kept.lineDrop h p
  · split
    · exact h
    · exact kept.lineDrop h p
  · split
    · exact kept.activeRateTest h p
    · exact kept.lineDrop h p
  all_goals exact h

theorem firstReport (h : P s) (p : PairNo) (r : Report) : P (firstReport p r s) :=
  kept.redecide (kept.becamePresent
    (kept.modPort (kept.same (keepReport_stores p r _) (kept.modPort h p _)) p _) p)

theorem laterReport (h : P s) (p : PairNo) (r : Report) : P (laterReport p r s) := by
  have h1 := kept.same (keepReport_stores p r s) h
  have h2 : P (if disagrees ((Machine.keepReport p r s).port p).order r.line then
      Machine.sendOrder p (Machine.keepReport p r s) else Machine.keepReport p r s) := by
    split
    · exact kept.modPort h1 p _
    · exact h1
  unfold Machine.laterReport
  dsimp only
  generalize (if disagrees ((Machine.keepReport p r s).port p).order r.line then
      Machine.sendOrder p (Machine.keepReport p r s) else Machine.keepReport p r s) = v at h2
  have h3 := kept.race_if h2 (v.isLive p && r.line != .showtime)
  generalize (if v.isLive p && r.line != .showtime then v.race else (false, v)) = b at h3
  split
  · exact kept.redecide (kept.pairReport (kept.rxReport p h3) p _)
  · exact kept.rxReport p (kept.redecide (kept.pairReport h3 p _))

/-! ### TAKEN (R28 to R30) -/

theorem tellRetired (h : P s) (p : PairNo) (retired : List Fragment) : P (tellRetired p retired s) := by
  unfold Machine.tellRetired
  induction retired generalizing s with
  | nil => exact h
  | cons f rest ih =>
    cases f with
    | leave => exact ih (kept.leaveRetired h p)
    | _ => exact ih h

theorem roomReport (h : P s) (p : PairNo) : P (roomReport p s) := by
  have hroom : ∀ {x}, P x → P (Machine.pairRoom p x) := fun hx => kept.same (pairRoom_stores p _) hx
  have hr := kept.race_if h (s.disp.held && s.wantsRoom p)
  unfold Machine.roomReport
  generalize (if s.disp.held && s.wantsRoom p then s.race else (false, s)) = b at hr
  dsimp only
  split
  · exact kept.redecide (hroom (kept.redecide hr))
  · exact kept.redecide (hroom hr)

theorem takeTaken (h : P s) (p : PairNo) (n : Nat) : P (takeTaken p n s) := by
  have h2 := kept.tellRetired (kept.same (applyTaken_stores p n s) h) p (Machine.applyTaken p n s).2
  unfold Machine.takeTaken
  dsimp only
  refine kept.same (handover_stores p _) ?_
  have h3 : ∀ b : Bool, P (if b then Machine.roomReport p (Machine.tellRetired p (Machine.applyTaken p n s).2
      (Machine.applyTaken p n s).1) else Machine.tellRetired p (Machine.applyTaken p n s).2 (Machine.applyTaken p n s).1) := by
    intro b
    split
    · exact kept.roomReport h2 p
    · exact h2
  split
  · exact h3 _
  · exact kept.same (startProgress_stores p _) (h3 _)

/-! ### Control fragments (R49 to R51, R58, R60, R65) -/

theorem takeJoinAck (h : P s) (p : PairNo) (b : BitVec 16) (r : JoinResult) : P (takeJoinAck p b r s) := by
  unfold Machine.takeJoinAck
  split
  · split
    · split
      · exact h
      · exact kept.activeTest (kept.modPair h p _) p
    · exact kept.startTimer h p _ _
    · exact kept.quarantine h p _
  · exact h

theorem acceptJoin (h : P s) (p echo : PairNo) (q : Seq) (e : BitVec 8) : P (acceptJoin p echo q e s) :=
  kept.activeTest (kept.rxJoin p q e (kept.same (placeAck_stores p echo .accept s) h)) p

theorem rejoin (h : P s) (p echo : PairNo) (q : Seq) (e : BitVec 8) : P (rejoin p echo q e s) := by
  unfold Machine.rejoin
  split
  · exact kept.hostDone (kept.park h p) p
  · exact kept.acceptJoin (kept.enterJoining h p _) p _ _ _

theorem restartPair (h : P s) (p : PairNo) : P (restartPair p s) := by
  unfold Machine.restartPair
  split
  · exact kept.enterJoining h p _
  · exact kept.enterJoining h p _
  · split
    · exact kept.hostDone (kept.park h p) p
    · exact kept.enterJoining h p _
  · exact h

theorem peerRestart (h : P s) (p echo : PairNo) (q : Seq) (e : BitVec 8) : P (peerRestart p echo q e s) := by
  have h1 : P (forPairs Machine.restartPair ((Machine.rxPeerRestart s).count .peerRestarts)) :=
    forPairs_induct (P := P) (fun r _ hr => kept.restartPair hr r) _
      (kept.same (countBy_stores _ _ _) (kept.rxPeerRestart h))
  unfold Machine.peerRestart
  dsimp only
  split
  · exact kept.acceptJoin h1 p _ _ _
  · exact h1

theorem takeJoin (h : P s) (p echo : PairNo) (q : Seq) (b : BitVec 16) (e : BitVec 8) : P (takeJoin p echo q b e s) := by
  have hack : ∀ r, P (Machine.placeAck p echo r s) := fun r => kept.same (placeAck_stores p echo r s) h
  have hagain : P (if s.rx.synced && e != s.rx.peerEpoch then Machine.peerRestart p echo q e s
      else Machine.rejoin p echo q e s) := by
    split
    · exact kept.peerRestart h p _ _ _
    · exact kept.rejoin h p _ _ _
  unfold Machine.takeJoin
  dsimp only
  split
  · exact hack _
  · split
    · split
      · exact kept.peerRestart h p _ _ _
      · exact kept.acceptJoin h p _ _ _
    · exact hack _
  · split
    · exact hagain
    · exact hack _
  · split
    · exact hagain
    · exact hack _
  all_goals exact h

theorem takeLeave (h : P s) (p : PairNo) : P (takeLeave p s) := by
  unfold Machine.takeLeave
  split
  · exact kept.rxRemove p h
  · exact kept.withRemoval h p fun during hd _ hx =>
      kept.same (placeLeave_stores p _ _) (kept.modPair (kept.enterLeaving hx hd p .peerLeave .graceful) p _)
  · exact kept.completionTest (kept.rxRemove p (kept.modPair h p _)) p
  · exact h

end KeptByBlocks

end Sys2Proof.Machine

/-! PROOFS. Cells are conserved at every step (O58): the blocks keep them, and so does each command of the table. -/

namespace Sys2Proof.Machine

variable {p : PairNo} {s t u : State} {m : Nat}

/-! ### The dispatcher's moves (R104, R105, R115 to R117) -/

theorem placeFragment_split (p : PairNo) (plan : SplitPlan) (s : State) :
    (placeFragment p plan s).disp.split = some plan.advance :=
  (stage_stores p _ _).split

theorem CellsConserved.placeFragment (h : CellsConserved m s) (p : PairNo) {plan : SplitPlan}
    (hs : s.disp.split = some plan) (hstand : s.disp.standing = true → s.disp.split = none) :
    CellsConserved m (placeFragment p plan s) := by
  have hd : CellsConserved m (s.modDisp fun d =>
      { d with next := d.next + 1, split := some plan.advance, held := false, midRun := false }) :=
    h.modDisp (by rw [hs]; rfl) fun hst => by
      rw [hstand hst] at hs
      cases hs
  exact ((hd.same (stage_stores p _ _)).same (modPair_stores p _ _)).countBy _ _

theorem CellsConserved.dispatchMove (h : CellsConserved m s) {b : Bool} (hm : dispatchMove s = some (t, b)) :
    CellsConserved m t := by
  have hstand := h.held.beside.standing
  unfold Machine.dispatchMove at hm
  split at hm
  · rename_i hnone
    split at hm
    · rename_i f v hsel
      obtain ⟨rfl, -⟩ := Prod.mk.inj (Option.some.inj hm)
      exact (h.selectFrame hsel).beginSplit (by rw [(selectFrame_taken hsel).disp, hnone])
    · split at hm
      · cases hm
      · obtain ⟨rfl, -⟩ := Prod.mk.inj (Option.some.inj hm)
        exact h.modDisp rfl fun _ => hnone
  · rename_i plan hplan
    split at hm
    · rename_i q _
      obtain ⟨rfl, -⟩ := Prod.mk.inj (Option.some.inj hm)
      have hp := h.placeFragment q hplan hstand
      split
      · exact hp.finishFrame (by rw [placeFragment_split]; rfl)
      · exact hp
    · split at hm
      · cases hm
      · obtain ⟨rfl, -⟩ := Prod.mk.inj (Option.some.inj hm)
        exact (h.modDisp rfl hstand).countBy _ _

/-- Each block keeps every cell held once. -/
theorem cellsConserved_kept : KeptByBlocks (CellsConserved 0) where
  same k h := h.same k
  drainTells h := h.drainTells
  rxRemove p _ h := h.rxRemove p
  rxJoin p q e _ h := h.rxJoin p q e
  rxProgress p q _ h := h.rxProgress p q
  rxReport p _ h := h.rxReport p
  rxPeerRestart h := h.rxPeerRestart
  emptyOutbound h := h.emptyOutbound
  dispatchMove hm h := h.dispatchMove hm

/-! ### LAN side (R84, R96, R100, R163, R164) -/

theorem CellsConserved.race_if (h : CellsConserved m s) (b : Bool) :
    CellsConserved m (if b then (true, s) else s.race).2 := by
  split
  · exact h
  · exact h.same (race_stores s)

/-- An admitted frame brings the cells granted for it to the dispatcher or to its queue (R96, R100). -/
theorem CellsConserved.admitted {f : OutFrame} (h : CellsConserved (0 + f.cells) s) (c : Fin 4) :
    CellsConserved 0 (admitted c f s) := by
  have hsplit : ∀ x, CellsConserved (0 + f.cells) x → x.disp = s.disp → s.disp.standing = true →
      CellsConserved 0 (Machine.dispatch (Machine.beginSplit f x)) := fun x hx hd hstand =>
    cellsConserved_kept.dispatch (hx.beginSplit (by rw [hd]; exact h.held.beside.standing hstand))
  unfold Machine.admitted
  split
  · rename_i hstand
    have hr := h.race_if s.cells.tells.isEmpty
    have hd : (if s.cells.tells.isEmpty then (true, s) else s.race).2.disp = s.disp := by split <;> rfl
    generalize (if s.cells.tells.isEmpty then (true, s) else s.race) = b at hr hd
    dsimp only
    split
    · exact hsplit _ hr hd hstand
    · exact hsplit _ hr.drainTells ((drainTells_frame _).disp.trans hd) hstand
  · refine CellsConserved.drainTells (h.fillCls ?_)
    simp only [frameCells, List.map_append, List.sum_append, List.map_cons, List.map_nil, List.sum_cons, List.sum_nil]
    omega

theorem CellsConserved.admitFrame (h : CellsConserved 0 s) (c : Fin 4) (octets : List Octet) :
    CellsConserved 0 (admitFrame c octets s) := by
  unfold Machine.admitFrame
  dsimp only
  split
  · exact h.countBy _ 1
  · split
    · exact h.countBy _ 1
    · split
      · rename_i s' hreq
        refine CellsConserved.admitted ?_ c
        exact (h.requestOutbound hreq).same (.of_eq rfl rfl rfl rfl rfl rfl)
      · exact h.countBy _ 1

theorem setRule_stores (i : Fin 64) (r : Rule) (s : State) : StoresSame s (s.setRule i r) := .of_eq rfl rfl rfl rfl rfl rfl

theorem classify_stores (x : Header) (s : State) : StoresSame s (classify x s).1 := by
  unfold classify
  split
  · exact .refl s
  · dsimp only
    split
    · exact (setRule_stores _ _ s).trans (countBy_stores _ 1 _)
    · split
      · exact (setRule_stores _ _ s).trans (countBy_stores _ 1 _)
      · exact setRule_stores _ _ s

theorem CellsConserved.ingress (h : CellsConserved 0 s) (octets : List Octet) : CellsConserved 0 (ingress octets s) := by
  have hc := h.same (classify_stores (headerOf octets) s)
  unfold Machine.ingress
  split
  · rename_i heq
    rw [heq] at hc
    exact hc.admitFrame _ _
  · rename_i heq
    rwa [heq] at hc

theorem CellsConserved.lanFreed (h : CellsConserved m s) : CellsConserved m (lanFreed s) := by
  have hr := h.same (race_stores s)
  rcases lanFreed_cases s with e | e | e <;> rw [e]
  · exact h.rxLanFreed
  · exact hr.rxLanFreed
  · exact hr.drainTells.rxLanFreed

/-- Frames that leave the LAN transmit queue return their cells, in their order, with what else each loss counts. -/
theorem CellsHeld.loseFrames {n : Nat} {lose : State → LanFrame → State}
    (hlose : ∀ x f k, CellsHeld m (k + f.cells) x → CellsHeld m k (lose x f)) (l : List LanFrame) {x : State}
    (h : CellsHeld m (n + (l.map (·.cells)).sum) x) : CellsHeld m n (l.foldl lose x) := by
  induction l generalizing x with
  | nil => exact h
  | cons f l ih =>
    refine ih (hlose x f _ ?_)
    convert h using 1
    simp only [List.map_cons, List.sum_cons]
    omega

theorem foldl_rx {lose : State → LanFrame → State} (hlose : ∀ x f, (lose x f).rx = x.rx) (l : List LanFrame) (x : State) :
    (l.foldl lose x).rx = x.rx := by
  induction l generalizing x with
  | nil => rfl
  | cons f l ih => exact (ih _).trans (hlose x f)

/-- The LAN transmit queue cut to `rest`: the cells of the frames taken off it are on their way. -/
theorem CellsHeld.cutQueue {n k : Nat} (h : CellsHeld m n s) {l : Lan}
    (hcells : k + (l.txQueue.map (·.cells)).sum = n + s.lanCells) : CellsHeld m k { s with lan := l } := by
  obtain ⟨⟨hout, hin, hstand⟩, hexact⟩ := h
  refine ⟨⟨hout, ?_, hstand⟩, hexact⟩
  show s.cells.usedIn = k + s.asm.cells + (l.txQueue.map (·.cells)).sum
  omega

theorem CellsHeld.returnCells {n k : Nat} (h : CellsHeld m (n + k) s) : CellsHeld m n (returnCells .inbound k s) := by
  refine CellsBeside.held (a := s.asm) (CellsBeside.returnCells (k := k) ?_) (returnCells_still _ _ _).asm h.exact rfl
  convert h.beside using 1
  omega

/-- All frames of the LAN transmit queue are lost, each returning its cells (R82, R164, R165). -/
theorem CellsConserved.emptyLan (h : CellsConserved m s) {lose : State → LanFrame → State}
    (hrx : ∀ x f, (lose x f).rx = x.rx) (hlose : ∀ x f k, CellsHeld m (k + f.cells) x → CellsHeld m k (lose x f))
    {l : Lan} (hl : l.txQueue = []) : CellsConserved m (s.lan.txQueue.foldl lose { s with lan := l }) := by
  refine CellsConserved.assembler (s := s) h (foldl_rx hrx _ _) (CellsHeld.loseFrames hlose _ ?_)
  refine h.held.cutQueue ?_
  rw [hl]
  rfl

theorem CellsConserved.linkDown (h : CellsConserved m s) : CellsConserved m (linkDown s) :=
  CellsConserved.lanFreed (h.emptyLan (lose := loseFrame) (fun _ _ => (returnCells_still _ _ _).rx)
    (fun x _ _ hx => (hx.same (countBy_stores .lanDown 1 x)).returnCells) rfl)

theorem CellsConserved.execLanFrameSent (h : CellsConserved m s) (he : execLanFrameSent s = .next t) :
    CellsConserved m t := by
  obtain rfl := (Host.Outcome.next.inj he).symm
  split
  · rename_i f rest _ hq
    refine CellsConserved.lanFreed (CellsConserved.countBy ?_ .lanFramesSent 1)
    refine CellsConserved.assembler h (returnCells_still _ _ _).rx (CellsHeld.returnCells (h.held.cutQueue ?_))
    simp only [State.lanCells, hq, List.map_cons, List.sum_cons]
    omega
  · exact h

theorem CellsConserved.execLanLinkChange (h : CellsConserved m s) (up : Bool) (he : execLanLinkChange up s = .next t) :
    CellsConserved m t := by
  have hlan : ∀ a b : Bool, StoresSame s { s with lan := { s.lan with linkPin := a, linkUp := b } } := fun _ _ =>
    ⟨rfl, rfl, rfl, rfl, rfl, rfl, rfl, rfl, rfl, rfl, rfl⟩
  obtain rfl := (Host.Outcome.next.inj he).symm
  split
  · exact h.same (hlan _ _)
  · dsimp only
    split
    · exact h.same ((hlan _ _).trans (raise_stores _ _))
    · exact (h.same ((hlan _ _).trans (raise_stores _ _))).linkDown

theorem CellsConserved.execLanFrameReceived (h : CellsConserved 0 s) (run : List Octet) (rxError : Bool)
    (he : execLanFrameReceived run rxError s = .next t) : CellsConserved 0 t := by
  have hc : CellsConserved 0 (s.count .lanFramesReceived) := h.countBy _ 1
  obtain rfl := (Host.Outcome.next.inj he).symm
  split
  · exact hc.countBy _ 1
  · split
    · exact hc.countBy _ 1
    · split
      · exact hc.countBy _ 1
      · exact hc.ingress _

/-! ### RESET-BOND (R182) -/

theorem CellsConserved.clearAsm (h : CellsConserved m s) : CellsConserved m (clearAsm s) := by
  have hheld : CellsHeld m (storeCells s.rx.window) (Machine.clearAsm s) := by
    have hb := h.held.beside
    unfold Machine.clearAsm
    split
    · rename_i ha
      rw [ha] at hb
      exact CellsBeside.held (a := .idle) (CellsBeside.returnCells (hb.setAsm _)) (returnCells_still _ _ _).asm
        Assembler.exact_idle rfl
    · rename_i hno
      refine CellsBeside.held (a := .idle) (hb.setAsm _) rfl Assembler.exact_idle ?_
      cases ha : s.asm with
      | collecting octets cells => exact absurd ha (hno octets cells)
      | _ => rfl
  have hrx : (Machine.clearAsm s).rx = s.rx := by
    unfold Machine.clearAsm
    split
    · exact (returnCells_still _ _ _).rx
    · rfl
  exact h.assembler hrx hheld

theorem CellsConserved.emptyInbound (h : CellsConserved m s) : CellsConserved m (emptyInbound s) :=
  CellsConserved.emptyLan ((h.dropStore none _).clearAsm) (lose := fun s (f : LanFrame) => Machine.returnCells .inbound f.cells s)
    (fun _ _ => (returnCells_still _ _ _).rx) (fun _ _ _ hx => hx.returnCells) rfl

theorem CellsConserved.emptyBoth (h : CellsConserved 0 s) : CellsConserved 0 (emptyBoth s) := by
  have hr := cellsConserved_kept.race_if h (s.cells.usedOut ≠ 0 && s.cells.usedIn ≠ 0)
  unfold Machine.emptyBoth
  generalize (if s.cells.usedOut ≠ 0 && s.cells.usedIn ≠ 0 then s.race else (false, s)) = b at hr
  dsimp only
  split
  · exact hr.emptyInbound.emptyOutbound
  · exact hr.emptyOutbound.emptyInbound

theorem CellsConserved.forPairs {f : PairNo → State → State} (hf : ∀ q x, CellsConserved m x → CellsConserved m (f q x))
    (h : CellsConserved m s) : CellsConserved m (forPairs f s) := forPairs_induct hf s h

theorem CellsConserved.resetPair (h : CellsConserved 0 s) (p : PairNo) : CellsConserved 0 (resetPair p s) := by
  unfold Machine.resetPair
  split
  · have h1 := cellsConserved_kept.hostDone (cellsConserved_kept.park h p) p
    dsimp only
    split
    · exact cellsConserved_kept.enter h1 p _ _
    · exact h1
  · exact h

theorem CellsConserved.resetBondAll (h : CellsConserved 0 s) : CellsConserved 0 (resetBondAll s) := by
  have h1 := (CellsConserved.forPairs (f := clearQueue) (fun q x hx => hx.same (modPort_stores q _ x)) h).emptyBoth
  have h2 : CellsConserved 0 ((Machine.rxResetBond (Machine.emptyBoth (Machine.forPairs clearQueue s))).modDisp fun d =>
      { d with next := 0 }) := h1.rxResetBond.modDisp rfl h1.rxResetBond.held.beside.standing
  have hm : ∀ (f : Mgmt → Mgmt) {x : State}, CellsConserved 0 x → CellsConserved 0 (x.modMgmt f) := fun f x hx =>
    hx.same (.of_eq rfl rfl rfl rfl rfl rfl)
  exact CellsConserved.drainTells (CellsConserved.forPairs (fun q x hx => hx.same (modPair_stores q _ x))
    (CellsConserved.forPairs (fun q _ hx => hx.resetPair q) (hm _ h2)))

end Sys2Proof.Machine

/-! PROOFS. Cells are conserved at every step (O58): each request as it is judged, each event, and each command of the
table (R73, R74, R76, R78, R82). -/

namespace Sys2Proof.Machine

variable {p : PairNo} {s t u : State}

/-! ### Requests, each as it is judged -/

theorem modMgmt_stores (f : Mgmt → Mgmt) (s : State) : StoresSame s (s.modMgmt f) := .of_eq rfl rfl rfl rfl rfl rfl

theorem setReason_stores (p : PairNo) (why : Reason) (s : State) : StoresSame s (setReason p why s) := modPair_stores p _ s

/-- A test of a body's length, or of a pair's number, keeps what its judgement keeps (R174, 3.9). -/
theorem withLength_conserved {n : Nat} {body : List Octet} {judge : State → Answer}
    (hj : ∀ x, CellsConserved 0 x → CellsConserved 0 (judge x).state) (h : CellsConserved 0 s) :
    CellsConserved 0 (withLength n body judge s).state := by
  unfold withLength
  split
  · exact hj s h
  · exact h

theorem withPair_conserved {body : List Octet} {judge : PairNo → State → Answer}
    (hj : ∀ p x, CellsConserved 0 x → CellsConserved 0 (judge p x).state) (h : CellsConserved 0 s) :
    CellsConserved 0 (withPair body judge s).state := by
  unfold withPair
  split
  · exact h
  · split
    · exact hj _ s h
    · exact h

theorem judgeConfigureBond_conserved (body : List Octet) (h : CellsConserved 0 s) :
    CellsConserved 0 (judgeConfigureBond body s).state := by
  have ha : StoresSame s (applySettings (askedSettings body s) s) := by
    obtain ⟨a, b, c, d, e, f, g, i, j, k, l, m, heq, -⟩ := askedSettings_shape body s
    rw [heq]
    exact .of_eq rfl rfl rfl rfl rfl rfl
  have hset : CellsConserved 0 (recomputeT (applySettings (askedSettings body s) s)) := (h.same ha).same (recomputeT_stores _)
  unfold judgeConfigureBond
  split
  · exact h
  · split
    · exact h
    · split
      · exact h
      · exact hset

theorem judgeRelease_conserved (h : CellsConserved 0 s) : CellsConserved 0 (judgeRelease s).state := by
  unfold judgeRelease
  split
  · exact h
  · rw [done_state]
    refine CellsConserved.forPairs (fun q x hx => ?_) (h.same (modMgmt_stores _ s))
    unfold releasePair
    split
    · exact cellsConserved_kept.startParked hx q
    · exact hx

theorem judgeConfigurePair_conserved (body : List Octet) (p : PairNo) (h : CellsConserved 0 s) :
    CellsConserved 0 (judgeConfigurePair body p s).state :=
  cellsConserved_kept.redecide (cellsConserved_kept.rateTest (cellsConserved_kept.modPair h p _) p)

theorem judgeEnablePair_conserved (p : PairNo) (h : CellsConserved 0 s) :
    CellsConserved 0 (judgeEnablePair p s).state := by
  have hm := cellsConserved_kept.modPair h p fun r => { r with enabled := true }
  unfold judgeEnablePair
  dsimp only
  split
  · exact h
  · show CellsConserved 0 (if _ then _ else _)
    split
    · exact cellsConserved_kept.startParked hm p
    · exact hm

theorem disable_conserved (abort : Bool) (p : PairNo) (h : CellsConserved 0 s) :
    CellsConserved 0 (disable abort p s).state := by
  have hm := cellsConserved_kept.modPair h p fun r => { r with enabled := false }
  have hup := cellsConserved_kept.redecide (cellsConserved_kept.upgradeLeave h p)
  have hpark := cellsConserved_kept.redecide (cellsConserved_kept.park hm p)
  have hleave : CellsConserved 0 (redecide (if abort then abortLeave p s else gracefulLeave p .host s)) := by
    split
    · exact cellsConserved_kept.redecide (cellsConserved_kept.abortLeave h p)
    · exact cellsConserved_kept.redecide (cellsConserved_kept.gracefulLeave h p _)
  unfold disable
  dsimp only
  split
  · exact hm
  · exact hm
  · exact hm.same (setReason_stores p _ _)
  · exact hpark
  · exact hpark
  · exact hpark
  · exact hpark
  · exact hleave
  · split
    · split
      · exact hup
      · exact h
    · split
      · exact hup
      · have hcause : StoresSame s (hostCause p s) := modPair_stores p _ s
        exact h.same (hcause.trans (setReason_stores p _ _))

theorem judgeDisablePair_conserved (body : List Octet) (h : CellsConserved 0 s) :
    CellsConserved 0 (judgeDisablePair body s).state := by
  unfold judgeDisablePair
  split
  · split
    · exact disable_conserved _ _ h
    · exact h
  · exact h

theorem judgeConfigureMemory_conserved (body : List Octet) (h : CellsConserved 0 s) :
    CellsConserved 0 (judgeConfigureMemory body s).state := by
  have hc : StoresSame s { s with cells := { s.cells with rOut := field body 0 2, rIn := field body 2 2 } } :=
    ⟨rfl, rfl, rfl, rfl, rfl, rfl, rfl, rfl, rfl, rfl, rfl⟩
  unfold judgeConfigureMemory
  dsimp only
  split
  · exact h
  · split
    · exact h
    · exact (h.same (hc.trans (evaluate_stores _))).drainTells

theorem judgeWriteRule_conserved (body : List Octet) (h : CellsConserved 0 s) :
    CellsConserved 0 (judgeWriteRule body s).state := by
  unfold judgeWriteRule
  dsimp only
  split
  · split
    · exact h
    · exact h.same (setRule_stores _ _ s)
  · exact h

theorem judgeConfigureClass_conserved (body : List Octet) (h : CellsConserved 0 s) :
    CellsConserved 0 (judgeConfigureClass body s).state := by
  unfold judgeConfigureClass
  dsimp only
  split
  · exact h.fillCls rfl
  · exact h

theorem resetBondDone_conserved (h : CellsConserved 0 s) : CellsConserved 0 (done [] (resetBondAll s)).state := by
  rw [done_state]
  exact h.resetBondAll

theorem judgeFlushReorder_conserved (h : CellsConserved 0 s) : CellsConserved 0 (judgeFlushReorder s).state := by
  unfold judgeFlushReorder
  split
  · exact h
  · exact h
  · exact h.rxFlush _

theorem judgeReadGaps_conserved (h : CellsConserved 0 s) : CellsConserved 0 (judgeReadGaps s).state :=
  h.same ⟨rfl, rfl, rfl, rfl, rfl, rfl, rfl, rfl, rfl, rfl, rfl⟩

theorem judgeSetNotices_conserved (body : List Octet) (h : CellsConserved 0 s) :
    CellsConserved 0 (judgeSetNotices body s).state := by
  unfold judgeSetNotices
  dsimp only
  split
  · exact h
  · rw [done_state]
    exact h.same (modMgmt_stores _ s)

theorem judgeReadCounters_conserved (body : List Octet) (h : CellsConserved 0 s) :
    CellsConserved 0 (judgeReadCounters body s).state := by
  unfold judgeReadCounters
  dsimp only
  split
  · exact h
  · split
    · show CellsConserved 0 (if _ then _ else _)
      split
      · exact h.same (.of_eq rfl rfl rfl rfl rfl rfl)
      · exact h
    · split
      · show CellsConserved 0 (if _ then _ else _)
        split
        · exact h.same (modPair_stores _ _ s)
        · exact h
      · exact h

/-- A message taken, judged and answered: the link's queues hold no cells (R173). -/
theorem intake_conserved {judge : State → Answer} (hj : ∀ x, CellsConserved 0 x → CellsConserved 0 (judge x).state)
    (msg : Message) (h : CellsConserved 0 s) : CellsConserved 0 (intake msg judge s) := by
  unfold intake
  split
  · exact (hj _ (h.same (modMgmt_stores _ s))).same (modMgmt_stores _ _)
  · exact h

theorem request_conserved {judge : State → Answer} (hj : ∀ x, CellsConserved 0 x → CellsConserved 0 (judge x).state)
    {msg : Message} {n : Nat} {body : List Octet} (h : CellsConserved 0 s)
    (he : (.next (intake msg (withLength n body judge) s) : Host.Outcome State Fault Refusal) = .next t) :
    CellsConserved 0 t :=
  Host.Outcome.next.inj he ▸ intake_conserved (fun _ hx => withLength_conserved hj hx) msg h

/-- A request whose answer only reports. -/
theorem report_conserved {judge : State → Answer} (hj : ∀ x, (judge x).state = x) {msg : Message} {n : Nat}
    {body : List Octet} (h : CellsConserved 0 s)
    (he : (.next (intake msg (withLength n body judge) s) : Host.Outcome State Fault Refusal) = .next t) :
    CellsConserved 0 t := request_conserved (fun x hx => (hj x).symm ▸ hx) h he

/-! ### The framer (R170, R171) -/

theorem acceptMessage_stores (msg : Message) (s : State) : StoresSame s (acceptMessage msg s) := by
  unfold acceptMessage
  split
  · exact modMgmt_stores _ s
  · exact countBy_stores _ 1 s

theorem setFramer_stores (x : Framer) (s : State) : StoresSame s (s.setFramer x) := modMgmt_stores _ s

theorem rescan_stores (n : Nat) (l : List Octet) (s : State) : StoresSame s (rescan n l s) := by
  induction n generalizing l s with
  | zero => exact setFramer_stores _ s
  | succ n ih =>
    cases l with
    | nil => exact setFramer_stores _ s
    | cons o rest =>
      unfold rescan
      split
      · exact ih _ s
      · split
        · exact setFramer_stores _ s
        · split
          · exact (countBy_stores _ 1 s).trans (ih _ _)
          · split
            · exact setFramer_stores _ s
            · split
              · exact (acceptMessage_stores _ s).trans (ih _ _)
              · exact (countBy_stores _ 1 s).trans (ih _ _)

theorem testFrame_stores (s : State) : StoresSame s (testFrame s) := by
  unfold testFrame
  split
  · split
    · split
      · exact (setFramer_stores _ s).trans (acceptMessage_stores _ _)
      · exact (countBy_stores _ 1 s).trans (rescan_stores _ _ _)
    · exact .refl s
  · exact .refl s

theorem abandonFrame_stores (s : State) : StoresSame s (abandonFrame s) := by
  unfold abandonFrame
  dsimp only
  split
  · exact testFrame_stores s
  · exact ((testFrame_stores s).trans (setFramer_stores _ _)).trans (countBy_stores _ 1 _)

theorem feed_stores (o : Octet) (s : State) : StoresSame s (feed o s) := by
  unfold feed
  split
  · exact setFramer_stores _ s
  · split
    · exact setFramer_stores _ s
    · exact (countBy_stores _ 1 s).trans (setFramer_stores _ _)
  · exact setFramer_stores _ s

theorem execMgmtOctetReceived_stores (octet : Octet) (stopBit : Bool)
    (he : execMgmtOctetReceived octet stopBit s = .next t) : StoresSame s t := by
  obtain rfl := (Host.Outcome.next.inj he).symm
  split
  · exact ((testFrame_stores s).trans (modMgmt_stores _ _)).trans (feed_stores octet _)
  · split
    · exact (testFrame_stores s).trans (feed_stores octet _)
    · exact abandonFrame_stores s

theorem buildNotice_stores (s : State) : StoresSame s (buildNotice s) := by
  unfold buildNotice
  split
  · split
    · exact .of_eq rfl rfl rfl rfl rfl rfl
    · exact .refl s
  · exact .refl s

/-! ### RESET (R82, R181) -/

theorem cellsConserved_resetWith (straps : Straps) : CellsConserved 0 (State.resetWith straps) where
  canonical := window_wf_nil
  held := by
    refine ⟨⟨?_, rfl, fun _ => rfl⟩, Assembler.exact_idle⟩
    rw [State.outboundCells, frameCells_queued]
    simp only [State.cls, State.resetWith, Vector.getElem_replicate]
    rfl

theorem execReset_conserved (straps : Straps) (he : execReset straps s = .next t) : CellsConserved 0 t := by
  obtain rfl := (Host.Outcome.next.inj he).symm
  have h0 : CellsConserved 0 { State.resetWith straps with pending := s.pending, freeCount := s.freeCount } :=
    (cellsConserved_resetWith straps).same (.of_eq rfl rfl rfl rfl rfl rfl)
  have h1 := CellsConserved.forPairs (f := sampleGuard s) (fun q x hx => hx.same (modPort_stores q _ x)) h0
  unfold sampleLink
  split
  · refine h1.same (StoresSame.trans ?_ (raise_stores _ _))
    exact ⟨rfl, rfl, rfl, rfl, rfl, rfl, rfl, rfl, rfl, rfl, rfl⟩
  · exact h1

/-! ### Events at a port or a pair -/

section Events

variable {P : State → Prop} (kept : KeptByBlocks P)
include kept

/-- What the blocks keep is kept by every message but DATA, where an arrival of DATA keeps it too (R13, R15). -/
theorem KeptByBlocks.receive (h : P s) (p : PairNo) (octets : List Octet)
    (hdata : ∀ a b q l, P (rxData p a b q l (s.countPair p .fragmentsReceived))) : P (receive p octets s) := by
  have h1 := kept.countPair h p .fragmentsReceived
  unfold Machine.receive
  dsimp only
  split
  · exact kept.countPair h1 p _
  · exact kept.countPair h1 p _
  · rename_i f _
    refine kept.redecide ?_
    cases f with
    | data a b q l => exact hdata a b q l
    | join q b echo e => exact kept.takeJoin h1 p _ _ _ _
    | joinAck b _ r => exact kept.takeJoinAck h1 p _ _
    | leave _ => exact kept.takeLeave h1 p
    | progress q => exact kept.rxProgress p q h1

theorem KeptByBlocks.execReport (h : P s) (p : PairNo) (line : LineState) (up down : BitVec 16)
    (upDelay downDelay : BitVec 8) (he : execReport p line up down upDelay downDelay s = .next t) : P t := by
  obtain rfl := (Host.Outcome.next.inj he).symm
  split
  · split
    · exact kept.laterReport h p _
    · exact kept.firstReport h p _
  · exact h

theorem KeptByBlocks.execTaken (h : P s) (p : PairNo) (octets : BitVec 16) (he : execTaken p octets s = .next t) : P t := by
  obtain rfl := (Host.Outcome.next.inj he).symm
  split
  · exact kept.takeTaken h p _
  · exact h

theorem KeptByBlocks.execSilenceTimerExpiry (h : P s) (p : PairNo) (he : execSilenceTimerExpiry p s = .next t) : P t := by
  obtain rfl := (Host.Outcome.next.inj he).symm
  split
  · exact kept.redecide (kept.hostDone (kept.enter (kept.modPort (kept.same (emptyQueue_stores p _)
      (kept.modPort (kept.reach h _) p _)) p _) p _ _) p)
  · exact h

theorem KeptByBlocks.execGuardAssertTimerExpiry (h : P s) (p : PairNo) (he : execGuardAssertTimerExpiry p s = .next t) :
    P t := by
  obtain rfl := (Host.Outcome.next.inj he).symm
  split
  · exact kept.redecide (kept.guardActive (kept.modPort (kept.reach h _) p _) p)
  · exact h

theorem KeptByBlocks.execGuardClearTimerExpiry (h : P s) (p : PairNo) (he : execGuardClearTimerExpiry p s = .next t) :
    P t := by
  obtain rfl := (Host.Outcome.next.inj he).symm
  split
  · exact kept.redecide (kept.guardClear (kept.modPort (kept.reach h _) p _) p)
  · exact h

theorem KeptByBlocks.execHoldoffTimerExpiry (h : P s) (p : PairNo) (he : execHoldoffTimerExpiry p s = .next t) : P t := by
  obtain rfl := (Host.Outcome.next.inj he).symm
  split
  · exact kept.redecide (kept.settlingRateTest (kept.modPair (kept.reach h _) p _) p)
  · exact h

theorem KeptByBlocks.execJoinTimerExpiry (h : P s) (p : PairNo) (he : execJoinTimerExpiry p s = .next t) : P t := by
  obtain rfl := (Host.Outcome.next.inj he).symm
  split
  · exact kept.redecide (kept.quarantine (kept.reach h _) p _)
  · exact h

theorem KeptByBlocks.execJoinRepeatTimerExpiry (h : P s) (p : PairNo) (he : execJoinRepeatTimerExpiry p s = .next t) :
    P t := by
  obtain rfl := (Host.Outcome.next.inj he).symm
  split
  · have h1 := kept.modPair (kept.reach h ‹Nat›) p fun r =>
      { r with joinRepeat := some ((s.reach ‹Nat›).now + Config.joinRepeatMs) }
    have h2 := kept.same (placeJoin_stores p _) h1
    dsimp only
    split
    · exact h1
    · split
      · exact kept.resume h2 p
      · exact h2
  · exact h

theorem KeptByBlocks.execLeaveTimerExpiry (h : P s) (p : PairNo) (he : execLeaveTimerExpiry p s = .next t) : P t := by
  obtain rfl := (Host.Outcome.next.inj he).symm
  split
  · exact kept.redecide (kept.completeLeave (kept.countPair (kept.reach h _) p _) p)
  · exact h

theorem KeptByBlocks.execPenaltyTimerExpiry (h : P s) (p : PairNo) (he : execPenaltyTimerExpiry p s = .next t) : P t := by
  obtain rfl := (Host.Outcome.next.inj he).symm
  split
  · exact kept.redecide (kept.restart (kept.reach h _) p)
  · exact h

theorem KeptByBlocks.execProgressTimerExpiry (h : P s) (p : PairNo) (he : execProgressTimerExpiry p s = .next t) : P t := by
  obtain rfl := (Host.Outcome.next.inj he).symm
  split
  · exact kept.redecide (kept.same (placeProgress_stores p _) (kept.modPair (kept.reach h _) p _))
  · exact h

end Events

theorem CellsConserved.execGapTimerExpiry (h : CellsConserved 0 s) (he : execGapTimerExpiry s = .next t) :
    CellsConserved 0 t := by
  obtain rfl := (Host.Outcome.next.inj he).symm
  split
  · exact (h.same (reach_stores _ s)).rxGapTimeout
  · exact h

/-- A fragment received keeps the cells, where the records of the store lie within the window (R13, R125). -/
theorem CellsConserved.execFragmentReceived (h : CellsConserved 0 s)
    (hin : ∀ r ∈ s.rx.window, dist r.seq s.rx.nes ≤ 1023) (p : PairNo) (octets : List Octet)
    (he : execFragmentReceived p octets s = .next t) : CellsConserved 0 t := by
  obtain rfl := (Host.Outcome.next.inj he).symm
  split
  · refine cellsConserved_kept.receive h p octets fun a b q l => ?_
    exact CellsConserved.rxData (cellsConserved_kept.countPair h p _) hin p a b q l
  · exact h

/-! ### The commands of the table -/

/-- Every command keeps every cell held once. -/
theorem CellsConserved.exec (h : CellsConserved 0 s) (hin : ∀ r ∈ s.rx.window, dist r.seq s.rx.nes ≤ 1023) (c : Instr)
    (he : exec c s = .next t) : CellsConserved 0 t := by
  have same : ∀ {x}, (.next x : Host.Outcome State Fault Refusal) = .next t → StoresSame s x → CellsConserved 0 t :=
    fun hx k => Host.Outcome.next.inj hx ▸ h.same k
  have idle : ∀ {b : Bool} {x}, StoresSame s x → StoresSame s (if b then s else x) := fun k => by
    split
    · exact .refl s
    · exact k
  have busy : ∀ {b : Bool} {x}, StoresSame s x → StoresSame s (if b then x else s) := fun k => by
    split
    · exact k
    · exact .refl s
  cases c with
  | reset straps => exact execReset_conserved straps he
  | mgmtFrameComplete => exact same he (testFrame_stores s)
  | characterGapTimeout => exact same he (idle (abandonFrame_stores s))
  | spiTransferEnd => exact same he (busy (abandonFrame_stores s))
  | messageSent => exact same he (modMgmt_stores _ s)
  | unknownRequest kind tag body =>
    obtain rfl := (Host.Outcome.next.inj he).symm
    split
    · exact h
    · exact intake_conserved (fun _ hx => hx) _ h
  | identify => exact report_conserved (judge := fun x => done (identity x) x) (fun _ => rfl) h he
  | configureBond _ body => exact request_conserved (fun _ hx => judgeConfigureBond_conserved body hx) h he
  | release => exact request_conserved (fun _ hx => judgeRelease_conserved hx) h he
  | resetBond => exact request_conserved (judge := fun x => done [] (Machine.resetBondAll x)) (fun _ hx => resetBondDone_conserved hx) h he
  | configurePair _ body =>
    exact request_conserved (fun _ hx => withPair_conserved (fun q _ => judgeConfigurePair_conserved body q) hx) h he
  | enablePair => exact request_conserved (fun _ hx => withPair_conserved (fun q _ => judgeEnablePair_conserved q) hx) h he
  | disablePair _ body => exact request_conserved (fun _ hx => judgeDisablePair_conserved body hx) h he
  | probePair _ body => exact report_conserved (judgeProbePair_state body) h he
  | configureMemory _ body => exact request_conserved (fun _ hx => judgeConfigureMemory_conserved body hx) h he
  | writeRule _ body => exact request_conserved (fun _ hx => judgeWriteRule_conserved body hx) h he
  | readRule _ body => exact report_conserved (judgeReadRule_state body) h he
  | tryClassify _ body => exact report_conserved (judgeTryClassify_state body) h he
  | configureClass _ body => exact request_conserved (fun _ hx => judgeConfigureClass_conserved body hx) h he
  | flushReorder => exact request_conserved (fun _ hx => judgeFlushReorder_conserved hx) h he
  | readGaps => exact request_conserved (fun _ hx => judgeReadGaps_conserved hx) h he
  | setNotices _ body => exact request_conserved (fun _ hx => judgeSetNotices_conserved body hx) h he
  | readPair _ body => exact report_conserved (judgeReadPair_state body) h he
  | readBond => exact report_conserved (judge := fun x => done (bondRecord x) x) (fun _ => rfl) h he
  | readCounters _ body => exact request_conserved (fun _ hx => judgeReadCounters_conserved body hx) h he
  | noticeBuild => exact same he (buildNotice_stores s)
  | report p line up down upDelay downDelay => exact cellsConserved_kept.execReport h p line up down upDelay downDelay he
  | taken p octets => exact cellsConserved_kept.execTaken h p octets he
  | fragmentReceived p octets => exact h.execFragmentReceived hin p octets he
  | portUnknownMessage => exact same he (.refl s)
  | silenceTimerExpiry p => exact cellsConserved_kept.execSilenceTimerExpiry h p he
  | lineGuardChange p level => exact same he (modPort_stores p _ s)
  | guardAssertTimerExpiry p => exact cellsConserved_kept.execGuardAssertTimerExpiry h p he
  | guardClearTimerExpiry p => exact cellsConserved_kept.execGuardClearTimerExpiry h p he
  | holdoffTimerExpiry p => exact cellsConserved_kept.execHoldoffTimerExpiry h p he
  | joinTimerExpiry p => exact cellsConserved_kept.execJoinTimerExpiry h p he
  | joinRepeatTimerExpiry p => exact cellsConserved_kept.execJoinRepeatTimerExpiry h p he
  | leaveTimerExpiry p => exact cellsConserved_kept.execLeaveTimerExpiry h p he
  | penaltyTimerExpiry p => exact cellsConserved_kept.execPenaltyTimerExpiry h p he
  | progressTimerExpiry p => exact cellsConserved_kept.execProgressTimerExpiry h p he
  | gapTimerExpiry => exact h.execGapTimerExpiry he
  | lanFrameReceived run rxError => exact h.execLanFrameReceived run rxError he
  | lanFrameSent => exact h.execLanFrameSent he
  | lanLinkChange up => exact h.execLanLinkChange up he
  | mgmtOctetReceived octet stopBit => exact h.same (execMgmtOctetReceived_stores octet stopBit he)

/-! ### The obligation -/

/-- Settles O58: every command keeps the cells where the window law holds; the tick and the commands that wait hold none. -/
theorem cellsAreConserved : Obligations.CellsAreConserved := by
  unfold Obligations.CellsAreConserved
  intro s t hlaw hcells he
  have h := cellsConserved_of hcells hlaw.canonical
  unfold step at he
  split at he
  · exact ((Host.Outcome.next.inj he) ▸ h.same (t := tick s) (.of_eq rfl rfl rfl rfl rfl rfl)).accounted
  · rename_i c rest _
    have hrest : CellsConserved 0 { s with pending := rest } := h.same (.of_eq rfl rfl rfl rfl rfl rfl)
    exact (hrest.exec hlaw.within c he).accounted

end Sys2Proof.Machine

/-! PROOFS. The Cell Memory (O19): requests, returns and the evaluation that follows them (R73, R74, R79, R80), and
CONFIGURE-MEMORY (R81, R152). -/

namespace Sys2Proof.Machine

variable {s t u : State} {n k : Nat}

/-! ### The evaluation (R79, R80) -/

/-- The pressure the counts give is kept, and a change is told. -/
theorem evalPressure_cells (s : State) : (evalPressure s).cells = { s.cells with
    pressure := s.cells.pressed,
    tells := s.cells.tells ++ if s.cells.pressed = s.cells.pressure then [] else [s.cells.pressed] } := by
  unfold evalPressure
  split
  · rename_i h
    rw [List.append_nil, h]
  · dsimp only
    split <;> rfl

/-- The beginning of pressure is counted. -/
theorem evalPressure_entries (s : State) : (evalPressure s).counter .pressureEntries =
    if s.cells.pressure = false ∧ s.cells.pressed = true then countUp (s.counter .pressureEntries) 1
    else s.counter .pressureEntries := by
  unfold evalPressure
  cases hp : s.cells.pressure <;> cases hn : s.cells.pressed
  · rfl
  · exact counter_countBy ..
  · rfl
  · rfl

theorem evalLevel_cells (s : State) : (evalLevel s).cells = { s.cells with level := s.cells.levelNow } := by
  unfold evalLevel
  split
  · rename_i h
    rw [h]
  · exact congrArg (fun c : Cells => { c with level := s.cells.levelNow }) (raise_cells .storeLevel s)

/-- A change of the store level raises STORE-LEVEL. -/
theorem evalLevel_raised (s : State) : (evalLevel s).occurrences .storeLevel =
    if s.cells.levelNow = s.cells.level ∨ s.mgmt.mask.getLsbD 4 = true then s.occurrences .storeLevel
    else min (s.occurrences .storeLevel + 1) 255 := by
  unfold evalLevel
  by_cases hl : s.cells.levelNow = s.cells.level
  · rw [if_pos hl, if_pos (.inl hl)]
  · rw [if_neg hl]
    show (s.raise .storeLevel).occurrences .storeLevel = _
    cases hm : s.mgmt.mask.getLsbD 4 with
    | true => rw [raise_masked (i := .storeLevel) (by exact hm), if_pos (.inr rfl)]
    | false => rw [raise_unmasked (i := .storeLevel) (by exact hm), if_neg (by simp [hl])]

theorem evaluate_cells (s : State) : (evaluate s).cells = { s.cells with
    pressure := s.cells.pressed, level := s.cells.levelNow,
    tells := s.cells.tells ++ if s.cells.pressed = s.cells.pressure then [] else [s.cells.pressed] } := by
  rw [evaluate, evalLevel_cells, evalPressure_cells]
  rfl

theorem evaluate_entries (s : State) : (evaluate s).counter .pressureEntries =
    if s.cells.pressure = false ∧ s.cells.pressed = true then countUp (s.counter .pressureEntries) 1
    else s.counter .pressureEntries := by
  rw [← evalPressure_entries, evaluate, evalLevel]
  split
  · rfl
  · simp only [State.counter, raise_counters]

theorem evaluate_raised (s : State) : (evaluate s).occurrences .storeLevel =
    if s.cells.levelNow = s.cells.level ∨ s.mgmt.mask.getLsbD 4 = true then s.occurrences .storeLevel
    else min (s.occurrences .storeLevel + 1) 255 := by
  have hlevel : (evalPressure s).cells.levelNow = s.cells.levelNow := by rw [evalPressure_cells]; rfl
  have hold : (evalPressure s).cells.level = s.cells.level := by rw [evalPressure_cells]
  have hmgmt : (evalPressure s).mgmt = s.mgmt := by
    unfold evalPressure
    split
    · rfl
    · dsimp only
      split <;> rfl
  rw [evaluate, evalLevel_raised, hlevel, hold, State.occurrences, hmgmt, State.occurrences]

/-- The store level as the counts stand, by the table of R80. -/
theorem levelNow_eq (c : Cells) : c.levelNow =
    if c.usedIn = 0 then .empty
    else if c.availIn < 24 then .pressure
    else if (c.rIn + (3072 - c.rOut - c.rIn)) / 2 ≤ c.usedIn then .half
    else .low := by
  have hpressed : c.pressed = decide (c.availIn < 24) := rfl
  rw [Cells.levelNow, hpressed]
  simp only [decide_eq_true_eq]
  rfl

/-- An evaluation is one of R79 and R80, seen from any state of the same pressure, level and notices. -/
theorem evaluated_evaluate {c : Cells} (hp : c.pressure = s.cells.pressure) (hl : c.level = s.cells.level)
    (ht : c.tells = s.cells.tells) : Evaluated s (evaluate { s with cells := c }) := by
  have hcells := evaluate_cells { s with cells := c }
  have hentries := evaluate_entries { s with cells := c }
  have hraised := evaluate_raised { s with cells := c }
  refine ⟨?_, ?_, ?_, ?_, ?_⟩
  · rw [hcells]
    rfl
  · rw [hcells]
    exact levelNow_eq c
  · rw [hentries, hcells, ← hp]
    rfl
  · rw [hcells, ← ht, ← hp]
  · rw [hraised, hcells, ← hl]
    rfl

/-! ### Requests and returns (R73, R74) -/

/-- A use count set and evaluated: nothing else of the part changes (R74). -/
theorem setUsed_evaluate (side : Side) (n : Nat) (s : State) :
    let t := evaluate { s with cells := s.cells.setUsed side n }
    CellsFrame s t ∧ Evaluated s t ∧ t.cells.used side = n ∧
      (∀ other, other ≠ side → t.cells.used other = s.cells.used other) ∧ t.cells.rOut = s.cells.rOut ∧
      t.cells.rIn = s.cells.rIn := by
  have hcells := evaluate_cells { s with cells := s.cells.setUsed side n }
  have hframe : CellsFrame s (evaluate { s with cells := s.cells.setUsed side n }) :=
    CellsFrame.trans (by constructor <;> rfl) (evaluate_frame _)
  refine ⟨hframe, ?_, ?_, fun other ho => ?_, ?_, ?_⟩
  · cases side <;> exact evaluated_evaluate rfl rfl rfl
  · rw [hcells]
    cases side <;> rfl
  · rw [hcells]
    cases side <;> cases other
    · exact absurd rfl ho
    · rfl
    · rfl
    · exact absurd rfl ho
  · rw [hcells]
    cases side <;> rfl
  · rw [hcells]
    cases side <;> rfl

/-! ### Pressure events over an empty store (R152) -/

/-- The cells are evaluated, no inbound cell is in use, and no record is stored. -/
structure CellsSettled (s : State) : Prop where
  usedIn : s.cells.usedIn = 0
  pressure : s.cells.pressed = s.cells.pressure
  level : s.cells.levelNow = s.cells.level
  store : s.rx.window = []

/-- Cells, the count of pressure entries and the pressure told stand as they stood. -/
structure PressureSame (s t : State) : Prop where
  cells : t.cells = s.cells
  entries : t.counter .pressureEntries = s.counter .pressureEntries
  flag : t.rx.pressureFlag = s.rx.pressureFlag

theorem PressureSame.trans (h : PressureSame s t) (k : PressureSame t u) : PressureSame s u :=
  ⟨k.cells.trans h.cells, k.entries.trans h.entries, k.flag.trans h.flag⟩

theorem modRx_pressure {f : Receiver → Receiver} (hf : (f s.rx).pressureFlag = s.rx.pressureFlag) :
    PressureSame s (s.modRx f) := ⟨rfl, rfl, hf⟩

theorem raise_pressure (i : NoticeInst) (s : State) : PressureSame s (s.raise i) :=
  ⟨raise_cells i s, by simp only [State.counter, raise_counters], by rw [raise_rx]⟩

/-- A return of cells where none is in use changes nothing. -/
theorem returnCells_of_settled (h : CellsSettled s) (k : Nat) : returnCells .inbound k s = s := by
  have hset : s.cells.setUsed .inbound (s.cells.used .inbound - k) = s.cells := by
    rw [Cells.used, h.usedIn, Nat.zero_sub, ← h.usedIn]
    rfl
  rw [returnCells, hset]
  show evaluate s = s
  rw [evaluate, evalPressure, if_pos h.pressure, evalLevel, if_pos h.level]

theorem asmResync_pressure (h : CellsSettled s) : PressureSame s (asmResync s) := by
  unfold asmResync asmDiscard
  split
  · rw [returnCells_of_settled (s := s.count .broken) ⟨h.usedIn, h.pressure, h.level, h.store⟩]
    exact ⟨rfl, counter_countBy_ne (by decide) 1 s, rfl⟩
  · exact ⟨rfl, rfl, rfl⟩

theorem gapTimerStep_pressure (s : State) : PressureSame s (gapTimerStep s) := by
  unfold gapTimerStep
  split
  · split <;> exact ⟨rfl, rfl, rfl⟩
  · exact ⟨rfl, rfl, rfl⟩

theorem flushStep_pressure (s : State) : PressureSame s (flushStep s) := by
  unfold flushStep
  split
  · split
    · exact (modRx_pressure rfl).trans (raise_pressure _ _)
    · exact ⟨rfl, rfl, rfl⟩
  · exact ⟨rfl, rfl, rfl⟩

theorem CellsSettled.after (h : CellsSettled s) (hc : t.cells = s.cells) (hw : t.rx.window = []) : CellsSettled t :=
  ⟨by rw [hc, h.usedIn], by rw [hc, h.pressure], by rw [hc, h.level], hw⟩

/-- A gap step over an empty store brings no change of the cells (R149). -/
theorem gapStep_pressure (h : CellsSettled s) : PressureSame s (gapStep s) ∧ CellsSettled (gapStep s) := by
  have hk : PressureSame s (flushStep (gapTimerStep s)) := (gapTimerStep_pressure s).trans (flushStep_pressure _)
  have hw : (flushStep (gapTimerStep s)).rx.window = [] :=
    (((gapTimerStep_sync s).trans (flushStep_sync _)).store h.store).1
  have hsame : PressureSame s (gapStep s) := by
    rw [gapStep_of_gapMove_none (gapMove_of_empty h.store)]
    refine hk.trans ?_
    generalize flushStep (gapTimerStep s) = v at hk hw
    have hv := h.after hk.cells hw
    unfold unsyncStep
    split
    · exact (modRx_pressure rfl).trans (asmResync_pressure ⟨hv.usedIn, hv.pressure, hv.level, hv.store⟩)
    · exact ⟨rfl, rfl, rfl⟩
  exact ⟨hsame, h.after hsame.cells ((gapStep_sync s).store h.store).1⟩

theorem takeTells_of_nil (h : s.cells.tells = []) (n : Nat) : takeTells n s = s := by
  cases n with
  | zero => rfl
  | succ n => rw [takeTells, h]

/-- The pressure events taken over an empty store change none of what the evaluation has set but the list of them (R152). -/
theorem takeTells_settled (h : CellsSettled s) (n : Nat) :
    (takeTells n s).cells = { s.cells with tells := (takeTells n s).cells.tells } ∧
    (takeTells n s).counter .pressureEntries = s.counter .pressureEntries := by
  induction n generalizing s with
  | zero => exact ⟨rfl, rfl⟩
  | succ n ih =>
    unfold takeTells
    split
    · exact ⟨rfl, rfl⟩
    · rename_i b rest _
      have htaken : CellsSettled { s with cells := { s.cells with tells := rest }, rx := { s.rx with pressureFlag := b } } :=
        ⟨h.usedIn, h.pressure, h.level, h.store⟩
      obtain ⟨hsame, hsettled⟩ := gapStep_pressure htaken
      obtain ⟨hcells, hentries⟩ := ih hsettled
      refine ⟨?_, hentries.trans hsame.entries⟩
      rw [hcells, hsame.cells]

/-- The last pressure event told is the pressure the Reorder Engine then holds (R152). -/
theorem takeTells_flag (h : CellsSettled s) {b : Bool} (ht : s.cells.tells = [b]) (n : Nat) :
    (takeTells (n + 1) s).rx.pressureFlag = b := by
  have htaken : CellsSettled { s with cells := { s.cells with tells := [] }, rx := { s.rx with pressureFlag := b } } :=
    ⟨h.usedIn, h.pressure, h.level, h.store⟩
  obtain ⟨hsame, -⟩ := gapStep_pressure htaken
  rw [takeTells, ht]
  dsimp only
  rw [takeTells_of_nil (by rw [hsame.cells])]
  exact hsame.flag

/-! ### CONFIGURE-MEMORY (R81) -/

/-- The reserves replaced. -/
def State.setReserves (rOut rIn : Nat) (s : State) : State := { s with cells := { s.cells with rOut := rOut, rIn := rIn } }

/-- The reserves asked for are out of their range (R81). -/
def ReservesBad (body : List Octet) : Prop :=
  field body 0 2 < 12 ∨ field body 2 2 < 12 ∨ 3072 < field body 0 2 + field body 2 2

/-- The partition cannot change: the part is released, or cells are in use (R81). -/
def State.PartitionFixed (s : State) : Prop := s.mgmt.released = true ∨ s.cells.usedOut ≠ 0 ∨ s.cells.usedIn ≠ 0

theorem reservesBad_iff (body : List Octet) :
    (field body 0 2 < 12 || field body 2 2 < 12 || decide (Config.poolCells < field body 0 2 + field body 2 2)) = true ↔
      ReservesBad body := by
  simp only [Bool.or_eq_true, decide_eq_true_eq, or_assoc]
  exact Iff.rfl

theorem partitionFixed_iff (s : State) :
    (s.mgmt.released || s.cells.usedOut != 0 || s.cells.usedIn != 0) = true ↔ s.PartitionFixed := by
  simp only [Bool.or_eq_true, bne_iff_ne, or_assoc]
  exact Iff.rfl

theorem judgeConfigureMemory_bad {body : List Octet} (h : ReservesBad body) (s : State) :
    judgeConfigureMemory body s = refuse .refusedRange s := if_pos ((reservesBad_iff body).2 h)

theorem judgeConfigureMemory_fixed {body : List Octet} (h : ¬ReservesBad body) (hf : s.PartitionFixed) :
    judgeConfigureMemory body s = refuse .refusedState s :=
  (if_neg (mt (reservesBad_iff body).1 h)).trans (if_pos ((partitionFixed_iff s).2 hf))

theorem judgeConfigureMemory_done {body : List Octet} (h : ¬ReservesBad body) (hf : ¬s.PartitionFixed) :
    judgeConfigureMemory body s =
      done [] (drainTells (evaluate (s.setReserves (field body 0 2) (field body 2 2)))) :=
  (if_neg (mt (reservesBad_iff body).1 h)).trans (if_neg (mt (partitionFixed_iff s).1 hf))

/-- What new reserves bring to a part without cells in use: pressure and level evaluated, and the pressure told (R79, R80,
R152). -/
theorem reserved_evaluated {rOut rIn : Nat} (hsum : rOut + rIn ≤ 3072) (hout : s.cells.usedOut = 0)
    (hin : s.cells.usedIn = 0) (hw : s.rx.window = []) :
    let t := drainTells (evaluate (s.setReserves rOut rIn))
    t.cells.rOut = rOut ∧ t.cells.rIn = rIn ∧ t.cells.pressure = decide (3072 - rOut < 24) ∧ t.cells.level = .empty ∧
      (s.cells.tells = [] → s.rx.pressureFlag = s.cells.pressure → t.rx.pressureFlag = t.cells.pressure) ∧
      t.counter .pressureEntries = (if s.cells.pressure = false ∧ t.cells.pressure = true
        then countUp (s.counter .pressureEntries) 1 else s.counter .pressureEntries) := by
  have hcells := evaluate_cells (s.setReserves rOut rIn)
  have hentries := evaluate_entries (s.setReserves rOut rIn)
  have hframe := evaluate_frame (s.setReserves rOut rIn)
  have hpressed : (s.setReserves rOut rIn).cells.pressed = decide (3072 - rOut < 24) := by
    simp only [State.setReserves, Cells.pressed, Cells.availIn, Cells.sharedFree, Cells.shared, Cells.overOut,
      Cells.overIn, hout, hin, Config.pressureBelow, Config.poolCells]
    congr 1
    exact propext ⟨fun h => by omega, fun h => by omega⟩
  have hlevel : (s.setReserves rOut rIn).cells.levelNow = .empty := if_pos hin
  have hsettled : CellsSettled (evaluate (s.setReserves rOut rIn)) := by
    refine ⟨?_, ?_, ?_, ?_⟩
    · rw [evaluate_usedIn]
      exact hin
    · rw [hcells]
      rfl
    · rw [hcells]
      rfl
    · rw [hframe.rx]
      exact hw
  have htells : (evaluate (s.setReserves rOut rIn)).cells.tells =
      s.cells.tells ++ if decide (3072 - rOut < 24) = s.cells.pressure then [] else [decide (3072 - rOut < 24)] := by
    rw [hcells, hpressed]
    rfl
  rw [hpressed] at hentries
  rw [hpressed, hlevel] at hcells
  unfold drainTells
  generalize (evaluate (s.setReserves rOut rIn)).rx.window.length = len
  generalize evaluate (s.setReserves rOut rIn) = e at *
  obtain ⟨hdrain, hcount⟩ := takeTells_settled hsettled (e.cells.tells.length + 16 * (len + 1))
  have hpressure : (takeTells (e.cells.tells.length + 16 * (len + 1)) e).cells.pressure = decide (3072 - rOut < 24) := by
    rw [hdrain, hcells]
  refine ⟨by rw [hdrain, hcells]; rfl, by rw [hdrain, hcells]; rfl, hpressure, by rw [hdrain, hcells], fun ht hflag => ?_, ?_⟩
  · rw [hpressure]
    rw [ht, List.nil_append] at htells
    by_cases hp : decide (3072 - rOut < 24) = s.cells.pressure
    · rw [if_pos hp] at htells
      rw [takeTells_of_nil htells, hframe.rx, hp]
      exact hflag
    · rw [if_neg hp] at htells
      have hn : e.cells.tells.length + 16 * (len + 1) = 16 * (len + 1) + 1 := by
        rw [htells]
        exact Nat.add_comm _ _
      rw [hn]
      exact takeTells_flag hsettled htells _
  · rw [hcount, hentries, hpressure]
    rfl

/-- A change of the inbound path between two answers is one of the inbound path (R173). -/
theorem InboundFrame.replied (h : InboundFrame s t) (m : Message) (status : Status) (result : List Octet) :
    InboundFrame (s.replied m status result) (t.replied m status result) := by
  obtain ⟨hpending, hnow, hmgmt, hcfg, hports, hpairs, hrules, hclasses, horder, hdisp, hlan, hfree⟩ := h
  refine ⟨hpending, hnow, ?_, hcfg, hports, hpairs, hrules, hclasses, horder, hdisp, hlan, hfree⟩
  simp only [State.replied, pushOut, State.modMgmt, replyTo]
  rw [hmgmt]

theorem setReserves_frame (rOut rIn : Nat) (s : State) : InboundFrame s (s.setReserves rOut rIn) := by
  constructor <;> rfl

/-- A CONFIGURE-MEMORY that is ready is judged without its message, and its answer is placed (R81, R173). -/
theorem exec_configureMemory {tag : Octet} {body : List Octet} (hlen : body.length = 4)
    (hready : ReadyFor ⟨0x18, tag, body⟩ s) : exec (.configureMemory tag body) s =
      .next ((judgeConfigureMemory body (removeHead s)).placed ⟨0x18, tag, body⟩) := by
  show Host.Outcome.next (intake _ _ s) = _
  rw [intake_of_ready hready, withLength, if_pos hlen]

/-! ### The obligation -/

/-- Settles O19: the evaluation after a use count is set, and the request by its three tests. -/
theorem cellsAreSharedOut : Obligations.CellsAreSharedOut := by
  unfold Obligations.CellsAreSharedOut
  refine ⟨fun s side n => ?_, fun s tag body hlen hready => ?_⟩
  · cases side with
    | outbound => exact ⟨fun h => requestCells_none.2 h, fun h => ⟨_, if_pos h, setUsed_evaluate .outbound _ s⟩,
        setUsed_evaluate .outbound _ s⟩
    | inbound => exact ⟨fun h => requestCells_none.2 h, fun h => ⟨_, if_pos h, setUsed_evaluate .inbound _ s⟩,
        setUsed_evaluate .inbound _ s⟩
  · rw [exec_configureMemory hlen hready]
    refine ⟨fun hbad => ?_, fun hbad hfixed => ?_, fun hbad hfixed hw => ?_⟩
    · rw [judgeConfigureMemory_bad hbad]
      exact congrArg _ (refuse_placed _ _ s)
    · rw [judgeConfigureMemory_fixed (s := removeHead s) hbad hfixed]
      exact congrArg _ (refuse_placed _ _ s)
    · rw [judgeConfigureMemory_done (s := removeHead s) hbad hfixed]
      have hsum : field body 0 2 + field body 2 2 ≤ 3072 := Nat.not_lt.1 fun h => hbad (.inr (.inr h))
      have hnone : s.cells.usedOut = 0 ∧ s.cells.usedIn = 0 :=
        ⟨not_not.1 fun h => hfixed (.inr (.inl h)), not_not.1 fun h => hfixed (.inr (.inr h))⟩
      obtain ⟨hout, hin, hpressure, hlevel, hflag, hentries⟩ := reserved_evaluated (s := removeHead s) hsum hnone.1 hnone.2 hw
      have hframe := ((setReserves_frame (field body 0 2) (field body 2 2) (removeHead s)).trans
        (evaluate_frame _).inbound).trans (drainTells_frame _)
      exact ⟨_, rfl, hout, hin, hpressure, hlevel, hflag, hentries, hframe.replied _ .ok []⟩

end Sys2Proof.Machine

/-! PROOFS. The Frame Assembler's table (R161, R162, R78): what each of its acts makes of the Assembler, the inbound cells,
the LAN transmit queue and its counters, said of the state it is reached from. -/

namespace Sys2Proof.Machine

variable {s t u : State} {n k : Nat}

/-! ### Where a state stands in the table -/

/-- The counters of the Assembler's table and of the acceptance of its frames (R161, R162, R163, R78). -/
def tableCounters : List BondCounter :=
  [.orphan, .truncated, .broken, .assemblyOversize, .assemblyMalformed, .assemblyNoCells, .framesDelivered, .lanDown]

/-- The counters of the table have places of their own (10.4). -/
theorem tableCounters_place_ne : ∀ c ∈ tableCounters, ∀ d ∈ tableCounters, d ≠ c → d.place ≠ c.place := by decide

/-- The evaluation counts the beginning of pressure only (R79, R80). -/
theorem evaluate_counters {c : BondCounter} (hc : c.place ≠ BondCounter.pressureEntries.place) (s : State) :
    (evaluate s).counter c = s.counter c := by
  have hlevel : ∀ x : State, (evalLevel x).counter c = x.counter c := fun x => by
    unfold evalLevel
    split
    · rfl
    · simp only [State.counter, raise_counters]
  rw [evaluate, hlevel]
  unfold evalPressure
  split
  · rfl
  · dsimp only
    split
    · exact counter_countBy_ne hc 1 s
    · rfl

/-- The cells the inbound side could use as the outbound side stands (R73). -/
def Cells.inboundLimit (c : Cells) : Nat := c.rIn + (c.shared - c.overOut)

theorem availIn_eq (c : Cells) : c.availIn = c.inboundLimit - c.usedIn := by
  simp only [Cells.availIn, Cells.sharedFree, Cells.overIn, Cells.inboundLimit]
  omega

/-- State `t`, reached from `s`: the Assembler's state, the inbound cells in use, the frames waiting for the LAN Port, and
the counters that have counted one event since `s`. -/
structure Stands (s : State) (a : Assembler) (used : Nat) (frames : List LanFrame) (counted : List BondCounter)
    (t : State) : Prop where
  asm : t.asm = a
  usedIn : t.cells.usedIn = used
  frames : t.lan.txQueue = frames
  limit : t.cells.inboundLimit = s.cells.inboundLimit
  linkUp : t.lan.linkUp = s.lan.linkUp
  table : counted ⊆ tableCounters
  counts : ∀ c ∈ counted, t.counter c = countUp (s.counter c) 1
  others : ∀ c ∈ tableCounters, c ∉ counted → t.counter c = s.counter c

variable {a b : Assembler} {used : Nat} {frames : List LanFrame} {counted : List BondCounter}

namespace Stands

theorem refl (s : State) : Stands s s.asm s.cells.usedIn s.lan.txQueue [] s :=
  ⟨rfl, rfl, rfl, rfl, rfl, List.nil_subset _, fun _ hc => absurd hc List.not_mem_nil, fun _ _ _ => rfl⟩

/-- An act that leaves Assembler, LAN transmit queue, use counts, reserves and counters alone. -/
theorem of_eq (h : Stands s a used frames counted t) (ha : u.asm = t.asm) (hl : u.lan = t.lan) (hu : u.cells.usedIn = t.cells.usedIn)
    (hlimit : u.cells.inboundLimit = t.cells.inboundLimit) (hc : u.counters = t.counters) :
    Stands s a used frames counted u :=
  ⟨ha.trans h.asm, hu.trans h.usedIn, (congrArg Lan.txQueue hl).trans h.frames, hlimit.trans h.limit,
    (congrArg Lan.linkUp hl).trans h.linkUp, h.table, fun c hm => by rw [← h.counts c hm, State.counter, State.counter, hc],
    fun c hm hn => by rw [← h.others c hm hn, State.counter, State.counter, hc]⟩

theorem modRx (h : Stands s a used frames counted t) (f : Receiver → Receiver) :
    Stands s a used frames counted (t.modRx f) := h.of_eq rfl rfl rfl rfl rfl

theorem raise (h : Stands s a used frames counted t) (i : NoticeInst) : Stands s a used frames counted (t.raise i) :=
  h.of_eq (raise_asm i t) (raise_lan i t) (by rw [raise_cells]) (by rw [raise_cells]) (raise_counters i t)

theorem setAsm (h : Stands s a used frames counted t) (b : Assembler) : Stands s b used frames counted (t.setAsm b) :=
  ⟨rfl, h.usedIn, h.frames, h.limit, h.linkUp, h.table, h.counts, h.others⟩

/-- A counter outside the table counts. -/
theorem count_other {c : BondCounter} (h : Stands s a used frames counted t)
    (hc : ∀ d ∈ tableCounters, d.place ≠ c.place) : Stands s a used frames counted (t.count c) :=
  ⟨h.asm, h.usedIn, h.frames, h.limit, h.linkUp, h.table,
    fun d hd => (counter_countBy_ne (hc d (h.table hd)) 1 t).trans (h.counts d hd),
    fun d hd hn => (counter_countBy_ne (hc d hd) 1 t).trans (h.others d hd hn)⟩

/-- A counter of the table that has not counted yet counts. -/
theorem count {c : BondCounter} (h : Stands s a used frames counted t)
    (hc : c ∈ tableCounters) (hnew : c ∉ counted) : Stands s a used frames (c :: counted) (t.count c) := by
  refine ⟨h.asm, h.usedIn, h.frames, h.limit, h.linkUp, List.cons_subset.2 ⟨hc, h.table⟩, fun d hd => ?_, fun d hd hn => ?_⟩
  · obtain rfl | hd := List.mem_cons.1 hd
    · exact (counter_countBy d 1 t).trans (by rw [h.others d hc hnew])
    · have hne : d ≠ c := fun e => hnew (e ▸ hd)
      exact (counter_countBy_ne (tableCounters_place_ne c hc d (h.table hd) hne) 1 t).trans (h.counts d hd)
  · rw [List.mem_cons, not_or] at hn
    exact (counter_countBy_ne (tableCounters_place_ne c hc d hd hn.1) 1 t).trans (h.others d hd hn.2)

/-! ### Requests and returns (R74) -/

theorem setUsed (h : Stands s a used frames counted t) (n : Nat) :
    Stands s a n frames counted (evaluate { t with cells := t.cells.setUsed .inbound n }) := by
  have hcells := evaluate_cells { t with cells := t.cells.setUsed .inbound n }
  have hframe := evaluate_frame { t with cells := t.cells.setUsed .inbound n }
  have hplace : ∀ c ∈ tableCounters, c.place ≠ BondCounter.pressureEntries.place := by decide
  refine ⟨hframe.asm.trans h.asm, ?_, (congrArg Lan.txQueue hframe.lan).trans h.frames, ?_,
    (congrArg Lan.linkUp hframe.lan).trans h.linkUp, h.table,
    fun c hc => (evaluate_counters (hplace c (h.table hc)) _).trans (h.counts c hc),
    fun c hc hn => (evaluate_counters (hplace c hc) _).trans (h.others c hc hn)⟩
  · rw [hcells]
    rfl
  · rw [hcells]
    exact h.limit

theorem returnCells (h : Stands s a used frames counted t) (n : Nat) :
    Stands s a (used - n) frames counted (returnCells .inbound n t) := h.usedIn ▸ h.setUsed _

/-- A request within what the inbound side can still take is granted. -/
theorem requestCells (h : Stands s a used frames counted t) (hn : n ≤ s.cells.inboundLimit - used) :
    ∃ v, requestCells .inbound n t = some v ∧ Stands s a (used + n) frames counted v := by
  rw [← h.limit, ← h.usedIn, ← availIn_eq] at hn
  exact ⟨_, if_pos hn, h.usedIn ▸ h.setUsed _⟩

/-- A request past what the inbound side can still take fails. -/
theorem requestCells_fails (h : Stands s a used frames counted t) (hn : s.cells.inboundLimit - used < n) :
    Machine.requestCells .inbound n t = none := by
  rw [← h.limit, ← h.usedIn, ← availIn_eq] at hn
  exact requestCells_none.2 hn

/-! ### Frames complete (R161, R162, R163) -/

theorem lanAccept_down {f : LanFrame} (h : Stands s a used frames counted t)
    (hlink : s.lan.linkUp = false) (hnew : .lanDown ∉ counted) :
    Stands s a (used - f.cells) frames (.lanDown :: counted) (lanAccept f t) := by
  rw [lanAccept, h.linkUp, hlink]
  exact (h.count (by decide) hnew).returnCells _

theorem lanAccept_up {f : LanFrame} (h : Stands s a used frames counted t) (hlink : s.lan.linkUp = true)
    (hroom : frames.length < 8) : Stands s a used (frames ++ [f]) counted (lanAccept f t) := by
  have hfull : ¬t.lanFull = true := by
    rw [State.lanFull, h.frames, decide_eq_true_iff]
    exact Nat.not_le.2 hroom
  rw [lanAccept, h.linkUp, if_pos hlink, if_neg hfull]
  exact ⟨h.asm, h.usedIn, congrArg (· ++ [f]) h.frames, h.limit, h.linkUp, h.table, h.counts, h.others⟩

theorem asmComplete_short {octets : List Octet} (h : Stands s a used frames counted t) (hlen : octets.length < 60)
    (hnew : .assemblyMalformed ∉ counted) (need : Nat) :
    Stands s .idle (used - need) frames (.assemblyMalformed :: counted) (asmComplete octets need t) := by
  rw [asmComplete, if_pos hlen]
  exact ((h.setAsm .idle).count (by decide) hnew).returnCells need

/-- A frame long enough is delivered and handed to the LAN Port. -/
theorem delivered (h : Stands s a used frames counted t) (hnew : .framesDelivered ∉ counted) :
    Stands s .idle used frames (.framesDelivered :: counted) ((t.setAsm .idle).count .framesDelivered) :=
  (h.setAsm .idle).count (by decide) hnew

/-! ### The octets of a fragment kept (R162, R78) -/

variable {soFar : List Octet} {held : Nat} {r : FragRecord}

theorem asmKeep_long (h : Stands s a used frames counted t) (hlen : 1518 < (soFar ++ r.payload).length)
    (hnew : .assemblyOversize ∉ counted) : Stands s (.discarding true) (used - held - r.cells) frames
      (.assemblyOversize :: counted) (asmKeep soFar held r t) := by
  rw [asmKeep, if_pos hlen]
  exact (((h.setAsm _).count (by decide) hnew).returnCells held).returnCells r.cells

theorem asmKeep_noCells (h : Stands s a used frames counted t) (hlen : (soFar ++ r.payload).length ≤ 1518)
    (hcells : s.cells.inboundLimit - used < cellsFor (soFar ++ r.payload).length - held)
    (hnew : .assemblyNoCells ∉ counted) : Stands s (.discarding true) (used - held - r.cells) frames
      (.assemblyNoCells :: counted) (asmKeep soFar held r t) := by
  rw [asmKeep, if_neg (Nat.not_lt.2 hlen), if_neg (by omega), h.requestCells_fails hcells]
  exact (((h.setAsm _).returnCells held).returnCells r.cells).count (by decide) hnew

/-- The octets kept: the frame is extended by the cells it needs, and the fragment's own come back. -/
theorem asmKeep_kept (h : Stands s a used frames counted t) (hlen : (soFar ++ r.payload).length ≤ 1518)
    (hcells : cellsFor (soFar ++ r.payload).length - held ≤ s.cells.inboundLimit - used) :
    ∃ v, Stands s (.collecting (soFar ++ r.payload) (cellsFor (soFar ++ r.payload).length))
        (used + (cellsFor (soFar ++ r.payload).length - held) - r.cells) frames counted v ∧
      asmKeep soFar held r t =
        if r.fin then asmComplete (soFar ++ r.payload) (cellsFor (soFar ++ r.payload).length) v else v := by
  obtain ⟨v, hgranted, hv⟩ : ∃ v, (if cellsFor (soFar ++ r.payload).length ≤ held then some t
      else Machine.requestCells .inbound (cellsFor (soFar ++ r.payload).length - held) t) = some v ∧
        Stands s a (used + (cellsFor (soFar ++ r.payload).length - held)) frames counted v := by
    split
    · rename_i hheld
      rw [Nat.sub_eq_zero_of_le hheld]
      exact ⟨t, rfl, h⟩
    · exact h.requestCells hcells
  refine ⟨_, (hv.setAsm _).returnCells r.cells, ?_⟩
  rw [asmKeep, if_neg (Nat.not_lt.2 hlen), hgranted]

end Stands

end Sys2Proof.Machine

/-! PROOFS. A fragment that arrives at NES over an empty store goes through the Frame Assembler's table (O36: R161, R162,
R163, R78, R147). -/

namespace Sys2Proof.Machine

variable {p : PairNo} {s t v w : State} {r : FragRecord} {a : Assembler} {used : Nat} {counted : List BondCounter}
  {octets : List Octet} {need held : Nat}

/-! ### The outcomes of the table -/

/-- Whatever stands so at `v` stands so at `t`: what the gap step does after the fragment is handed on. -/
def Follows (s v t : State) : Prop :=
  ∀ ⦃a : Assembler⦄ ⦃used : Nat⦄ ⦃frames : List LanFrame⦄ ⦃counted : List BondCounter⦄,
    Stands s a used frames counted v → Stands s a used frames counted t

/-- One more event counted. -/
def Counts (s t : State) (c : BondCounter) : Prop := t.counter c = countUp (s.counter c) 1

/-- A frame of `need` cells completes at `t`, where a partial frame held `held` (R161, R162, R163). -/
def Completes (s : State) (octets : List Octet) (need held : Nat) (t : State) : Prop :=
  t.asm = .idle ∧
  (octets.length < 60 → t.cells.usedIn = s.cells.usedIn - held ∧ Counts s t .assemblyMalformed) ∧
  (60 ≤ octets.length → Counts s t .framesDelivered ∧
    (s.lan.linkUp = true → t.cells.usedIn = s.cells.usedIn + need - held ∧
      t.lan.txQueue = s.lan.txQueue ++ [{ octets := octets, cells := need }]) ∧
    (s.lan.linkUp = false → t.cells.usedIn = s.cells.usedIn - held ∧ t.lan.txQueue = s.lan.txQueue ∧
      Counts s t .lanDown))

/-- A fragment begins a frame at `t`, after a partial frame that held `held` cells (R161, R162, R78). -/
def Begins (s : State) (fin : Bool) (payload : List Octet) (held : Nat) (t : State) : Prop :=
  let cells := ceilDiv payload.length 128
  (2 * cells ≤ s.cells.availIn + held →
    (fin = false → t.asm = .collecting payload cells ∧ t.cells.usedIn = s.cells.usedIn + cells - held) ∧
    (fin = true → Completes s payload cells held t)) ∧
  (s.cells.availIn + held < 2 * cells →
    t.asm = .discarding true ∧ t.cells.usedIn = s.cells.usedIn - held ∧ Counts s t .assemblyNoCells)

/-- A complete frame is tested, and handed to a LAN Port with room: with the fragment's cells given back, the frame holds
the cells it needs, and what has counted before stays counted. -/
theorem Stands.completes (h : Stands s a used s.lan.txQueue counted w) (hroom : s.lan.txQueue.length < 8)
    (hused : used = s.cells.usedIn + need - held) (hback : used - need = s.cells.usedIn - held)
    (hcounted : counted ⊆ [.truncated]) (hf : Follows s (asmComplete octets need w) t) :
    Completes s octets need held t ∧ ∀ c ∈ counted, Counts s t c := by
  have hnew : ∀ c, c ≠ .truncated → c ∉ counted := fun c hc hm => hc (List.mem_singleton.1 (hcounted hm))
  by_cases hlen : octets.length < 60
  · have ht := hf (h.asmComplete_short hlen (hnew _ (by decide)) need)
    exact ⟨⟨ht.asm, fun _ => ⟨ht.usedIn.trans hback, ht.counts _ List.mem_cons_self⟩,
      fun hl => absurd hlen (Nat.not_lt.2 hl)⟩, fun c hc => ht.counts c (List.mem_cons_of_mem _ hc)⟩
  · rw [asmComplete, if_neg hlen] at hf
    have hd := h.delivered (hnew .framesDelivered (by decide))
    cases hlink : s.lan.linkUp with
    | true =>
      have ht := hf (hd.lanAccept_up hlink hroom)
      exact ⟨⟨ht.asm, fun hl => absurd hl hlen, fun _ => ⟨ht.counts _ List.mem_cons_self,
        fun _ => ⟨ht.usedIn.trans hused, ht.frames⟩, fun hl => (nomatch hlink.symm.trans hl)⟩⟩,
        fun c hc => ht.counts c (List.mem_cons_of_mem _ hc)⟩
    | false =>
      have hdown : .lanDown ∉ BondCounter.framesDelivered :: counted := fun hm =>
        (List.mem_cons.1 hm).elim (fun e => nomatch e) (hnew _ (by decide))
      have ht := hf (hd.lanAccept_down hlink hdown)
      exact ⟨⟨ht.asm, fun hl => absurd hl hlen, fun _ =>
        ⟨ht.counts _ (List.mem_cons_of_mem _ List.mem_cons_self), fun hl => (nomatch hlink.symm.trans hl),
          fun _ => ⟨ht.usedIn.trans hback, ht.frames, ht.counts _ List.mem_cons_self⟩⟩⟩,
        fun c hc => ht.counts c (List.mem_cons_of_mem _ (List.mem_cons_of_mem _ hc))⟩

/-- The octets kept: the frame goes on, or is complete. -/
theorem Stands.keeps {soFar : List Octet} {m : Nat} (h : Stands s a used s.lan.txQueue counted w)
    (hroom : s.lan.txQueue.length < 8) (hlen : (soFar ++ r.payload).length ≤ 1518)
    (hneed : cellsFor (soFar ++ r.payload).length = need) (hcells : need - m ≤ s.cells.inboundLimit - used)
    (hused : used + (need - m) - r.cells = s.cells.usedIn + need - held)
    (hback : s.cells.usedIn + need - held - need = s.cells.usedIn - held) (hcounted : counted ⊆ [.truncated])
    (hf : Follows s (asmKeep soFar m r w) t) :
    (r.fin = false → t.asm = .collecting (soFar ++ r.payload) need ∧ t.cells.usedIn = s.cells.usedIn + need - held) ∧
    (r.fin = true → Completes s (soFar ++ r.payload) need held t) ∧ ∀ c ∈ counted, Counts s t c := by
  subst need
  obtain ⟨x, hx, hkeep⟩ := h.asmKeep_kept hlen hcells
  rw [hused] at hx
  rw [hkeep] at hf
  cases hfin : r.fin with
  | false =>
    rw [hfin] at hf
    exact ⟨fun _ => ⟨(hf hx).asm, (hf hx).usedIn⟩, fun h => (nomatch h), (hf hx).counts⟩
  | true =>
    rw [if_pos hfin] at hf
    obtain ⟨hcompletes, hcounts⟩ := hx.completes hroom rfl hback hcounted hf
    exact ⟨fun h => (nomatch h), fun _ => hcompletes, hcounts⟩

/-! ### The lines of the table (R161) -/

/-- The record of a fragment that finds its cells, and room for a frame it may complete. -/
structure Arrived (s : State) (r : FragRecord) : Prop where
  cells : r.cells = ceilDiv r.payload.length 128
  some : 1 ≤ r.payload.length
  short : r.payload.length ≤ 512
  avail : r.cells ≤ s.cells.availIn
  room : s.lan.txQueue.length < 8

/-- A fragment with START, with the partial frame's cells given back. -/
theorem Arrived.begins (h : Arrived s r) (hv : Stands s a (s.cells.usedIn + r.cells - held) s.lan.txQueue counted w)
    (hcounted : counted ⊆ [.truncated]) (hf : Follows s (asmKeep [] 0 r w) t) :
    Begins s r.fin r.payload held t ∧ ∀ c ∈ counted, Counts s t c := by
  obtain ⟨hcells, hsome, hshort, havail, hroom⟩ := h
  have hone : 1 ≤ r.cells := by rw [hcells, ceilDiv]; omega
  have hneed : cellsFor ([] ++ r.payload).length = r.cells := hcells.symm
  have hlen : ([] ++ r.payload).length ≤ 1518 := Nat.le_trans hshort (by decide)
  rw [availIn_eq] at havail
  rw [Begins, ← hcells, availIn_eq]
  by_cases hfree : 2 * r.cells ≤ s.cells.inboundLimit - s.cells.usedIn + held
  · obtain ⟨hmore, hcompletes, hcounts⟩ := hv.keeps (held := held) hroom hlen hneed (by omega) (by omega) (by omega) hcounted hf
    exact ⟨⟨fun _ => ⟨hmore, hcompletes⟩, fun hfull => absurd hfree (Nat.not_le.2 hfull)⟩, hcounts⟩
  · have ht := hf (hv.asmKeep_noCells hlen (by omega) fun hm => nomatch List.mem_singleton.1 (hcounted hm))
    exact ⟨⟨fun h => absurd h hfree, fun _ => ⟨ht.asm, ht.usedIn.trans (by omega), ht.counts _ List.mem_cons_self⟩⟩,
      fun c hc => ht.counts c (List.mem_cons_of_mem _ hc)⟩

/-- The state in which the Assembler takes the fragment: its cells are asked for, and nothing else has changed. -/
abbrev Takes (s : State) (r : FragRecord) (v : State) : Prop :=
  Stands s s.asm (s.cells.usedIn + r.cells) s.lan.txQueue [] v

theorem takes_orphan (hv : Takes s r v) (ha : s.asm = .idle) (hs : r.start = false) (hf : Follows s (asmTake r v) t) :
    t.asm = .idle ∧ t.cells.usedIn = s.cells.usedIn ∧ Counts s t .orphan := by
  have htake : asmTake r v = returnCells .inbound r.cells (v.count .orphan) := by rw [asmTake, hs, hv.asm, ha]
  rw [htake] at hf
  have ht := hf ((hv.count (c := .orphan) (by decide) List.not_mem_nil).returnCells r.cells)
  exact ⟨ht.asm.trans ha, ht.usedIn.trans (Nat.add_sub_cancel ..), ht.counts _ List.mem_cons_self⟩

theorem takes_discarding {charged : Bool} (hv : Takes s r v) (ha : s.asm = .discarding charged) (hs : r.start = false)
    (hf : Follows s (asmTake r v) t) :
    t.asm = (if r.fin then .idle else .discarding true) ∧ t.cells.usedIn = s.cells.usedIn ∧
      (charged = false → Counts s t .broken) ∧ (charged = true → t.counter .broken = s.counter .broken) := by
  have htake : asmTake r v = returnCells .inbound r.cells
      ((if charged then v else v.count .broken).setAsm (if r.fin then .idle else .discarding true)) := by
    rw [asmTake, hs, hv.asm, ha]
  rw [htake] at hf
  cases charged with
  | true =>
    have ht := hf ((hv.setAsm _).returnCells r.cells)
    exact ⟨ht.asm, ht.usedIn.trans (Nat.add_sub_cancel ..), fun h => (nomatch h),
      fun _ => ht.others _ (by decide) List.not_mem_nil⟩
  | false =>
    have ht := hf (((hv.count (c := .broken) (by decide) List.not_mem_nil).setAsm _).returnCells r.cells)
    exact ⟨ht.asm, ht.usedIn.trans (Nat.add_sub_cancel ..), fun _ => ht.counts _ List.mem_cons_self, fun h => (nomatch h)⟩

/-- A fragment with START where no frame is under way. -/
theorem takes_begins (h : Arrived s r) (hv : Takes s r v) (ha : ∀ octets held, s.asm ≠ .collecting octets held)
    (hs : r.start = true) (hf : Follows s (asmTake r v) t) : Begins s r.fin r.payload 0 t := by
  have hdiscard : asmDiscard .truncated v = v := by
    rw [asmDiscard, hv.asm]
    split
    · exact absurd ‹_› (ha _ _)
    · rfl
  rw [asmTake, hs] at hf
  exact (h.begins (by exact hv) (List.nil_subset _) (hdiscard ▸ hf)).1

/-- A fragment with START while a frame is under way (R161). -/
theorem takes_truncated (h : Arrived s r) (hv : Takes s r v) (ha : s.asm = .collecting octets held)
    (hs : r.start = true) (hf : Follows s (asmTake r v) t) :
    Counts s t .truncated ∧ Begins s r.fin r.payload held t := by
  have hdiscard : asmDiscard .truncated v = returnCells .inbound held (v.count .truncated) := by
    rw [asmDiscard, hv.asm, ha]
  rw [asmTake, hs, hdiscard] at hf
  obtain ⟨hbegins, hcounts⟩ :=
    h.begins ((hv.count (by decide) List.not_mem_nil).returnCells held) (List.Subset.refl _) hf
  exact ⟨hcounts _ List.mem_cons_self, hbegins⟩

/-- A fragment without START while a frame is under way (R161, R162, R78). -/
def Extends (s : State) (fin : Bool) (payload octets : List Octet) (held : Nat) (t : State) : Prop :=
  let cells := ceilDiv payload.length 128
  let length := octets.length + payload.length
  let need := ceilDiv length 128
  (1518 < length → t.asm = .discarding true ∧ t.cells.usedIn = s.cells.usedIn - held ∧ Counts s t .assemblyOversize) ∧
  (length ≤ 1518 → cells + (need - held) ≤ s.cells.availIn →
    (fin = false → t.asm = .collecting (octets ++ payload) need ∧ t.cells.usedIn = s.cells.usedIn + (need - held)) ∧
    (fin = true → Completes s (octets ++ payload) need held t)) ∧
  (length ≤ 1518 → s.cells.availIn < cells + (need - held) →
    t.asm = .discarding true ∧ t.cells.usedIn = s.cells.usedIn - held ∧ Counts s t .assemblyNoCells)

theorem takes_extends (h : Arrived s r) (hv : Takes s r v) (ha : s.asm = .collecting octets held)
    (hheld : held = ceilDiv octets.length 128) (hs : r.start = false) (hf : Follows s (asmTake r v) t) :
    Extends s r.fin r.payload octets held t := by
  obtain ⟨hcells, -, -, havail, hroom⟩ := h
  have hneed : cellsFor (octets ++ r.payload).length = ceilDiv (octets.length + r.payload.length) 128 := by
    rw [List.length_append]
    rfl
  have hmore : held ≤ ceilDiv (octets.length + r.payload.length) 128 := by
    rw [hheld]
    exact cellsFor_mono (Nat.le_add_right ..)
  have hlength : (octets ++ r.payload).length = octets.length + r.payload.length := List.length_append
  have htake : asmTake r v = asmKeep octets held r v := by rw [asmTake, hs, hv.asm, ha]
  rw [htake] at hf
  rw [availIn_eq] at havail
  rw [Extends, ← hcells, availIn_eq]
  generalize ceilDiv (octets.length + r.payload.length) 128 = need at *
  have hback : s.cells.usedIn + r.cells - held - r.cells = s.cells.usedIn - held := by omega
  refine ⟨fun hlong => ?_, fun hlen hfree => ?_, fun hlen hfull => ?_⟩
  · have ht := hf (hv.asmKeep_long (by omega) List.not_mem_nil)
    exact ⟨ht.asm, ht.usedIn.trans hback, ht.counts _ List.mem_cons_self⟩
  · rw [← Nat.add_sub_assoc hmore]
    obtain ⟨hmore, hcompletes, -⟩ :=
      hv.keeps (held := held) hroom (by omega) hneed (by omega) (by omega) (by omega) (List.nil_subset _) hf
    exact ⟨hmore, hcompletes⟩
  · have ht := hf (hv.asmKeep_noCells (by omega) (by omega) List.not_mem_nil)
    exact ⟨ht.asm, ht.usedIn.trans hback, ht.counts _ List.mem_cons_self⟩

end Sys2Proof.Machine

/-! PROOFS. DATA that arrives at NES over an empty store is handed on at once, and nothing that follows touches what the
Frame Assembler made of it (O36: R136, R137, R147, R149, R152). -/

namespace Sys2Proof.Machine

variable {p : PairNo} {m : Seq} {s t v : State} {r : FragRecord} {a : Assembler} {used : Nat} {frames : List LanFrame}
  {counted : List BondCounter}

/-! ### What follows a record handed on (R149, R152) -/

theorem Follows.refl (s t : State) : Follows s t t := fun _ _ _ _ h => h

theorem Follows.trans {u : State} (h : Follows s t u) (k : Follows s u v) : Follows s t v := fun _ _ _ _ ht => k (h ht)

/-- The store is empty and pair `p` is live: the receiver has nothing to deliver, and stays as it is. -/
structure Waits (p : PairNo) (t : State) : Prop where
  window : t.rx.window = []
  live : (t.mark p).isSome = true

theorem gapTimerStep_follows (s t : State) : Follows s t (gapTimerStep t) := by
  intro _ _ _ _ h
  unfold gapTimerStep
  split
  · split
    · exact h.modRx _
    · exact h
  · exact h.modRx _

theorem flushStep_follows (s t : State) : Follows s t (flushStep t) := by
  intro _ _ _ _ h
  unfold flushStep
  split
  · split
    · exact (h.modRx _).raise _
    · exact h
  · exact h

/-- With a pair live the receiver stays SYNCED (R128). -/
theorem unsyncStep_of_live (h : (t.mark p).isSome = true) : unsyncStep t = t := by
  have hlive : ¬t.liveEmpty = true := fun he => by
    rw [mark_none_of_liveEmpty he p] at h
    cases h
  simp [unsyncStep, hlive]

theorem Waits.gapStep (h : Waits p t) : Waits p (gapStep t) :=
  ⟨((gapStep_sync t).store h.window).1, by rw [(gapStep_sync t).mark, h.live]⟩

theorem Waits.gapStep_follows (h : Waits p t) (s : State) : Follows s t (Machine.gapStep t) := by
  rw [gapStep_of_gapMove_none (gapMove_of_empty h.window), unsyncStep_of_live (p := p)]
  · exact (gapTimerStep_follows s t).trans (flushStep_follows s _)
  · rw [((gapTimerStep_sync t).trans (flushStep_sync _)).mark, h.live]

theorem Waits.takeTells_follows (h : Waits p t) (n : Nat) (s : State) : Follows s t (takeTells n t) := by
  induction n generalizing t with
  | zero => exact .refl s t
  | succ n ih =>
    unfold takeTells
    split
    · exact .refl s t
    · rename_i b rest _
      have htaken : Waits p { t with cells := { t.cells with tells := rest }, rx := { t.rx with pressureFlag := b } } :=
        ⟨h.window, h.live⟩
      refine Follows.trans ?_ ((htaken.gapStep_follows s).trans (ih htaken.gapStep))
      exact fun _ _ _ _ hs => hs.of_eq rfl rfl rfl rfl rfl

/-! ### The record handed on (R147) -/

/-- The receiver holds one record, the one at NES, and can deliver it. -/
structure Delivers (p : PairNo) (r : FragRecord) (v : State) : Prop where
  synced : v.rx.synced = true
  running : v.rx.paused = false
  window : v.rx.window = [r]
  seq : r.seq = v.rx.nes
  room : v.lan.txQueue.length < 8
  live : (v.mark p).isSome = true

theorem handOn_follows (s : State) (r : FragRecord) (v : State) : Follows s (asmTake r v) (handOn r v) := by
  intro _ _ _ _ hs
  unfold handOn State.setNes
  exact (hs.modRx _).modRx _

theorem Delivers.gapMove (h : Delivers p r v) : gapMove v = some (handOn r v) := by
  have hfull : v.lanFull = false := decide_eq_false (Nat.not_le.2 h.room)
  have hstored : lookup (slotOf v.rx.nes) v.rx.window = some r := by
    rw [h.window, ← h.seq]
    simp [lookup]
  simp [Machine.gapMove, h.synced, h.running, hstored, wouldPause, hfull]

theorem Delivers.waits (h : Delivers p r v) : Waits p (handOn r v) := by
  refine ⟨?_, ?_⟩
  · rw [handOn_window, h.window]
    simp [eraseSlot]
  · rw [State.mark, (handOn_core r v).live]
    exact h.live

theorem Delivers.gapStep (h : Delivers p r v) : Machine.gapStep v = Machine.gapStep (handOn r v) := by
  have hnone : Machine.gapMove (handOn r v) = none := gapMove_of_empty h.waits.window
  rw [gapStep_of_gapMove_none hnone, Machine.gapStep, h.window]
  show Machine.unsyncStep (flushStep (gapTimerStep (gapMoves (3 + 1) v))) = _
  rw [gapMoves, h.gapMove]
  show Machine.unsyncStep (flushStep (gapTimerStep (gapMoves (2 + 1) (handOn r v)))) = _
  rw [gapMoves, hnone]

/-- The record is handed on, NES moves past it, and the Frame Assembler is left as it stands after it. -/
theorem Delivers.rxFollow (h : Delivers p r v) (s : State) : Follows s (asmTake r v) (rxFollow v) ∧
    (Machine.rxFollow v).rx.nes = v.rx.nes + 1 ∧ (Machine.rxFollow v).rx.window = [] := by
  have hwaits := h.waits
  have hsync := (gapStep_sync (handOn r v)).trans (drainTells_sync _)
  obtain ⟨hwindow, hnes, -⟩ := hsync.store hwaits.window
  rw [Machine.rxFollow, h.gapStep]
  refine ⟨?_, hnes.trans (handOn_nes r v), hwindow⟩
  exact ((handOn_follows s r v).trans (hwaits.gapStep_follows s)).trans (hwaits.gapStep.takeTells_follows _ s)

/-! ### The fragment stored (R136, R137) -/

theorem advanceMark_stands (h : Stands s a used frames counted t) (p : PairNo) (m : Seq) :
    Stands s a used frames counted (advanceMark p m t) := by
  unfold advanceMark
  split
  · split
    · exact h.of_eq rfl rfl rfl rfl rfl
    · exact h
  · exact h

/-- An advance of a mark leaves the receiver but for that mark, which stays. -/
theorem advanceMark_rx (p : PairNo) (m : Seq) (t : State) :
    (advanceMark p m t).rx = { t.rx with live := (advanceMark p m t).rx.live } ∧
    ((t.mark p).isSome = true → ((advanceMark p m t).mark p).isSome = true) := by
  unfold advanceMark
  split
  · split
    · exact ⟨rfl, fun _ => by rw [mark_setMark]; rfl⟩
    · exact ⟨rfl, id⟩
  · exact ⟨rfl, id⟩

/-- A fragment over an empty store that finds its cells is stored alone. -/
theorem storeData_alone (hwindow : t.rx.window = []) (h : Stands s a used frames counted t) (q : Seq) (start fin : Bool)
    {payload : List Octet} (hcells : cellsFor payload.length ≤ s.cells.inboundLimit - used) :
    Stands s a (used + cellsFor payload.length) frames counted (storeData q start fin payload t) ∧
    (storeData q start fin payload t).rx = { t.rx with window :=
      [{ seq := q, start := start, fin := fin, cells := cellsFor payload.length, payload := payload }] } := by
  obtain ⟨v, hgranted, hv⟩ := h.requestCells hcells
  have hrx := (requestCells_still hgranted).rx
  rw [storeData, hgranted]
  refine ⟨hv.modRx _, ?_⟩
  simp only [modRx_rx, hrx, hwindow, insertRecord]

/-- The record of a fragment that arrives at NES. -/
def State.recordAtNes (s : State) (start fin : Bool) (payload : List Octet) : FragRecord :=
  { seq := s.rx.nes, start := start, fin := fin, cells := cellsFor payload.length, payload := payload }

/-- DATA at NES counted and its mark taken, before it is stored (R13, R136). -/
def State.markedAtNes (p : PairNo) (s : State) : State :=
  advanceMark p (s.rx.nes + 1) ((s.countPair p .fragmentsReceived).count .dataArrived)

theorem markedAtNes_stands (p : PairNo) (s : State) :
    Stands s s.asm s.cells.usedIn s.lan.txQueue [] (s.markedAtNes p) := by
  have hcounted : Stands s s.asm s.cells.usedIn s.lan.txQueue [] (s.countPair p .fragmentsReceived) :=
    (Stands.refl s).of_eq rfl rfl rfl rfl rfl
  exact advanceMark_stands (hcounted.count_other (by decide)) p _

theorem markedAtNes_rx (p : PairNo) (s : State) :
    (s.markedAtNes p).rx = { s.rx with live := (s.markedAtNes p).rx.live } := (advanceMark_rx ..).1

theorem markedAtNes_live (h : s.mark p = some m) : ((s.markedAtNes p).mark p).isSome = true :=
  (advanceMark_rx ..).2 (congrArg Option.isSome h)

/-- DATA at NES is stored, for its distance is 0 and its slot empty (R136). -/
theorem rxData_eq_follow (hmark : s.mark p = some m) (hwindow : s.rx.window = []) (start fin : Bool)
    (payload : List Octet) : rxData p start fin s.rx.nes payload (s.countPair p .fragmentsReceived) =
      rxFollow (storeData s.rx.nes start fin payload (s.markedAtNes p)) := by
  have hrx := markedAtNes_rx p s
  have hlive : ((s.countPair p .fragmentsReceived).count .dataArrived).isLive p = true := congrArg Option.isSome hmark
  have hdist : dist s.rx.nes (s.markedAtNes p).rx.nes < 1024 := by
    rw [hrx]
    exact (dist_self s.rx.nes).trans_lt (by decide)
  have hempty : lookup (slotOf s.rx.nes) (s.markedAtNes p).rx.window = none := by
    rw [hrx, hwindow]
    rfl
  unfold State.markedAtNes at hdist hempty ⊢
  simp only [rxData, hlive, hdist, hempty, if_true]

/-- DATA at NES over an empty store: stored alone, and then delivered (R136, R137, R147). -/
theorem rxData_atNes (hmark : s.mark p = some m) (hsynced : s.rx.synced = true) (hwindow : s.rx.window = [])
    (hrunning : s.rx.paused = false) (hroom : s.lan.txQueue.length < 8) {start fin : Bool} {payload : List Octet}
    (hcells : cellsFor payload.length ≤ s.cells.availIn) : ∃ v, Takes s (s.recordAtNes start fin payload) v ∧
      Delivers p (s.recordAtNes start fin payload) v ∧ v.rx.nes = s.rx.nes ∧
      rxData p start fin s.rx.nes payload (s.countPair p .fragmentsReceived) = rxFollow v := by
  have hrx := markedAtNes_rx p s
  rw [availIn_eq] at hcells
  obtain ⟨hstands, hstored⟩ :=
    storeData_alone (by rw [hrx]; exact hwindow) (markedAtNes_stands p s) s.rx.nes start fin hcells
  have hnes : (storeData s.rx.nes start fin payload (s.markedAtNes p)).rx.nes = s.rx.nes := by
    rw [hstored, hrx]
  refine ⟨_, hstands, ⟨?_, ?_, ?_, hnes.symm, ?_, ?_⟩, hnes, rxData_eq_follow hmark hwindow start fin payload⟩
  · rw [hstored, hrx]
    exact hsynced
  · rw [hstored, hrx]
    exact hrunning
  · rw [hstored]
    rfl
  · rw [hstands.frames]
    exact hroom
  · rw [State.mark, hstored]
    exact markedAtNes_live hmark

/-! ### The obligation -/

/-- Settles O36: the fragment is stored, handed on to the Frame Assembler, and taken by the line of the table for the
Assembler's state and the fragment's START. -/
theorem assemblerFollowsItsTable : Obligations.AssemblerFollowsItsTable := by
  unfold Obligations.AssemblerFollowsItsTable
  intro s p m start fin payload hfit hpresent hheld hsome hshort hmark hsynced hwindow hrunning hroom hasm cells used hcells
  obtain ⟨v, htakes, hdelivers, hnes, hdata⟩ :=
    rxData_atNes (start := start) (fin := fin) hmark hsynced hwindow hrunning hroom hcells
  obtain ⟨hf, hnext, hempty⟩ := hdelivers.rxFollow s
  have harrived : Arrived s (s.recordAtNes start fin payload) := ⟨rfl, hsome, hshort, hcells, hroom⟩
  have hframe := rxData_frame p start fin s.rx.nes payload (s.countPair p .fragmentsReceived)
  rw [hdata] at hframe
  have hexec := exec_fragment (f := .data start fin s.rx.nes payload) hfit hpresent ⟨hsome, hshort⟩
  rw [route, hdata, redecide_of_not_held ((congrArg Dispatcher.held hframe.disp).trans hheld)] at hexec
  refine ⟨_, hexec, hframe, by rw [hnext, hnes], hempty, fun ha hs => takes_orphan htakes ha hs hf, fun ha hs => ?_,
    fun charged ha hs => takes_discarding htakes ha hs hf, fun octets held ha hs => ?_,
    fun octets held ha hs => takes_extends harrived htakes ha (hasm octets held ha) hs hf⟩
  · refine takes_begins harrived htakes (fun octets held hc => ?_) hs hf
    obtain ha | ⟨charged, ha⟩ := ha <;> exact nomatch ha.symm.trans hc
  · exact takes_truncated harrived htakes ha hs hf

end Sys2Proof.Machine
